-- ==== Sys2Proof/Word.lean ====
section
/-! DEFINITION. The word types of the WN-418: link characters, store words, strip-buffer lines and scanner samples. -/

namespace Sys2Proof

/-- A character of the control link, and a byte of a block body (section 10.1). -/
abbrev Byte := BitVec 8

/-- A store word: 64 horizontally adjacent dots, bit p the dot at place p, 1 black (R101). -/
abbrev StoreWord := BitVec 64

/-- One line of a strip buffer: up to 32,768 dots, bit x the dot at x, 1 black (R49, section 3.1). -/
abbrev Line := BitVec 32768

/-- One scanner sample, 0..4095 (section 8.1). -/
abbrev Sample := BitVec 12

/-- One scan line as the scanner delivers it: a sample per element (R135). -/
abbrev ScanLine := List Sample

end Sys2Proof
end

