-- ==== Sys2Proof/Config.lean ====
section
/-! DEFINITION. What the part fixes (sizes and limits, each with its rule) and the one free value: what a store word reads
as that nothing has written since the last full reset. -/

namespace Sys2Proof.Config

/-- Store words in the band store (R101). -/
def storeWords : Nat := 67108864
/-- Scanner elements (section 8.1). -/
def elements : Nat := 2048
/-- The Intake Queue's byte budget (R36). -/
def intakeBudget : Nat := 262144
/-- Block records the Intake Queue holds at most (R36). -/
def intakeDepth : Nat := 32
/-- Entries of the outstanding-request table (R171). -/
def outstandingMax : Nat := 16
/-- Places of the busy list (R172). -/
def busyMax : Nat := 4
/-- Entries of the inspection queue (R17). -/
def processorPlates : Nat := 4
/-- Records of the defect pool (R147). -/
def poolRecords : Nat := 512
/-- Places of the open-defect table (R147). -/
def openMax : Nat := 32
/-- Lines of the line FIFO (R144). -/
def fifoLines : Nat := 4
/-- Weak elements a WHITE phase may find and still succeed (R139). -/
def weakMax : Nat := 64
/-- Lines of a calibration phase (R137). -/
def calibrationLines : Nat := 16
/-- Bytes of a block header (section 10.9). -/
def headerBytes : Nat := 19
/-- Bytes of a window record (section 10.9). -/
def windowBytes : Nat := 10
/-- Where the counts of R2, R38, R136, R169, R172 hold. -/
def countHold : Nat := 65535

/-- FREE VALUE (log entry 5): what a burst read finds in a store word not written since the last full reset, whose contents
R101 and R111 call undefined. The first argument is `Store.seed`, which every read burst advances; the second is the
word's address. It has no body: nothing can be proved of its values. -/
opaque undefinedWord : Nat → Nat → StoreWord

end Sys2Proof.Config
end

