-- ==== Sys2Proof/Syntax.lean ====
section
/-! DEFINITION. The commands: one constructor per row of spec/opcode_table.json.

A request row is a frame of its kind that passes its check: its address byte, its tag and its body (section 10.9).
A row that is an event carries what the event brings (a line and a level, a scan line) and, where one step holds two
things that "may be taken in either order", which of them is first. -/

namespace Sys2Proof

/-- One command of the WN-418 (opcode_table.json; 95_what_each_step_holds.md). -/
inductive Instr where
  /-- CONFIGURE, kind 01h (R177). -/
  | configure (addr tag : Byte) (body : List Byte)
  /-- READ STATUS, kind 02h (R178). -/
  | readStatus (addr tag : Byte) (body : List Byte)
  /-- RESET, kind 03h, as RESET FULL (R179). -/
  | resetFull (addr tag : Byte) (body : List Byte)
  /-- RESET, kind 03h, as RESET PLATES (R179, R181). -/
  | resetPlates (addr tag : Byte) (body : List Byte)
  /-- OPEN PLATE, kind 04h (R5). -/
  | openPlate (addr tag : Byte) (body : List Byte)
  /-- STRIP BLOCK, kind 05h (R28 to R34). -/
  | stripBlock (addr tag : Byte) (body : List Byte)
  /-- APPROVE PLATE, kind 06h (R9, R10). -/
  | approvePlate (addr tag : Byte) (body : List Byte)
  /-- RELEASE PLATE, kind 07h (R21). -/
  | releasePlate (addr tag : Byte) (body : List Byte)
  /-- PRIORITY PLATE, kind 08h (R12). -/
  | priorityPlate (addr tag : Byte) (body : List Byte)
  /-- REEXPOSE PLATE, kind 09h (R22). -/
  | reexposePlate (addr tag : Byte) (body : List Byte)
  /-- READ PLATE, kind 0Ah (R23). -/
  | readPlate (addr tag : Byte) (body : List Byte)
  /-- READ STRIPS, kind 0Bh (R44). -/
  | readStrips (addr tag : Byte) (body : List Byte)
  /-- READ DEFECTS, kind 0Ch (R157). -/
  | readDefects (addr tag : Byte) (body : List Byte)
  /-- LOAD SCREEN, kind 0Dh (R80 to R82, R85). -/
  | loadScreen (addr tag : Byte) (body : List Byte)
  /-- LOAD CURVE, kind 0Eh (R83 to R85). -/
  | loadCurve (addr tag : Byte) (body : List Byte)
  /-- SET SKEW, kind 0Fh (R132). -/
  | setSkew (addr tag : Byte) (body : List Byte)
  /-- START EXPOSURE, kind 10h (R119). -/
  | startExposure (addr tag : Byte) (body : List Byte)
  /-- ABORT EXPOSURE, kind 11h (R129). -/
  | abortExposure (addr tag : Byte) (body : List Byte)
  /-- CALIBRATE SCANNER, kind 12h (R137). -/
  | calibrateScanner (addr tag : Byte) (body : List Byte)
  /-- SET INSPECTION, kind 13h (R158). -/
  | setInspection (addr tag : Byte) (body : List Byte)
  /-- SET LINES, kind 14h (R165). -/
  | setLines (addr tag : Byte) (body : List Byte)
  /-- READ LINES, kind 15h (R164). -/
  | readLines (addr tag : Byte) (body : List Byte)
  /-- CLEAR LINE EVENTS, kind 16h (R164). -/
  | clearLineEvents (addr tag : Byte) (body : List Byte)
  /-- A request whose kind byte lies outside 01h..16h (R171). -/
  | unknownKind (addr kind tag : Byte) (body : List Byte)
  /-- A frame that passes its check and is addressed elsewhere, or a broadcast of a kind not allowed (R170). -/
  | ignoredFrame (addr kind tag : Byte) (body : List Byte)
  /-- A complete frame with the check characters it carried (R169). -/
  | frameCheckFailed (addr kind tag : Byte) (body : List Byte) (check : BitVec 16)
  /-- A gap of more than 2 ms (R169). -/
  | frameGapTimeout
  /-- The last character of an answer has been sent (R173). -/
  | answerSent
  /-- The last character of a notice has been sent (R175). -/
  | noticeSent
  /-- The reset pin or power-on, with the levels of the two straps (R179, R180). -/
  | hardwareReset (straps : BitVec 2)
  /-- The Line Monitor's 1 ms tick (R161). -/
  | lineTick
  /-- The level at an input pin becomes `level` (R161). -/
  | rawLevelChange (line : Fin 8) (level : Bool)
  /-- The due edge of an input line is taken (R162). -/
  | inputEdge (line : Fin 8)
  /-- The time left of the diverter pulse runs out (R167). -/
  | diverterPulseEnd
  /-- The end of a refresh interval (R108). -/
  | refreshTimer
  /-- The burst in service completes (R107); `grantFirst` says whether the next grant is taken before the requester's next
  ask (R106 allows either). -/
  | burstComplete (grantFirst : Bool)
  /-- The refresh in service completes (R107). -/
  | refreshComplete
  /-- The decoder takes the oldest block (R37, R38). -/
  | blockTake
  /-- A decode ends (R63). -/
  | decodeEnd
  /-- The Screening Unit has set every dot of its window (R69). -/
  | windowApplied
  /-- A READY buffer becomes WRITING (R64). -/
  | stripWriteStart
  /-- A strip write completes (R65); `takeFirst` says whether the decoder's waiting take of R37 comes before the judgement of
  the held approval or after it (R38 gives both orders). -/
  | stripWriteComplete (takeFirst : Bool)
  /-- A hatch strip completes (R94). -/
  | hatchStripComplete
  /-- A pass fetch completes (R116). -/
  | passFetchComplete
  /-- A drum index pulse (R124, R126). -/
  | drumIndex
  /-- The open pass, all its positions shown, closes (R125). -/
  | passClose
  /-- The scanner's line strobe with its samples (R135). -/
  | scanLine (samples : ScanLine)
  /-- A DARK phase that has its 16 lines completes (R138). -/
  | darkCalibrationDone
  /-- A WHITE phase that has its 16 lines completes (R139). -/
  | whiteCalibrationDone
  /-- An expected line, all its bursts served, becomes FULL (R142). -/
  | expectedLineFull
  /-- A dot clock pulse (R125). -/
  | dotClockPulse
  /-- One character of the link (R169): the row's is the start character A5h, which begins a frame in HUNTING. Any other
  may come the same way (log entry 4). -/
  | startCharacter (character : Byte := 0xA5)
  deriving DecidableEq, Repr

end Sys2Proof
end

