-- ==== Sys2Proof/WellFormed.lean ====
section
/-! DEFINITION. Which terms of Instr the link and the scanner can deliver: a body fits its 16-bit length, a scan line has
2,048 samples, and a frame stands under the row whose it is. -/

namespace Sys2Proof

/-- The body length is a 16-bit field (section 10.9). -/
def bodyFits (body : List Byte) : Bool := decide (body.length ≤ 65535)

/-- The kind byte lies in 01h..16h, the request kinds (R171). -/
def knownKind (kind : Byte) : Bool := decide (1 ≤ kind.toNat ∧ kind.toNat ≤ 22)

/-- The term is a command that can arise: the check of each row's operands. -/
def Instr.wellFormed : Instr → Bool
  | .configure _ _ body | .readStatus _ _ body | .openPlate _ _ body | .stripBlock _ _ body
  | .approvePlate _ _ body | .releasePlate _ _ body | .priorityPlate _ _ body | .reexposePlate _ _ body
  | .readPlate _ _ body | .readStrips _ _ body | .readDefects _ _ body | .loadScreen _ _ body
  | .loadCurve _ _ body | .setSkew _ _ body | .startExposure _ _ body | .abortExposure _ _ body
  | .calibrateScanner _ _ body | .setInspection _ _ body | .setLines _ _ body | .readLines _ _ body
  | .clearLineEvents _ _ body => bodyFits body
  | .resetFull _ _ body => bodyFits body && body != [1]
  | .resetPlates _ _ body => bodyFits body && body != [0]
  | .unknownKind _ kind _ body => bodyFits body && !knownKind kind
  | .ignoredFrame _ _ _ body => bodyFits body
  | .frameCheckFailed _ _ _ body _ => bodyFits body
  | .scanLine samples => decide (samples.length = Config.elements)
  | .frameGapTimeout | .answerSent | .noticeSent | .hardwareReset _ | .lineTick | .rawLevelChange _ _
  | .inputEdge _ | .diverterPulseEnd | .refreshTimer | .burstComplete _ | .refreshComplete | .blockTake
  | .decodeEnd | .windowApplied | .stripWriteStart | .stripWriteComplete _ | .hatchStripComplete
  | .passFetchComplete | .drumIndex | .passClose | .darkCalibrationDone | .whiteCalibrationDone
  | .expectedLineFull | .dotClockPulse | .startCharacter _ => true

end Sys2Proof
end

