-- ==== Sys2Proof/Decode.lean ====
section
/-! DEFINITION. The command that a word spells by the table's bits. spec/opcode_table.json gives no row any bits ("fields"
is empty in all 52 rows), so no word spells a command. -/

namespace Sys2Proof

/-- The command the table's bits give the word `w` of `nbits` bits: none, for every word. -/
def decodeTableWord (_nbits _w : Nat) : Option Instr := none

end Sys2Proof
end

