-- ==== Sys2Proof/Machine/State.lean ====
section
/-! DEFINITION. The state of the WN-418 as plain data, block by block as section 1.2 of 00_scope.md lists them, and its
values after reset (R26, R46, R68, R88, R97, R111, R133, R159, R168, R180). INVENTORY.md names the rule of each field. -/

namespace Sys2Proof.Machine

/-- The reasons the machine stops. -/
inductive Fault where
  /-- Raised by BURST_COMPLETE when the burst in service reaches past the band store's last word (R101). Safe: the spec
  says no such word exists, and no run from reset asks such a burst. -/
  | outsideStore
  deriving DecidableEq, Repr

/-- The reasons a command has no meaning. -/
inductive Refusal where
  /-- Raised by exec for a row that has no meaning yet. Safe: nothing follows from it. -/
  | notModelled (mnemonic : String)
  deriving DecidableEq, Repr

/-! ### Configuration (R177) -/

/-- The bay mode (R1). -/
inductive BayMode where
  | eight | four
  deriving DecidableEq, Repr

/-- R, the side of a scanner square in dots (R135). -/
inductive Resolution where
  | r8 | r16
  deriving DecidableEq, Repr

/-- The exposure mode (R115). -/
inductive ExposureMode where
  | manual | auto
  deriving DecidableEq, Repr

/-- The seven settings of CONFIGURE (R177). -/
structure Settings where
  bayMode : BayMode
  zoneCode : BitVec 16
  zoneMask : BitVec 16
  resolution : Resolution
  mode : ExposureMode
  /-- The diverter pulse width in steps of 10 ms, 1..255. -/
  pulseSteps : Nat
  autoRelease : Bool
  deriving DecidableEq, Repr

/-! ### Bay Manager (chapter 1) -/

/-- A plate key (R2, R3). -/
structure PlateKey where
  edition : Nat
  page : Nat
  separation : Nat
  version : Nat
  deriving DecidableEq, Repr

/-- The states of a resident bay (R2); a FREE bay holds no plate record. -/
inductive PlateState where
  | filling | approving | queued | exposing | exposed | inspecting | held
  deriving DecidableEq, Repr

/-- The damage policy (R91). -/
inductive Policy where
  | hold | hatch
  deriving DecidableEq, Repr

/-- A block's zone kind, and a strip record's source (R28, R39). -/
inductive ZoneKind where
  | common | variant
  deriving DecidableEq, Repr

/-- The state of a strip record (R39). -/
inductive StripState where
  | absent | good | damaged | missing
  deriving DecidableEq, Repr

/-- The fault cause of a strip, in the order of their codes (section 10.9). -/
inductive FaultCause where
  | none | check | zeroRun | longLine | misplaced | longStrip | shortStrip | truncated | unknownToken
  | windowSlot | windowData | windowForm
  deriving DecidableEq, Repr

/-- A strip record (R39). -/
structure StripRecord where
  state : StripState
  source : ZoneKind
  variantSeen : Bool
  cause : FaultCause
  deriving DecidableEq, Repr

/-- The cause of an exposure abort (R128 to R130; codes of section 10.9). -/
inductive AbortCause where
  | underrun | overlap | door | plateLost | head | requested | reset
  deriving DecidableEq, Repr

/-- The exposure outcome of a bay (R14, R15). -/
inductive ExposureOutcome where
  | none
  | complete
  | aborted (cause : AbortCause) (pass : Nat)
  deriving DecidableEq, Repr

/-- The verdict on a plate (R2, R154). -/
inductive Verdict where
  | none | clean | marginal | reject | unchecked | aborted
  deriving DecidableEq, Repr

/-- The sign of a run or a defect (R146, R147). -/
inductive Sign where
  | excess | loss | mixed
  deriving DecidableEq, Repr

/-- A defect record (R147). -/
structure DefectRecord where
  number : Nat
  firstLine : Nat
  lastLine : Nat
  firstElement : Nat
  lastElement : Nat
  area : Nat
  sign : Sign
  peak : Nat
  deriving DecidableEq, Repr

/-- A resident bay's record (R2). `approveEntry` is the model's link to the outstanding entry of its unanswered
APPROVE PLATE (log entry 17). -/
structure Plate where
  state : PlateState
  key : PlateKey
  w : Nat
  h : Nat
  policy : Policy
  screenSet : Byte
  curveSet : Byte
  replate : Bool
  strips : List StripRecord
  duplicates : Nat
  zoneIgnored : Nat
  outcome : ExposureOutcome
  exposures : Nat
  verdict : Verdict
  defects : List DefectRecord
  untracked : Nat
  approvalHeld : Bool
  approveEntry : Option Nat
  autoDue : Bool
  deriving DecidableEq, Repr

/-- An entry of the inspection queue (R17). -/
inductive InspectionEntry where
  | bay (n : Nat)
  | aborted (key : PlateKey)
  deriving DecidableEq, Repr

/-! ### Intake Queue (chapter 2) -/

/-- A block record: the header fields of R28 and the block body. -/
structure Block where
  key : PlateKey
  strip : Nat
  zone : ZoneKind
  zoneCode : BitVec 16
  windows : Nat
  codeLength : Nat
  bodyCheck : BitVec 32
  headerCheck : BitVec 16
  body : List Byte
  deriving DecidableEq, Repr

/-- The Intake Queue (R36) and its dropped-block count (R38). -/
structure Intake where
  queue : List Block
  dropped : Nat
  deriving DecidableEq, Repr

/-! ### Strip Decoder (chapter 3) -/

/-- What a strip buffer holds once its decode has ended (R49). -/
inductive Content where
  | image | hatch
  deriving DecidableEq, Repr

/-- A buffer's strip context (R49). -/
structure StripContext where
  bay : Nat
  key : PlateKey
  strip : Nat
  zone : ZoneKind
  w : Nat
  screenSet : Byte
  curveSet : Byte
  content : Content
  cause : FaultCause
  deriving DecidableEq, Repr

/-- How far the decode of a BUILDING buffer has come: the Screening Unit is applying the window of this number, or the
decode has ended with this cause (`none` for a finished image) and DECODE_END is to be taken (R50, R63). -/
inductive DecodeStage where
  | applying (window : Nat)
  | ended (cause : FaultCause)
  deriving DecidableEq, Repr

/-- A strip buffer (R49), its 64 lines from the strip's first. `letThrough` marks the READY buffer that a held approval
does not hold back (R66); `served` counts the bursts of a write already served (R64). -/
inductive StripBuffer where
  | free
  | building (ctx : StripContext) (block : Block) (lines : List Line) (stage : DecodeStage)
  | ready (ctx : StripContext) (lines : List Line) (letThrough : Bool)
  | writing (ctx : StripContext) (lines : List Line) (served : Nat)
  deriving DecidableEq, Repr

/-- The Strip Decoder: its two buffers and the order in which READY ones became so (R64). -/
structure Decoder where
  buffers : List StripBuffer
  readyOrder : List Nat
  deriving DecidableEq, Repr

/-! ### Screening Unit (chapter 4) -/

/-- The sample form of a window (R58). -/
inductive SampleForm where
  | companded8 | linear12
  deriving DecidableEq, Repr

/-- The merge of a window (R62). -/
inductive Merge where
  | replace | union
  deriving DecidableEq, Repr

/-- A window record that has the form R58 asks (section 10.9). -/
structure Window where
  x0 : Nat
  y0 : Nat
  width : Nat
  height : Nat
  side : Nat
  form : SampleForm
  merge : Merge
  screen : Nat
  curve : Nat
  offset : Nat
  deriving DecidableEq, Repr

/-- The window context of an APPLYING Screening Unit (R69). The clipped area is the dots x0..xEnd-1 of the lines
y0..yEnd-1; `dotsSet` are its dots (x, line) already set. -/
structure WindowContext where
  buffer : Nat
  strip : Nat
  w : Nat
  screenSet : Byte
  curveSet : Byte
  window : Window
  xEnd : Nat
  yEnd : Nat
  dotsSet : List (Nat × Nat)
  deriving DecidableEq, Repr

/-- A LOADED screen slot (R77): the tile side, the signed 16.16 stepping components, and the tile row by row. -/
structure Screen where
  side : Nat
  ax : Int
  ay : Int
  bx : Int
  bY : Int
  tile : List Nat
  deriving DecidableEq, Repr

/-- The Screening Unit: IDLE (`none`) or APPLYING, with its slots (R69, R75, R77). -/
structure Screening where
  work : Option WindowContext
  screens : List (Option Screen)
  curves : List (List Nat)
  deriving DecidableEq, Repr

/-! ### Hatch Filler (chapter 5) -/

/-- The fill context (R93); `served` is the model's count of the strip's bursts served. -/
structure FillContext where
  bay : Nat
  key : PlateKey
  w : Nat
  h : Nat
  strip : Nat
  requested : Nat
  served : Nat
  deriving DecidableEq, Repr

/-- The Hatch Filler: IDLE (`none`) or WRITING, and its fill list (R93). -/
structure Filler where
  fill : Option FillContext
  list : List Nat
  deriving DecidableEq, Repr

/-! ### Store Controller (chapter 6) -/

/-- The band store: the words written since the last full reset, addresses strictly rising (R101; log entry 6). -/
abbrev Memory := List (Nat × StoreWord)

/-- A burst (R104): its first word's address and, for a write, its 8 words. -/
structure Burst where
  addr : Nat
  write : Option (List StoreWord)
  deriving DecidableEq, Repr

/-- Who asks bursts (R104). -/
inductive Asker where
  | prefetch | inspect | decoder | filler
  deriving DecidableEq, Repr

/-- What is in service (R105); `live` is false once the asker has stopped the work (R109). -/
inductive Service where
  | idle
  | burst (asker : Asker) (b : Burst) (live : Bool)
  | refresh
  deriving DecidableEq, Repr

/-- The Store Controller (R101, R104, R105, R108). `seed` numbers the free values of unwritten words (log entry 5). -/
structure Store where
  memory : Memory
  seed : Nat
  owed : Nat
  timer : Bool
  service : Service
  prefetch : Option Burst
  inspect : Option Burst
  writer : List (Asker × Burst)
  deriving DecidableEq, Repr

/-! ### Exposure Controller (chapter 7) -/

/-- The exposure state (R115). -/
inductive ExposureState where
  | idle | loading | waiting | writing
  deriving DecidableEq, Repr

/-- A pass buffer (R116): the pass it holds or receives, and its words in address order. -/
inductive PassBuffer where
  | empty
  | fetching (pass : Nat) (words : List StoreWord)
  | full (pass : Nat) (words : List StoreWord)
  | emitting (pass : Nat) (words : List StoreWord)
  deriving DecidableEq, Repr

/-- The last outcome of the Exposure Controller (R115). -/
inductive LastOutcome where
  | none
  | complete (bay : Nat) (key : PlateKey)
  | aborted (cause : AbortCause) (pass : Nat) (begun : Bool) (bay : Nat) (key : PlateKey)
  deriving DecidableEq, Repr

/-- The Exposure Controller (R115), its exposure mode being a setting. `nextFetch` is the lowest pass not yet fetched
(R116); `emitters` are the 32 lanes, bit k lit (R114). -/
structure Exposure where
  state : ExposureState
  current : Option (Nat × PlateKey)
  passCount : Nat
  passLength : Nat
  passCounter : Nat
  position : Nat
  passOpen : Bool
  prefetchPass : Option Nat
  nextFetch : Nat
  buffers : List PassBuffer
  skews : List Nat
  spent : Bool
  autoHold : Bool
  last : LastOutcome
  emitters : BitVec 32
  deriving DecidableEq, Repr

/-! ### Inspection Unit (chapter 8) -/

/-- A calibration phase (R137). -/
inductive Phase where
  | dark | white
  deriving DecidableEq, Repr

/-- The inspection settings (R136, R158). -/
structure InspectionSettings where
  thr : Nat
  q : Nat
  pre : Nat
  post : Nat
  minArea : Nat
  rejectArea : Nat
  deriving DecidableEq, Repr

/-- The calibration context (R136, R137); `entry` is the outstanding entry of its request (log entry 17). -/
structure Calibration where
  phase : Phase
  lines : Nat
  sums : List Nat
  entry : Option Nat
  deriving DecidableEq, Repr

/-- The expected line (R136, R142): for one scan line, the words fetched so far, or the coverage of each element. -/
inductive ExpectedLine where
  | empty
  | fetching (line : Nat) (words : List StoreWord)
  | full (line : Nat) (coverage : List Nat)
  deriving DecidableEq, Repr

/-- An open defect (R147): its record's number and its current range, as the extended ranges that make it up. -/
structure OpenDefect where
  number : Nat
  ranges : List (Nat × Nat)
  deriving DecidableEq, Repr

/-- The scan context (R136) with the FIFO, the expected line, the open-defect table and the next defect number. -/
structure Scan where
  bay : Nat
  key : PlateKey
  settings : InspectionSettings
  received : Nat
  next : Nat
  lagged : Bool
  drift : List Int
  fifo : List ScanLine
  expected : ExpectedLine
  openDefects : List OpenDefect
  nextNumber : Nat
  deriving DecidableEq, Repr

/-- What the Inspection Unit is doing (R136). -/
inductive InspectionUnit where
  | idle
  | calibrating (c : Calibration)
  | scanning (sc : Scan)
  deriving DecidableEq, Repr

/-- How a calibration ended (R138 to R140). -/
inductive CalibrationOutcome where
  | done | failed | aborted
  deriving DecidableEq, Repr

/-- The last calibration (R136). -/
structure LastCalibration where
  phase : Phase
  outcome : CalibrationOutcome
  weak : Nat
  deriving DecidableEq, Repr

/-- Why a verdict is UNCHECKED (R154; codes of section 10.9). -/
inductive UncheckedCause where
  | none | lagged | earlyClear | overlap
  deriving DecidableEq, Repr

/-- The last scan outcome (R136). -/
inductive LastScan where
  | none
  | verdict (v : Verdict) (cause : UncheckedCause) (bay : Nat) (key : PlateKey)
  | abortedPlate (key : PlateKey)
  | unexpected
  deriving DecidableEq, Repr

/-- The Inspection Unit (R136). -/
structure Inspection where
  work : InspectionUnit
  dark : List Nat
  gain : List Nat
  weak : List Nat
  settings : InspectionSettings
  lastCalibration : Option LastCalibration
  lastScan : LastScan
  unexpectedCount : Nat
  abortedCount : Nat
  deriving DecidableEq, Repr

/-! ### Line Monitor (chapter 9) -/

/-- An edge setting (R161). -/
inductive EdgeSetting where
  | rising | falling | both
  deriving DecidableEq, Repr

/-- An output setting (R165). -/
inductive OutputSetting where
  | low | high | auto
  deriving DecidableEq, Repr

/-- An input record (R161). `edgeDue` is the model's mark that a tick has brought the count to the setting and the line's
INPUT_EDGE is to be taken (log entry 10). -/
structure InputLine where
  raw : Bool
  debounced : Bool
  count : Nat
  debounce : Nat
  edge : EdgeSetting
  hold : Bool
  masked : Bool
  flag : Bool
  latched : Bool
  edgeDue : Bool
  deriving DecidableEq, Repr

/-- The running diverter pulse (R167): on O1 (reject) or O2 (accept), with the time left in ms. -/
structure Pulse where
  reject : Bool
  timeLeft : Nat
  deriving DecidableEq, Repr

/-- The Line Monitor (R161, R166, R167). -/
structure Lines where
  inputs : List InputLine
  o1 : OutputSetting
  o2 : OutputSetting
  o3 : OutputSetting
  pulse : Option Pulse
  deriving DecidableEq, Repr

/-! ### Link Controller (chapter 10) -/

/-- The receiver (R169): RECEIVING carries the characters after the start character. -/
inductive Receiver where
  | hunting
  | receiving (assembler : List Byte)
  deriving DecidableEq, Repr

/-- The answer statuses in the order of their codes (R173). -/
inductive Status where
  | done | accepted | badField | tooLarge | duplicatePlate | staleVersion | baysFull | noSuchPlate | late
  | notForZone | badBlock | queueFull | inUse | busy | wrongState | damageOpen | noPlate | processorFull
  | interlock | withdrawn | aborted | calibrationFailed | linkBusy
  deriving DecidableEq, Repr

/-- What an owner answers: a status and its result data (R173). -/
structure Reply where
  status : Status
  data : List Byte
  deriving DecidableEq, Repr

/-- An outstanding entry (R171); `slot` is the model's name for it (log entry 17). -/
structure Entry where
  slot : Nat
  tag : Byte
  kind : Byte
  deriving DecidableEq, Repr

/-- An answer (R173): of an outstanding entry, or a LINK BUSY answer (`slot` none). -/
structure Answer where
  slot : Option Nat
  kind : Byte
  tag : Byte
  reply : Reply
  deriving DecidableEq, Repr

/-- The transmitter (R174, R175): `dueSeen` says that the bay's auto-release due mark stood when this notice began
(R20). -/
inductive Transmitter where
  | idle
  | answer (a : Answer)
  | notice (source : Nat) (body : List Byte) (dueSeen : Bool)
  deriving DecidableEq, Repr

/-- The kind of a reset (R176). -/
inductive ResetKind where
  | hardware | full | plates
  deriving DecidableEq, Repr

/-- The Link Controller (R169 to R181). `sources` is the notice pending set, bit n source n; `fullReset` is the entry of a
RESET FULL taken and not yet carried out (R179). -/
structure Link where
  receiver : Receiver
  straps : BitVec 2
  unitAddr : BitVec 2
  outstanding : List Entry
  busy : List (Byte × Byte)
  answers : List Answer
  tx : Transmitter
  sources : BitVec 12
  pointer : Nat
  resetKind : ResetKind
  ready : Bool
  badCheck : Nat
  timeouts : Nat
  linkBusy : Nat
  dropped : Nat
  fullReset : Option Nat
  deriving DecidableEq, Repr

/-! ### The machine -/

/-- The state of the WN-418, and the queue of commands waiting. -/
structure State where
  settings : Settings
  bays : List (Option Plate)
  approvalQueue : List Nat
  inspectionQueue : List InspectionEntry
  intake : Intake
  decoder : Decoder
  screening : Screening
  filler : Filler
  store : Store
  exposure : Exposure
  inspection : Inspection
  lines : Lines
  link : Link
  pending : List Instr
  deriving DecidableEq, Repr

/-! ### Values after a hardware reset -/

/-- The configuration after a full reset (R177). -/
def Settings.reset : Settings :=
  { bayMode := .eight, zoneCode := 0, zoneMask := 0, resolution := .r8, mode := .manual, pulseSteps := 20,
    autoRelease := false }

/-- The Strip Decoder after any reset (R68). -/
def Decoder.reset : Decoder := { buffers := [.free, .free], readyOrder := [] }

/-- The identity curve (R88). -/
def identityCurve : List Nat := (List.range 65).map fun k => min (64 * k) 4095

/-- The Screening Unit after a full reset (R88). -/
def Screening.reset : Screening :=
  { work := none, screens := List.replicate 8 none, curves := List.replicate 4 identityCurve }

/-- The Store Controller after a full reset (R111); the seed is the model's own (log entry 5). -/
def Store.reset (seed : Nat) : Store :=
  { memory := [], seed, owed := 0, timer := true, service := .idle, prefetch := none, inspect := none, writer := [] }

/-- The Exposure Controller after a full reset (R133; log entry 31 for the fields R133 does not name). -/
def Exposure.reset : Exposure :=
  { state := .idle, current := none, passCount := 0, passLength := 0, passCounter := 0, position := 0,
    passOpen := false, prefetchPass := none, nextFetch := 0, buffers := [.empty, .empty],
    skews := List.replicate 32 0, spent := true, autoHold := false, last := .none, emitters := 0 }

/-- The inspection settings after a full reset (R159). -/
def InspectionSettings.reset : InspectionSettings :=
  { thr := 12, q := 2, pre := 1, post := 1, minArea := 4, rejectArea := 64 }

/-- The Inspection Unit after a full reset (R159). -/
def Inspection.reset : Inspection :=
  { work := .idle, dark := List.replicate Config.elements 0, gain := List.replicate Config.elements 1024, weak := [],
    settings := InspectionSettings.reset, lastCalibration := none, lastScan := .none, unexpectedCount := 0,
    abortedCount := 0 }

/-- An input record after a full reset with this level at the pin (R168). -/
def InputLine.reset (raw : Bool) : InputLine :=
  { raw, debounced := raw, count := 0, debounce := 4, edge := .both, hold := false, masked := false, flag := false,
    latched := raw, edgeDue := false }

/-- The Line Monitor after a full reset with these levels at the pins (R168). -/
def Lines.reset (raws : List Bool) : Lines :=
  { inputs := raws.map InputLine.reset, o1 := .auto, o2 := .auto, o3 := .auto, pulse := none }

/-- The Link Controller after a full reset of this kind with these straps (R180): the link source alone is pending, with
the ready mark set, and the transmitter is IDLE. -/
def Link.reset (kind : ResetKind) (straps : BitVec 2) : Link :=
  { receiver := .hunting, straps, unitAddr := straps, outstanding := [], busy := [], answers := [], tx := .idle,
    sources := 0x800, pointer := 11, resetKind := kind, ready := true, badCheck := 0, timeouts := 0, linkBusy := 0,
    dropped := 0, fullReset := none }

/-- The machine right after a hardware reset. The strap and pin levels are the model's choice (log entry 7). -/
def State.reset : State :=
  { settings := Settings.reset, bays := List.replicate 8 none, approvalQueue := [], inspectionQueue := [],
    intake := { queue := [], dropped := 0 }, decoder := Decoder.reset, screening := Screening.reset,
    filler := { fill := none, list := [] }, store := Store.reset 0, exposure := Exposure.reset,
    inspection := Inspection.reset, lines := Lines.reset (List.replicate 8 false),
    link := Link.reset .hardware 0, pending := [] }

end Sys2Proof.Machine
end

