-- ==== Sys2Proof/Machine/Ops.lean ====
section
/-! DEFINITION. The shared operations over bytes, checks, dots, the band store, the bay table and the link: everything the
meanings are written over. -/

namespace Sys2Proof.Machine

/-! ### Counts and bytes -/

/-- A count that rises by one and holds (R2, R38, R136, R169). -/
def satInc (hold n : Nat) : Nat := min (n + 1) hold

/-- The byte at an offset of a body. -/
def byteAt (body : List Byte) (i : Nat) : Nat := (body.getD i 0).toNat

/-- The 16-bit field at an offset, most significant byte first (section 1.6). -/
def u16At (body : List Byte) (i : Nat) : Nat := byteAt body i * 256 + byteAt body (i + 1)

/-- The 32-bit field at an offset, most significant byte first. -/
def u32At (body : List Byte) (i : Nat) : Nat := u16At body i * 65536 + u16At body (i + 2)

/-- The 32-bit two's complement field at an offset (section 1.6). -/
def s32At (body : List Byte) (i : Nat) : Int := (BitVec.ofNat 32 (u32At body i)).toInt

/-- The plate key at an offset: edition, page, separation, version (section 10.9). -/
def keyAt (body : List Byte) (i : Nat) : PlateKey :=
  { edition := byteAt body i, page := u16At body (i + 1), separation := byteAt body (i + 3),
    version := byteAt body (i + 4) }

/-- A one-byte field. -/
def be8 (n : Nat) : List Byte := [BitVec.ofNat 8 n]

/-- A two-byte field, most significant byte first. -/
def be16 (n : Nat) : List Byte := [BitVec.ofNat 8 (n / 256), BitVec.ofNat 8 n]

/-- A four-byte field, most significant byte first. -/
def be32 (n : Nat) : List Byte := be16 (n / 65536) ++ be16 (n % 65536)

/-- A flag, mark or on/off setting (section 10.9). -/
def beFlag (b : Bool) : List Byte := be8 (if b then 1 else 0)

/-- A set as a byte in which bit n is member n (section 10.9). -/
def beSet (members : List Bool) : List Byte :=
  be8 (members.zipIdx.foldl (fun acc p => if p.1 then acc + 2 ^ p.2 else acc) 0)

/-- A plate key's five bytes (section 10.9). -/
def beKey (k : PlateKey) : List Byte := be8 k.edition ++ be16 k.page ++ be8 k.separation ++ be8 k.version

/-- The plate key of zeros (R98, section 10.9). -/
def zeroKey : PlateKey := { edition := 0, page := 0, separation := 0, version := 0 }

/-! ### The CRCs -/

/-- One bit into a CRC register, most significant bit first (R51, R169). -/
def crcBit {w : Nat} (poly reg : BitVec w) (bit : Bool) : BitVec w :=
  if reg.msb != bit then (reg <<< 1) ^^^ poly else reg <<< 1

/-- One byte into a CRC register, from its most significant bit to its least. -/
def crcByte {w : Nat} (poly reg : BitVec w) (b : Byte) : BitVec w :=
  [7, 6, 5, 4, 3, 2, 1, 0].foldl (fun r i => crcBit poly r (b.getLsbD i)) reg

/-- The 16-bit check of frames and block headers: 1021h from FFFFh, no final complement (R169). -/
def crc16 (bytes : List Byte) : BitVec 16 := bytes.foldl (crcByte 0x1021#16) 0xFFFF#16

/-- The 32-bit body check: 04C11DB7h from FFFFFFFFh, complemented (R51). -/
def crc32 (bytes : List Byte) : BitVec 32 := ~~~(bytes.foldl (crcByte 0x04C11DB7#32) 0xFFFFFFFF#32)

/-! ### Dots -/

/-- The number whose bit i, for i below n, is `f i`. -/
def dotBits (f : Nat → Bool) : Nat → Nat
  | 0 => 0
  | n + 1 => dotBits f n ||| (if f n then 1 <<< n else 0)

/-- The line of `w` dots with dot x black when `f x`. -/
def Line.ofDots (w : Nat) (f : Nat → Bool) : Line := BitVec.ofNat 32768 (dotBits f w)

/-- The store word with place p black when `f p`. -/
def StoreWord.ofDots (f : Nat → Bool) : StoreWord := BitVec.ofNat 64 (dotBits f 64)

/-- The hatch: dot (x, y) is black when (x + y) mod 32 is 0 or 1 (R90). -/
def hatchDot (x y : Nat) : Bool := decide ((x + y) % 32 ≤ 1)

/-- Store word j of a hatched strip of a plate `w` dots wide (R90, R94): its lines follow one another, W/64 words each. -/
def hatchWord (w strip j : Nat) : StoreWord :=
  StoreWord.ofDots fun p => hatchDot (64 * (j % (w / 64)) + p) (64 * strip + j / (w / 64))

/-- The 64 hatched lines of a strip (R63, R90). -/
def hatchLines (w strip : Nat) : List Line :=
  (List.range 64).map fun line => Line.ofDots w fun x => hatchDot x (64 * strip + line)

/-- Store word j of a strip held in a buffer (R64): line by line, each from left to right. -/
def stripWord (lines : List Line) (w j : Nat) : StoreWord :=
  (lines.getD (j / (w / 64)) 0).extractLsb' (64 * (j % (w / 64))) 64

/-! ### The band store's contents -/

/-- The word at an address: none where nothing has been written since the last full reset (R101). -/
def Memory.read : Memory → Nat → Option StoreWord
  | [], _ => none
  | (b, w) :: rest, a => if a = b then some w else if a < b then none else Memory.read rest a

/-- Write one word, keeping the addresses strictly rising (R101). -/
def Memory.write : Memory → Nat → StoreWord → Memory
  | [], a, v => [(a, v)]
  | (b, w) :: rest, a, v =>
    if a < b then (a, v) :: (b, w) :: rest
    else if a = b then (b, v) :: rest
    else (b, w) :: Memory.write rest a v

/-- Every address of the list lies above `a`, and the list rises strictly. -/
def Memory.risesFrom : Option Nat → Memory → Bool
  | _, [] => true
  | lo, (b, _) :: rest => (match lo with | none => true | some a => decide (a < b)) && Memory.risesFrom (some b) rest

/-- The canonical form: addresses strictly rising, all within the band store (R101; log entry 6). -/
def Memory.wf (m : Memory) : Bool := Memory.risesFrom none m && m.all fun c => decide (c.1 < Config.storeWords)

/-- Write consecutive words (a burst, R101). -/
def Memory.writeWords (m : Memory) (a : Nat) : List StoreWord → Memory
  | [] => m
  | w :: ws => Memory.writeWords (Memory.write m a w) (a + 1) ws

/-- The 8 words of a read burst, a word never written reading as a free value (R101, R107; log entry 5). -/
def Memory.readBurst (m : Memory) (seed a : Nat) : List StoreWord :=
  (List.range 8).map fun i => (m.read (a + i)).getD (Config.undefinedWord seed (a + i))

/-! ### The bay table -/

/-- Bays of a bay mode (R1). -/
def BayMode.count : BayMode → Nat
  | .eight => 8
  | .four => 4

/-- The bay size B in store words (R102). -/
def BayMode.words : BayMode → Nat
  | .eight => 8388608
  | .four => 16777216

/-- R as a number (R135). -/
def Resolution.side : Resolution → Nat
  | .r8 => 8
  | .r16 => 16

/-- The bay count of the current mode (R1). -/
def State.bayCount (s : State) : Nat := s.settings.bayMode.count

/-- The bay base of bay n in store words (R102). -/
def State.bayBase (s : State) (n : Nat) : Nat := n * s.settings.bayMode.words

/-- The plate in bay n, none for a FREE bay and for a bay number outside the table (R1). -/
def State.plate? (s : State) (n : Nat) : Option Plate := (s.bays[n]?).join

/-- Make bay n hold this plate, or FREE. -/
def State.setBay (n : Nat) (o : Option Plate) (s : State) : State := { s with bays := s.bays.set n o }

/-- Change the plate of bay n, if it holds one. -/
def State.modPlate (n : Nat) (f : Plate → Plate) (s : State) : State :=
  match s.plate? n with
  | some p => s.setBay n (some (f p))
  | none => s

/-- The key's fields lie in their ranges: page 1..999, separation 0..3, version 0..15 (R4). -/
def PlateKey.inRange (k : PlateKey) : Bool :=
  decide (k.edition ≤ 255 ∧ 1 ≤ k.page ∧ k.page ≤ 999 ∧ k.separation ≤ 3 ∧ k.version ≤ 15)

/-- Two keys of one page-separation (R3). -/
def PlateKey.samePage (a b : PlateKey) : Bool :=
  decide (a.edition = b.edition ∧ a.page = b.page ∧ a.separation = b.separation)

/-- Numbers of the bays of the table. -/
def State.bayNumbers (s : State) : List Nat := List.range s.bays.length

/-- The bay whose plate carries this key (R3: at most one). -/
def State.findPlate (key : PlateKey) (s : State) : Option Nat :=
  s.bayNumbers.find? fun n => (s.plate? n).any fun p => decide (p.key = key)

/-- A resident bay carries the page-separation with a higher version (R5, R16, R22). -/
def State.superseded (key : PlateKey) (s : State) : Bool :=
  s.bays.any fun o => o.any fun p => p.key.samePage key && decide (key.version < p.key.version)

/-- Strips of a plate in a state (R2: the counts follow the strip table). -/
def Plate.count (st : StripState) (p : Plate) : Nat := p.strips.countP fun r => decide (r.state = st)

/-- Every strip of the plate is GOOD. -/
def Plate.allGood (p : Plate) : Bool := p.strips.all fun r => decide (r.state = .good)

/-- Some strip of the plate is ABSENT. -/
def Plate.anyAbsent (p : Plate) : Bool := p.strips.any fun r => decide (r.state = .absent)

/-- The lowest ABSENT strip at or above an index (R93, R94). -/
def Plate.nextAbsent (p : Plate) (lo : Nat) : Option Nat :=
  (List.range p.strips.length).find? fun i =>
    decide (lo ≤ i) && (p.strips[i]?).any fun r => decide (r.state = .absent)

/-- An ABSENT strip record, as OPEN PLATE leaves it (R39). -/
def StripRecord.fresh : StripRecord := { state := .absent, source := .common, variantSeen := false, cause := .none }

/-- Records free in the defect pool: 512 less the records on all defect lists (R147). -/
def State.freeRecords (s : State) : Nat :=
  Config.poolRecords - (s.bays.map fun o => match o with | some p => p.defects.length | none => 0).sum

/-! ### The link: sources and answers -/

/-- Numbers of the notice sources after the bays (R174). -/
def sourceExposure : Nat := 8
def sourceInspection : Nat := 9
def sourceLines : Nat := 10
def sourceLink : Nat := 11

/-- Set a notice source in the pending set (R174). -/
def State.setSource (n : Nat) (s : State) : State :=
  { s with link := { s.link with sources := s.link.sources ||| (1#12 <<< n) } }

/-- The kind byte lies in 01h..16h, the request kinds (R171). -/
def isRequestKind (kind : Byte) : Bool := decide (1 ≤ kind.toNat ∧ kind.toNat ≤ 22)

/-- The kind byte of an answer: the request's plus 80h, or FFh for a kind outside 01h..16h (R173). -/
def answerKind (kind : Byte) : Byte := if isRequestKind kind then kind + 0x80 else 0xFF

/-- The answer of an outstanding entry joins the tail of the answer queue (R173). -/
def State.answer (slot : Nat) (r : Reply) (s : State) : State :=
  match s.link.outstanding.find? fun e => decide (e.slot = slot) with
  | some e =>
    { s with link := { s.link with
        answers := s.link.answers ++ [{ slot := some slot, kind := answerKind e.kind, tag := e.tag, reply := r }] } }
  | none => s

/-- Answer the entry, if there is one (a broadcast has none, R170). -/
def State.answer? (slot : Option Nat) (r : Reply) (s : State) : State :=
  match slot with
  | some k => s.answer k r
  | none => s

/-- A reply that is its status alone (section 10.9). -/
def Reply.bare (st : Status) : Reply := { status := st, data := [] }

/-- The notice being sent no longer stands for the bay's due mark, which has just been set anew (R20). -/
def State.forgetDue (n : Nat) (s : State) : State :=
  match s.link.tx with
  | .notice src body _ =>
    if src = n then { s with link := { s.link with tx := .notice src body false } } else s
  | _ => s

/-! ### The arbiter (R104 to R106) -/

/-- The arbiter's choice with the store IDLE: refresh first with 8 owed, otherwise exposure prefetch, inspection fetch,
strip writer, refresh (R106). With the store SERVING nothing is granted (R105). -/
def Store.grant (st : Store) : Store :=
  match st.service with
  | .idle =>
    if 8 ≤ st.owed then { st with service := .refresh }
    else match st.prefetch, st.inspect, st.writer with
      | some b, _, _ => { st with service := .burst .prefetch b true, prefetch := none }
      | none, some b, _ => { st with service := .burst .inspect b true, inspect := none }
      | none, none, (a, b) :: rest => { st with service := .burst a b true, writer := rest }
      | none, none, [] => if 1 ≤ st.owed then { st with service := .refresh } else st
  | _ => st

/-- A requester asks a burst, and an IDLE store makes a grant at once (R104, R105). -/
def Store.ask (asker : Asker) (b : Burst) (st : Store) : Store :=
  match asker with
  | .prefetch => { st with prefetch := some b }.grant
  | .inspect => { st with inspect := some b }.grant
  | .decoder => { st with writer := st.writer ++ [(Asker.decoder, b)] }.grant
  | .filler => { st with writer := st.writer ++ [(Asker.filler, b)] }.grant

/-- A block stops the work for which it asks bursts: its burst not yet granted is removed, and one in service completes
unwanted (R109). -/
def Store.stop (asker : Asker) (st : Store) : Store :=
  { st with
    prefetch := if asker = .prefetch then none else st.prefetch
    inspect := if asker = .inspect then none else st.inspect
    writer := st.writer.filter fun p => decide (p.1 ≠ asker)
    service := match st.service with
      | .burst a b live => .burst a b (live && decide (a ≠ asker))
      | other => other }

/-- The Store Controller asks or stops, within the whole state. -/
def State.onStore (f : Store → Store) (s : State) : State := { s with store := f s.store }

end Sys2Proof.Machine
end

