-- ==== Sys2Proof/Machine/Flags.lean ====
section
/-! DEFINITION. The conditions and levels worked out from the state and held nowhere else: interlocks, attention, output
and reported levels, damage class, intake charge (log entry 20). -/

namespace Sys2Proof.Machine

/-- The input record of a line (R161). -/
def State.input (n : Nat) (s : State) : InputLine := s.lines.inputs.getD n (InputLine.reset false)

/-- The debounced level of a line is high: the line is asserted (section 1.6). -/
def State.asserted (n : Nat) (s : State) : Bool := (s.input n).debounced

/-- Door closed, plate loaded and head ready are all asserted (R114, R118). -/
def State.interlocked (s : State) : Bool := s.asserted 0 && s.asserted 1 && s.asserted 2

/-- The reported level of an input (R162): the latched level while hold is on and the flag set, else the debounced. -/
def InputLine.reported (l : InputLine) : Bool := if l.hold && l.flag then l.latched else l.debounced

/-- An edge to this level matches the edge setting (R162). -/
def EdgeSetting.matches : EdgeSetting → Bool → Bool
  | .rising, level => level
  | .falling, level => !level
  | .both, _ => true

/-- The attention condition (R25). -/
def State.attention (s : State) : Bool :=
  s.bays.any fun o => o.any fun p =>
    decide (p.state = .held) &&
      (decide (p.verdict = .reject) || decide (p.verdict = .unchecked) ||
        match p.outcome with | .aborted _ _ => true | _ => false)

/-- An output's level from its setting and its AUTO source (R166). -/
def OutputSetting.level : OutputSetting → Bool → Bool
  | .low, _ => false
  | .high, _ => true
  | .auto, source => source

/-- The level of output n at its pin (R131, R166, R167). -/
def State.outputLevel (s : State) : Nat → Bool
  | 0 => decide (s.exposure.state = .writing)
  | 1 => s.lines.o1.level (s.lines.pulse.any fun p => p.reject)
  | 2 => s.lines.o2.level (s.lines.pulse.any fun p => !p.reject)
  | 3 => s.lines.o3.level s.attention
  | _ => false

/-- The damage class (R99). -/
inductive DamageClass where
  | none | pending | whole | hatching | hatched
  deriving DecidableEq, Repr

/-- The damage class of a resident bay from its state and strip counts (R99). A plate with every strip GOOD is WHOLE; the
pairs of state and counts that no rule of R99 names (log entry 27) fall to HATCHED. -/
def Plate.damageClass (p : Plate) : DamageClass :=
  if p.allGood then .whole
  else match p.state with
    | .filling => .pending
    | .approving => if p.anyAbsent then .hatching else .hatched
    | _ => .hatched

/-- The number of DAMAGED strips whose cause is CHECK (R98). -/
def Plate.checkDamaged (p : Plate) : Nat :=
  p.strips.countP fun r => decide (r.state = .damaged) && decide (r.cause = .check)

/-- The lowest strip not GOOD (R98). -/
def Plate.firstNotGood (p : Plate) : Option Nat := p.strips.findIdx? fun r => decide (r.state ≠ .good)

/-- The body length a buffer still has charged (R36, R37). -/
def StripBuffer.charge : StripBuffer → Nat
  | .building _ block _ _ => block.body.length
  | _ => 0

/-- The body bytes charged to the Intake Queue's budget (R36). -/
def State.charged (s : State) : Nat :=
  (s.intake.queue.map fun b => b.body.length).sum + (s.decoder.buffers.map StripBuffer.charge).sum

/-- The scan in progress, if any (R136). -/
def State.scan? (s : State) : Option Scan :=
  match s.inspection.work with
  | .scanning sc => some sc
  | _ => none

end Sys2Proof.Machine
end

