-- ==== Sys2Proof/Machine/Records.lean ====
section
/-! DEFINITION. The record layouts of section 10.9: the codes of named values, the result data of answers and the bodies of
notices, byte by byte. -/

namespace Sys2Proof.Machine

/-! ### Codes -/

def PlateState.code : PlateState → Nat
  | .filling => 1 | .approving => 2 | .queued => 3 | .exposing => 4 | .exposed => 5 | .inspecting => 6 | .held => 7
def Policy.code : Policy → Nat
  | .hold => 0 | .hatch => 1
def StripState.code : StripState → Nat
  | .absent => 0 | .good => 1 | .damaged => 2 | .missing => 3
def FaultCause.code : FaultCause → Nat
  | .none => 0 | .check => 1 | .zeroRun => 2 | .longLine => 3 | .misplaced => 4 | .longStrip => 5 | .shortStrip => 6
  | .truncated => 7 | .unknownToken => 8 | .windowSlot => 9 | .windowData => 10 | .windowForm => 11
def AbortCause.code : AbortCause → Nat
  | .underrun => 1 | .overlap => 2 | .door => 3 | .plateLost => 4 | .head => 5 | .requested => 6 | .reset => 7
def Verdict.code : Verdict → Nat
  | .none => 0 | .clean => 1 | .marginal => 2 | .reject => 3 | .unchecked => 4 | .aborted => 5
def Sign.code : Sign → Nat
  | .excess => 0 | .loss => 1 | .mixed => 2
def DamageClass.code : DamageClass → Nat
  | .none => 0 | .pending => 1 | .whole => 2 | .hatching => 3 | .hatched => 4
def BayMode.code : BayMode → Nat
  | .eight => 8 | .four => 4
def ExposureMode.code : ExposureMode → Nat
  | .manual => 0 | .auto => 1
def ExposureState.code : ExposureState → Nat
  | .idle => 0 | .loading => 1 | .waiting => 2 | .writing => 3
def InspectionUnit.code : InspectionUnit → Nat
  | .idle => 0 | .calibrating _ => 1 | .scanning _ => 2
def Phase.code : Phase → Nat
  | .dark => 0 | .white => 1
def CalibrationOutcome.code : CalibrationOutcome → Nat
  | .done => 0 | .failed => 1 | .aborted => 2
def UncheckedCause.code : UncheckedCause → Nat
  | .none => 0 | .lagged => 1 | .earlyClear => 2 | .overlap => 3
def EdgeSetting.code : EdgeSetting → Nat
  | .rising => 0 | .falling => 1 | .both => 2
def OutputSetting.code : OutputSetting → Nat
  | .low => 0 | .high => 1 | .auto => 2
def ResetKind.code : ResetKind → Nat
  | .hardware => 0 | .full => 1 | .plates => 2

/-- The status codes of R173. -/
def Status.code : Status → Nat
  | .done => 0x00 | .accepted => 0x01 | .badField => 0x02 | .tooLarge => 0x03 | .duplicatePlate => 0x04
  | .staleVersion => 0x05 | .baysFull => 0x06 | .noSuchPlate => 0x07 | .late => 0x08 | .notForZone => 0x09
  | .badBlock => 0x0A | .queueFull => 0x0B | .inUse => 0x0C | .busy => 0x0D | .wrongState => 0x0E
  | .damageOpen => 0x0F | .noPlate => 0x10 | .processorFull => 0x11 | .interlock => 0x12 | .withdrawn => 0x13
  | .aborted => 0x14 | .calibrationFailed => 0x15 | .linkBusy => 0x16

/-! ### Pieces -/

/-- A bay number that may be none, with its key beside it: FFh and a key of zeros for none. -/
def beBayKey : Option (Nat × PlateKey) → List Byte
  | some (n, k) => be8 n ++ beKey k
  | none => be8 0xFF ++ beKey zeroKey

/-- Exposure outcome, abort cause and pass reached (4 bytes). -/
def ExposureOutcome.bytes : ExposureOutcome → List Byte
  | .none => be8 0 ++ be8 0 ++ be16 0
  | .complete => be8 1 ++ be8 0 ++ be16 0
  | .aborted cause pass => be8 2 ++ be8 cause.code ++ be16 pass

/-- The last outcome, 11 bytes. -/
def LastOutcome.bytes : LastOutcome → List Byte
  | .none => be8 0 ++ be8 0 ++ be16 0 ++ be8 0 ++ beBayKey Option.none
  | .complete bay key => be8 1 ++ be8 0 ++ be16 0 ++ be8 0 ++ beBayKey (some (bay, key))
  | .aborted cause pass begun bay key =>
    be8 2 ++ be8 cause.code ++ be16 pass ++ beFlag begun ++ beBayKey (some (bay, key))

/-- The strip counts GOOD, DAMAGED, ABSENT, MISSING, 8 bytes. -/
def Plate.countBytes (p : Plate) : List Byte :=
  be16 (p.count .good) ++ be16 (p.count .damaged) ++ be16 (p.count .absent) ++ be16 (p.count .missing)

/-- A strip record as READ STRIPS returns it, 5 bytes. -/
def StripRecord.bytes (i : Nat) (r : StripRecord) : List Byte :=
  be16 i ++ be8 r.state.code
    ++ be8 ((if r.source = .variant then 1 else 0) + (if r.variantSeen then 2 else 0)) ++ be8 r.cause.code

/-- A defect record, 16 bytes. -/
def DefectRecord.bytes (d : DefectRecord) : List Byte :=
  be16 d.number ++ be16 d.firstLine ++ be16 d.lastLine ++ be16 d.firstElement ++ be16 d.lastElement
    ++ be32 d.area ++ be8 d.sign.code ++ be8 d.peak

/-- The four link counts, 8 bytes (R176). -/
def Link.countBytes (l : Link) : List Byte := be16 l.badCheck ++ be16 l.timeouts ++ be16 l.linkBusy ++ be16 l.dropped

/-- The seven settings as in the CONFIGURE body, 9 bytes. -/
def Settings.bytes (c : Settings) : List Byte :=
  be8 c.bayMode.code ++ be16 c.zoneCode.toNat ++ be16 c.zoneMask.toNat ++ be8 c.resolution.side ++ be8 c.mode.code
    ++ be8 c.pulseSteps ++ beFlag c.autoRelease

/-- The settings of O0..O3, O0 always AUTO, 4 bytes. -/
def Lines.outputSettingBytes (l : Lines) : List Byte :=
  be8 OutputSetting.auto.code ++ be8 l.o1.code ++ be8 l.o2.code ++ be8 l.o3.code

/-- The output levels as a set of outputs. -/
def State.outputLevelByte (s : State) : List Byte := beSet ((List.range 4).map s.outputLevel)

/-! ### Result data of answers -/

/-- The plate record of READ PLATE, 37 bytes (R23). -/
def Plate.record (n : Nat) (p : Plate) : List Byte :=
  be8 n ++ be8 p.state.code ++ beKey p.key ++ be16 p.w ++ be16 p.h ++ be8 p.policy.code ++ [p.screenSet, p.curveSet]
    ++ beFlag p.replate ++ p.countBytes ++ be16 p.duplicates ++ be16 p.zoneIgnored ++ p.outcome.bytes
    ++ be8 p.exposures ++ be8 p.verdict.code ++ be16 p.defects.length ++ be16 p.untracked

/-- The strip records READ STRIPS returns: `count` of them from `first` upward, wrapping at the last strip (R44). -/
def Plate.stripRecords (p : Plate) (first count : Nat) : List Byte :=
  (List.range count).flatMap fun k =>
    let i := (first + k) % p.strips.length
    (p.strips.getD i StripRecord.fresh).bytes i

/-- The defect list and trailer of READ DEFECTS (R157). -/
def Plate.defectRecords (p : Plate) : List Byte :=
  p.defects.flatMap DefectRecord.bytes ++ be16 p.defects.length ++ be16 p.untracked ++ be8 p.verdict.code ++ beKey p.key

/-- The number of bays in the state of this code, FREE 0 to HELD 7 (R178). -/
def State.baysInState (s : State) (code : Nat) : Nat :=
  s.bays.countP fun o => match o with
    | some p => decide (p.state.code = code)
    | none => decide (code = 0)

/-- An entry of the inspection queue in its place of 6 bytes. -/
def InspectionEntry.bytes : InspectionEntry → List Byte
  | .bay n => be8 n ++ beKey zeroKey
  | .aborted key => be8 0xFE ++ beKey key

/-- The status record of READ STATUS, 94 bytes (R178). -/
def State.statusRecord (s : State) : List Byte :=
  s.settings.bytes ++ be8 s.link.unitAddr.toNat ++ (List.range 8).flatMap (fun c => be8 (s.baysInState c))
    ++ be8 s.approvalQueue.length
    ++ (List.range 8).flatMap (fun i => be8 (s.approvalQueue.getD i 0xFF))
    ++ be8 s.inspectionQueue.length
    ++ (List.range 4).flatMap (fun i => match s.inspectionQueue[i]? with
        | some e => e.bytes
        | none => beBayKey none)
    ++ be8 s.intake.queue.length ++ be32 s.charged ++ be16 s.intake.dropped
    ++ be8 s.exposure.state.code ++ beBayKey s.exposure.current ++ be16 s.exposure.passCounter
    ++ beFlag s.exposure.spent ++ beFlag s.exposure.autoHold ++ s.exposure.last.bytes
    ++ be8 s.inspection.work.code ++ be16 s.freeRecords ++ be8 s.store.owed ++ be8 s.link.outstanding.length
    ++ s.link.countBytes

/-- An input's settings as in the SET LINES body, 4 bytes. -/
def InputLine.settingBytes (l : InputLine) : List Byte :=
  be8 l.debounce ++ be8 l.edge.code ++ beFlag l.hold ++ beFlag l.masked

/-- The lines record of READ LINES, 42 bytes (R164). -/
def State.linesRecord (s : State) : List Byte :=
  beSet (s.lines.inputs.map InputLine.raw) ++ beSet (s.lines.inputs.map InputLine.debounced)
    ++ beSet (s.lines.inputs.map InputLine.reported) ++ beSet (s.lines.inputs.map InputLine.flag)
    ++ s.lines.inputs.flatMap InputLine.settingBytes ++ s.lines.outputSettingBytes ++ s.outputLevelByte
    ++ be8 (match s.lines.pulse with | none => 0 | some p => if p.reject then 1 else 2)

/-! ### Reports of notices -/

/-- The damage summary of a resident bay, 33 bytes (R98). -/
def Plate.summary (p : Plate) : List Byte :=
  beKey p.key ++ be8 p.policy.code ++ p.countBytes ++ be16 p.checkDamaged ++ be16 (p.firstNotGood.getD 0xFFFF)
    ++ be16 p.duplicates ++ be16 p.zoneIgnored ++ p.outcome.bytes ++ be8 p.exposures ++ be8 p.verdict.code
    ++ be16 p.defects.length ++ be16 p.untracked ++ be8 p.damageClass.code

/-- The damage summary of a FREE bay: zero or none throughout (R98). -/
def freeSummary : List Byte :=
  beKey zeroKey ++ be8 0 ++ be32 0 ++ be32 0 ++ be16 0 ++ be16 0xFFFF ++ be16 0 ++ be16 0
    ++ ExposureOutcome.none.bytes ++ be8 0 ++ be8 0 ++ be16 0 ++ be16 0 ++ be8 DamageClass.none.code

/-- The bay notice's report: bay state and damage summary (R24, R98). -/
def State.bayReport (n : Nat) (s : State) : List Byte :=
  match s.plate? n with
  | some p => be8 p.state.code ++ p.summary
  | none => be8 0 ++ freeSummary

/-- The exposure notice's report (R131). -/
def State.exposureReport (s : State) : List Byte :=
  be8 s.exposure.state.code ++ beBayKey s.exposure.current ++ be16 s.exposure.passCounter ++ be8 s.settings.mode.code
    ++ beFlag s.exposure.spent ++ beFlag s.exposure.autoHold ++ s.exposure.last.bytes

/-- The last calibration, 4 bytes (section 10.9). -/
def lastCalibrationBytes : Option LastCalibration → List Byte
  | none => be8 0 ++ be8 0 ++ be16 0
  | some c => be8 (c.phase.code + 1) ++ be8 c.outcome.code ++ be16 c.weak

/-- The last scan outcome, 9 bytes (section 10.9; log entry 24). -/
def LastScan.bytes : LastScan → List Byte
  | .none => be8 0 ++ be8 0 ++ be8 0 ++ beBayKey Option.none
  | .verdict v cause bay key => be8 1 ++ be8 v.code ++ be8 cause.code ++ beBayKey (some (bay, key))
  | .abortedPlate key => be8 2 ++ be8 0 ++ be8 0 ++ be8 0xFF ++ beKey key
  | .unexpected => be8 3 ++ be8 0 ++ be8 0 ++ beBayKey Option.none

/-- The inspection notice's report (R156). -/
def State.inspectionReport (s : State) : List Byte :=
  be8 s.inspection.work.code
    ++ (match s.scan? with
      | some sc => beBayKey (some (sc.bay, sc.key)) ++ be16 sc.received ++ beFlag sc.lagged ++ be8 sc.openDefects.length
      | none => beBayKey none ++ be16 0 ++ be8 0 ++ be8 0)
    ++ be16 s.freeRecords ++ lastCalibrationBytes s.inspection.lastCalibration ++ s.inspection.lastScan.bytes
    ++ be16 s.inspection.unexpectedCount ++ be16 s.inspection.abortedCount

/-- The line notice's report (R162). -/
def State.linesReport (s : State) : List Byte :=
  beSet (s.lines.inputs.map InputLine.reported) ++ beSet (s.lines.inputs.map InputLine.flag)
    ++ s.lines.outputSettingBytes ++ s.outputLevelByte

/-- The link notice's report (R176). -/
def State.linkReport (s : State) : List Byte :=
  be8 s.link.resetKind.code ++ beFlag s.link.ready ++ be8 s.link.unitAddr.toNat ++ s.link.countBytes

/-- The notice body for a source: its number, then its report (R175). -/
def State.noticeBody (src : Nat) (s : State) : List Byte :=
  be8 src ++
    (if src < 8 then s.bayReport src
     else if src = sourceExposure then s.exposureReport
     else if src = sourceInspection then s.inspectionReport
     else if src = sourceLines then s.linesReport
     else s.linkReport)

/-- The notice kind of a source (R175). -/
def noticeKind (src : Nat) : Byte :=
  if src < 8 then 0x41
  else if src = sourceExposure then 0x42
  else if src = sourceInspection then 0x43
  else if src = sourceLines then 0x44
  else 0x45

end Sys2Proof.Machine
end

