-- ==== Sys2Proof/Machine/Link.lean ====
section
/-! DEFINITION. The Link Controller: the transmitter and its notices, the receiver's frames, and the taking of requests
(chapter 10). -/

namespace Sys2Proof.Machine

/-! ### The transmitter (R174 to R176) -/

/-- The first pending source after the rotation pointer in the cyclic order (R174). -/
def Link.nextSource (l : Link) : Option Nat :=
  ((List.range 12).map fun i => (l.pointer + 1 + i) % 12).find? fun n => l.sources.getLsbD n

/-- The source whose notice is sent next: the link source first while it is pending after a reset (R174, R176). -/
def Link.chooseSource (l : Link) : Option Nat :=
  if l.ready && l.sources.getLsbD sourceLink then some sourceLink else l.nextSource

/-- Begin the notice of a source: it leaves the pending set, the pointer moves to it, its report is taken, and a link
notice takes the ready mark with it (R175, R176; log entry 12). -/
def State.beginNotice (src : Nat) (s : State) : State :=
  { s with link := { s.link with
      sources := s.link.sources &&& ~~~(1#12 <<< src)
      pointer := src
      ready := s.link.ready && decide (src ≠ sourceLink)
      tx := .notice src (s.noticeBody src) ((s.plate? src).any fun p => p.autoDue) } }

/-- The choice of an IDLE transmitter: the head of the answer queue, else one notice, else nothing (R174). Once a
RESET FULL has been taken no notice is begun (R179). -/
def State.transmit (s : State) : State :=
  match s.link.tx with
  | .idle =>
    match s.link.answers with
    | a :: rest => { s with link := { s.link with tx := .answer a, answers := rest } }
    | [] =>
      if s.link.fullReset.isSome then s
      else match s.link.chooseSource with
        | some src => s.beginNotice src
        | none => s
  | _ => s

/-- The form of a meaning that always goes on: the transmitter's standing choice is made first (log entry 3), then the
command has its effect. -/
def run (effect : State → State) (s : State) : Host.Outcome State Fault Refusal := .next (effect s.transmit)

/-! ### Frames (section 10.9) -/

/-- The characters of a frame between its start character and its frame check. -/
def frameChars (addr kind tag : Byte) (body : List Byte) : List Byte := [addr, kind, tag] ++ be16 body.length ++ body

/-- The frame check: the CRC over every character after the start character to the end of the body (R169). -/
def frameCheck (addr kind tag : Byte) (body : List Byte) : BitVec 16 := crc16 (frameChars addr kind tag body)

/-- A whole frame on the wire. -/
def frameBytes (addr kind tag : Byte) (body : List Byte) : List Byte :=
  [0xA5] ++ frameChars addr kind tag body ++ be16 (frameCheck addr kind tag body).toNat

/-- The unit address as an address byte (R170). -/
def Link.addrByte (l : Link) : Byte := l.unitAddr.setWidth 8

/-- The frame being sent, if any: an answer or a notice at the unit address (R173, R175). -/
def State.wire (s : State) : Option (List Byte) :=
  match s.link.tx with
  | .idle => none
  | .answer a => some (frameBytes s.link.addrByte a.kind a.tag (be8 a.reply.status.code ++ a.reply.data))
  | .notice src body _ => some (frameBytes s.link.addrByte (noticeKind src) 0 body)

/-! ### The receiver (R169) -/

/-- A frame of these characters (after the start character) can be the one that completes: in HUNTING the whole frame
arrives; in RECEIVING the characters already taken begin it (log entry 4). -/
def Receiver.admits : Receiver → List Byte → Bool
  | .hunting, _ => true
  | .receiving assembler, chars => assembler.isPrefixOf chars

/-- The receiver returns to HUNTING. -/
def State.hunt (s : State) : State := { s with link := { s.link with receiver := .hunting } }

/-- A frame whose check differs is discarded and counted (R169). -/
def State.badFrame (s : State) : State :=
  State.setSource sourceLink { s with link := { s.link with badCheck := satInc Config.countHold s.link.badCheck } }

/-- A gap ends RECEIVING: the partial frame is discarded and counted; in HUNTING no gap is timed (R169). -/
def State.gap (s : State) : State :=
  match s.link.receiver with
  | .hunting => s
  | .receiving _ =>
    State.setSource sourceLink { s with link := { s.link with
        receiver := .hunting, timeouts := satInc Config.countHold s.link.timeouts } }

/-! ### Requests (R170 to R172) -/

/-- What an owner does with a request: the entry it holds (none for a broadcast) and the state give the new state and the
answer, if it answers now. -/
abbrev Owner := Option Nat → State → State × Option Reply

/-- The lowest slot number no entry holds (log entry 17). -/
def Link.freeSlot (l : Link) : Nat :=
  ((List.range Config.outstandingMax).find? fun n => l.outstanding.all fun e => decide (e.slot ≠ n)).getD
    Config.outstandingMax

/-- The request is refused LINK BUSY: its answer joins the busy list and the answer queue and the count rises, or, the
busy list being full, it is dropped and counted (R172). The link source is set even where the count already holds (log
entry 37). -/
def State.refuseBusy (kind tag : Byte) (s : State) : State :=
  if s.link.busy.length < Config.busyMax then
    State.setSource sourceLink { s with link := { s.link with
        busy := s.link.busy ++ [(tag, kind)]
        answers := s.link.answers ++ [{ slot := none, kind := answerKind kind, tag, reply := Reply.bare .linkBusy }]
        linkBusy := satInc Config.countHold s.link.linkBusy } }
  else
    State.setSource sourceLink { s with link := { s.link with dropped := satInc Config.countHold s.link.dropped } }

/-- The owner's answer, if it gives one now, joins the answer queue. -/
def deliver (slot : Nat) : State × Option Reply → State
  | (s, some r) => s.answer slot r
  | (s, none) => s

/-- A request at the unit address takes an entry and is handed to its owner, or is refused LINK BUSY (R171, R172). -/
def State.request (kind tag : Byte) (owner : Owner) (s : State) : State :=
  if s.link.outstanding.length < Config.outstandingMax then
    deliver s.link.freeSlot
      (owner (some s.link.freeSlot)
        { s with link := { s.link with
            outstanding := s.link.outstanding ++ [{ slot := s.link.freeSlot, tag, kind }] } })
  else s.refuseBusy kind tag

/-- The kinds a broadcast may carry: STRIP BLOCK, LOAD SCREEN, LOAD CURVE, SET INSPECTION, RESET (R170). -/
def broadcastKind (kind : Byte) : Bool := [0x05#8, 0x0D#8, 0x0E#8, 0x13#8, 0x03#8].contains kind

/-- A frame that has passed its check is judged by its address byte (R170). -/
def State.takeFrame (addr kind tag : Byte) (owner : Owner) (s : State) : State :=
  if addr = s.link.addrByte then s.request kind tag owner
  else if addr = 0x0F ∧ broadcastKind kind then (owner none s).1
  else s

/-- A body of any length but the fixed one is answered BAD FIELD by the Link Controller (R171). -/
def fixedBody (n : Nat) (body : List Byte) (owner : Owner) : Owner := fun slot s =>
  if body.length = n then owner slot s else (s, some (Reply.bare .badField))

end Sys2Proof.Machine
end

