-- ==== Sys2Proof/Machine/Starts.lean ====
section
/-! DEFINITION. Starting an exposure: the prefetch of passes (R116), the four start conditions (R118), the start itself
(R13, R118) and the AUTO events (R120). -/

namespace Sys2Proof.Machine

/-- Change the Exposure Controller's own state. -/
def State.onExposure (f : Exposure → Exposure) (s : State) : State := { s with exposure := f s.exposure }

/-- W of the plate being exposed (0 where there is none). -/
def State.exposureWidth (s : State) : Nat :=
  match s.exposure.current with
  | some (n, _) => ((s.plate? n).map Plate.w).getD 0
  | none => 0

/-- The bay base of the plate being exposed (0 where there is none). -/
def State.exposureBase (s : State) : Nat :=
  match s.exposure.current with
  | some (n, _) => s.bayBase n
  | none => 0

/-- Burst k of pass q of the current bay (R103). -/
def State.passBurst (q k : Nat) (s : State) : Burst :=
  { addr := s.exposureBase + q * (s.exposureWidth / 2) + 8 * k, write := none }

/-- A pass buffer is EMPTY (R116). -/
def PassBuffer.isEmpty : PassBuffer → Bool
  | .empty => true
  | _ => false

/-- The fetch of the lowest pass not yet fetched begins, if no fetch is under way and its buffer is EMPTY (R116). -/
def State.beginFetch (s : State) : State :=
  let q := s.exposure.nextFetch
  if s.exposure.prefetchPass.isNone ∧ q < s.exposure.passCount ∧ (s.exposure.buffers.getD (q % 2) .empty).isEmpty then
    State.onStore (Store.ask .prefetch (s.passBurst q 0))
      { s with exposure := { s.exposure with
          prefetchPass := some q
          nextFetch := q + 1
          buffers := s.exposure.buffers.set (q % 2) (.fetching q []) } }
  else s

/-- The first start condition that fails, as the refusal of a START EXPOSURE (R118). -/
def State.startRefusal (s : State) : Option Status :=
  if s.exposure.state ≠ .idle then some .busy
  else if s.approvalQueue = [] then some .noPlate
  else if Config.processorPlates ≤ s.inspectionQueue.length then some .processorFull
  else if ¬ s.interlocked ∨ s.exposure.spent then some .interlock
  else none

/-- The largest of the skews (R113). -/
def largestSkew (skews : List Nat) : Nat := skews.foldl max 0

/-- A start is taken: the head of the approval queue becomes EXPOSING and the current bay, and LOADING begins with the
fetch of pass 0 (R13, R118). -/
def State.takeStart (s : State) : State :=
  match s.approvalQueue with
  | [] => s
  | n :: rest =>
    match s.plate? n with
    | none => s
    | some p =>
      State.beginFetch <| State.setSource sourceExposure <| State.setSource n <|
        State.setBay n (some { p with state := .exposing })
          { s with
            approvalQueue := rest
            exposure := { s.exposure with
              state := .loading, current := some (n, p.key), passCount := p.h / 32,
              passLength := p.w + largestSkew s.exposure.skews, passCounter := 0, position := 0, passOpen := false,
              prefetchPass := none, nextFetch := 0, buffers := [.empty, .empty] } }

/-- An AUTO event: in AUTO mode, with the auto hold clear and all four conditions true, it takes a start (R120). -/
def State.autoEvent (s : State) : State :=
  if s.settings.mode = .auto ∧ ¬ s.exposure.autoHold ∧ s.startRefusal = none then s.takeStart else s

end Sys2Proof.Machine
end

