-- ==== Sys2Proof/Machine/Bays.lean ====
section
/-! DEFINITION. What befalls a bay: queueing (R11), the decoder's abandonment (R67, R70), the Hatch Filler (R93 to R96),
freeing (R8) and the judgement of an approval (R9). -/

namespace Sys2Proof.Machine

/-! ### Queueing -/

/-- The bay becomes QUEUED, its number placed at the head or the tail, its source set, and the event is reported to the
Exposure Controller (R11, R24). -/
def State.becomeQueued (n : Nat) (atHead : Bool) (s : State) : State :=
  State.autoEvent <| State.setSource n <|
    State.modPlate n (fun p => { p with state := .queued })
      { s with approvalQueue := if atHead then n :: s.approvalQueue else s.approvalQueue ++ [n] }

/-! ### The Strip Decoder's work for a bay -/

/-- The strip context of a buffer that is not FREE (R49). -/
def StripBuffer.context : StripBuffer → Option StripContext
  | .free => none
  | .building c _ _ _ => some c
  | .ready c _ _ => some c
  | .writing c _ _ => some c

/-- The buffer's context names this bay. -/
def StripBuffer.forBay (n : Nat) (b : StripBuffer) : Bool := b.context.any fun c => decide (c.bay = n)

/-- The buffer is FREE, BUILDING, READY or WRITING (R49). -/
def StripBuffer.isFree : StripBuffer → Bool
  | .free => true
  | _ => false
def StripBuffer.isBuilding : StripBuffer → Bool
  | .building _ _ _ _ => true
  | _ => false
def StripBuffer.isReady : StripBuffer → Bool
  | .ready _ _ _ => true
  | _ => false
def StripBuffer.isWriting : StripBuffer → Bool
  | .writing _ _ _ => true
  | _ => false

/-- A strip write into the bay is in progress: a buffer for it is READY or WRITING (R49). -/
def Decoder.writePending (n : Nat) (d : Decoder) : Bool := d.buffers.any fun b => b.forBay n && (b.isReady || b.isWriting)

/-- A buffer is WRITING into the bay. -/
def Decoder.writingInto (n : Nat) (d : Decoder) : Bool := d.buffers.any fun b => b.forBay n && b.isWriting

/-- The decoder abandons its buffers for the bay: BUILDING, READY and WRITING all become FREE with nothing recorded, the
Screening Unit stops, and a write's next burst is withdrawn (R67, R70, R109). -/
def State.abandonBay (n : Nat) (s : State) : State :=
  let stopsWindow := s.decoder.buffers.any fun b => b.forBay n && b.isBuilding
  let stopsWrite := s.decoder.writingInto n
  { s with
    decoder :=
      { buffers := s.decoder.buffers.map fun b => if b.forBay n then .free else b
        readyOrder := s.decoder.readyOrder.filter fun i => !((s.decoder.buffers.getD i .free).forBay n) }
    screening := if stopsWindow then { s.screening with work := none } else s.screening
    store := if stopsWrite then s.store.stop .decoder else s.store }

/-! ### The Hatch Filler -/

/-- The burst k of the strip of a fill context (R94). -/
def State.fillBurst (f : FillContext) (k : Nat) (s : State) : Burst :=
  { addr := s.bayBase f.bay + f.strip * f.w + 8 * k
    write := some ((List.range 8).map fun i => hatchWord f.w f.strip (8 * k + i)) }

/-- The filler asks the next burst of its strip (R94). -/
def State.askFill (s : State) : State :=
  match s.filler.fill with
  | some f =>
    State.onStore (Store.ask .filler (s.fillBurst f f.requested))
      { s with filler := { s.filler with fill := some { f with requested := f.requested + 1 } } }
  | none => s

/-- The filler becomes WRITING on the bay, at its lowest ABSENT strip (R93). -/
def State.startFill (n : Nat) (s : State) : State :=
  match s.plate? n with
  | none => s
  | some p =>
    match p.nextAbsent 0 with
    | none => s
    | some i =>
      State.askFill { s with filler := { s.filler with
          fill := some { bay := n, key := p.key, w := p.w, h := p.h, strip := i, requested := 0, served := 0 } } }

/-- An APPROVING bay is handed to the filler (R93). -/
def State.handToFiller (n : Nat) (s : State) : State :=
  if s.filler.fill.isNone then s.startFill n
  else { s with filler := { s.filler with list := s.filler.list ++ [n] } }

/-- The fill context is cleared and the bay at the head of the fill list, if any, is begun (R95, R96). -/
def State.nextFill (s : State) : State :=
  match s.filler.list with
  | [] => { s with filler := { fill := none, list := [] } }
  | n :: rest => State.startFill n { s with filler := { fill := none, list := rest } }

/-- The fill of a bay being freed stops (R96). The next bay's first burst is asked at once, also while a burst of the stopped
fill is still in service (log entry 43). -/
def State.stopFill (n : Nat) (s : State) : State :=
  if s.filler.fill.any fun f => decide (f.bay = n) then (s.onStore (Store.stop .filler)).nextFill
  else { s with filler := { s.filler with list := s.filler.list.filter fun m => decide (m ≠ n) } }

/-! ### Freeing a bay (R8) -/

/-- What the bay's neighbours let go of, by the bay's state (R8). The defect records of a HELD bay return to the pool with
its record (R147). -/
def State.letGo (n : Nat) (p : Plate) (s : State) : State :=
  match p.state with
  | .filling =>
    let s := s.abandonBay n
    if p.approvalHeld then s.answer? p.approveEntry (Reply.bare .withdrawn) else s
  | .approving => (s.stopFill n).answer? p.approveEntry (Reply.bare .withdrawn)
  | .queued => { s with approvalQueue := s.approvalQueue.filter fun m => decide (m ≠ n) }
  | _ => s

/-- The bay is freed: its neighbours let go, its record is cleared and its source is set (R8). -/
def State.freeBay (n : Nat) (s : State) : State :=
  match s.plate? n with
  | some p => State.setSource n (State.setBay n none (s.letGo n p))
  | none => s

/-! ### Approval (R9) -/

/-- The approval of a FILLING bay is judged against its policy and strip table (R9): the new state, and the answer unless a
hatch fill must end first. -/
def State.judgeApproval (n : Nat) (entry : Option Nat) (s : State) : State × Option Reply :=
  match s.plate? n with
  | none => (s, some (Reply.bare .noSuchPlate))
  | some p =>
    let ready := match p.policy with | .hold => p.allGood | .hatch => !p.anyAbsent
    if ready then ((s.abandonBay n).becomeQueued n p.replate, some (Reply.bare .done))
    else match p.policy with
      | .hold => (s, some (Reply.bare .damageOpen))
      | .hatch =>
        (State.handToFiller n <| State.setSource n <|
          (s.abandonBay n).modPlate n fun p => { p with state := .approving, approveEntry := entry }, none)

/-- A held approval is judged once the pending write for its bay has completed: the mark is cleared and the APPROVE PLATE
answered as R9 gives (R9, R66). -/
def State.judgeHeld (n : Nat) (s : State) : State :=
  match s.plate? n with
  | none => s
  | some p =>
    if p.approvalHeld then
      let (s', r) := (s.modPlate n fun p => { p with approvalHeld := false, approveEntry := none }).judgeApproval n
        p.approveEntry
      match r with
      | some r => s'.answer? p.approveEntry r
      | none => s'
    else s

end Sys2Proof.Machine
end

