-- ==== Sys2Proof/Machine/LineArt.lean ====
section
/-! DEFINITION. Line art: the run tokens of a block body into the 64 lines of a strip (R53 to R57). -/

namespace Sys2Proof.Machine

/-- What the decoder keeps while it reads line art (R54): the completed lines, the current line, x, and the reference
line. -/
structure Art where
  done : List Line
  cur : Line
  x : Nat
  ref : Line
  deriving DecidableEq, Repr

/-- Line art begins at line count 0 and x 0 with a white reference line (R54). -/
def Art.start : Art := { done := [], cur := 0, x := 0, ref := 0 }

/-- The dots x..x+n-1 of a line. -/
def runMask (x n : Nat) : Line := BitVec.ofNat 32768 ((2 ^ n - 1) <<< x)

/-- Write the dots of a run and advance x; at W the line closes and becomes the reference (R54). -/
def Art.put (w : Nat) (a : Art) (n : Nat) (dots : Line) : Art :=
  let cur := (a.cur &&& ~~~(runMask a.x n)) ||| (dots &&& runMask a.x n)
  if a.x + n = w then { done := a.done ++ [cur], cur := 0, x := 0, ref := cur }
  else { a with cur, x := a.x + n }

/-- The tests of R56 in their order: the fault of a token of this kind and count, none when it passes them all. -/
def Art.fault (w : Nat) (a : Art) (kind n : Nat) : FaultCause :=
  if kind < 1 ∨ 6 < kind then .unknownToken
  else if kind ≠ 4 ∧ kind ≠ 6 ∧ n = 0 then .zeroRun
  else if (kind = 5 ∨ kind = 6) ∧ 0 < a.x then .misplaced
  else if (kind ≠ 6 ∧ a.x = 0 ∧ a.done.length = 64) ∨ (kind = 5 ∧ 64 < a.done.length + n) then .longStrip
  else if kind = 6 ∧ a.done.length < 64 then .shortStrip
  else if kind ≤ 3 ∧ w < a.x + n then .longLine
  else .none

/-- The effect of a token that passed the tests, END apart (R53 to R55): WHITE, BLACK, COPY, REST, REPEAT. -/
def Art.apply (w : Nat) (a : Art) (kind n : Nat) : Art :=
  match kind with
  | 1 => a.put w n 0
  | 2 => a.put w n (runMask a.x n)
  | 3 => a.put w n a.ref
  | 4 => a.put w (w - a.x) a.ref
  | 5 => { a with done := a.done ++ List.replicate n a.ref }
  | _ => a

/-- What the tokens so far have written into the buffer: the completed lines, then the line begun, if one is (R53, R54). -/
def Art.written (a : Art) : List Line := if a.x = 0 then a.done else a.done ++ [a.cur]

/-- Read the line-art code token by token up to END (R55 to R57): the 64 lines, or the first fault with the buffer as the
tokens before it left it (R53). -/
def readArt (w : Nat) (a : Art) : List Byte → Except (FaultCause × List Line) (List Line)
  | k :: hi :: lo :: rest =>
    let n := hi.toNat * 256 + lo.toNat
    match a.fault w k.toNat n with
    | .none => if k.toNat = 6 then .ok a.done else readArt w (a.apply w k.toNat n) rest
    | f => .error (f, a.written)
  | _ => .error (.truncated, a.written)

/-- The strip's lines from a block body: the code area ends at the code length or the end of the body (R52). -/
def lineArt (w codeLength : Nat) (body : List Byte) : Except (FaultCause × List Line) (List Line) :=
  readArt w Art.start (body.take codeLength)

end Sys2Proof.Machine
end

