-- ==== Sys2Proof/Machine/Screening.lean ====
section
/-! DEFINITION. Photo windows: their records and validation (R52, R58 to R61) and the photo dot's arithmetic
(R71 to R79). -/

namespace Sys2Proof.Machine

/-! ### Window records -/

/-- The window record at a body offset, if it has the form of R58 (layout of section 10.9). -/
def windowAt (body : List Byte) (at_ : Nat) : Option Window :=
  let bits := byteAt body (at_ + 6)
  let slots := byteAt body (at_ + 7)
  let form : Option SampleForm :=
    match bits / 64 with | 0 => some .companded8 | 1 => some .linear12 | _ => none
  let merge : Option Merge := match bits / 16 % 4 with | 0 => some .replace | 1 => some .union | _ => none
  let side : Option Nat := match bits % 16 with | 2 => some 4 | 3 => some 8 | 4 => some 16 | _ => none
  let y0 := byteAt body (at_ + 2)
  let width := u16At body (at_ + 3)
  let height := byteAt body (at_ + 5)
  match form, merge, side with
  | some form, some merge, some side =>
    if y0 ≤ 63 ∧ 1 ≤ width ∧ width ≤ 4096 ∧ 1 ≤ height ∧ height ≤ 64 then
      some { x0 := u16At body at_, y0, width, height, side, form, merge, screen := slots / 16, curve := slots % 16,
             offset := u16At body (at_ + 8) }
    else none
  | _, _, _ => none

/-- Bytes of one sample (R71). -/
def SampleForm.bytes : SampleForm → Nat
  | .companded8 => 1
  | .linear12 => 2

/-- The validations of window `i` of a block, in order (R58 to R60). A record that does not lie wholly within the body has
no form to judge and is WINDOW DATA (R52; log entry 13). -/
def validWindow (screenSet curveSet : Byte) (screens : List (Option Screen)) (block : Block) (i : Nat) :
    Except FaultCause Window :=
  let at_ := block.codeLength + i * Config.windowBytes
  if block.body.length < at_ + Config.windowBytes then .error .windowData
  else match windowAt block.body at_ with
    | none => .error .windowForm
    | some win =>
      if ¬ screenSet.getLsbD win.screen ∨ ¬ curveSet.getLsbD win.curve ∨ (screens.getD win.screen none).isNone then
        .error .windowSlot
      else if block.body.length < win.offset + win.width * win.height * win.form.bytes then .error .windowData
      else .ok win

/-- What the decoder does after its line art or an applied window: apply window `i`, or end the decode. -/
inductive NextWindow where
  | apply (i : Nat) (win : Window)
  | finish (cause : FaultCause)
  deriving DecidableEq, Repr

/-- The decoder takes window records in order from `i`, `left` of them being left: a fault ends the decode, a window
outside the plate is skipped (R58, R61). -/
def nextWindow (w : Nat) (valid : Nat → Except FaultCause Window) : Nat → Nat → NextWindow
  | 0, _ => .finish .none
  | left + 1, i =>
    match valid i with
    | .error f => .finish f
    | .ok win => if w ≤ win.x0 then nextWindow w valid left (i + 1) else .apply i win

/-! ### The photo dot (R71 to R79) -/

/-- The linear density of a COMPANDED8 code (R73). -/
def expandCompanded (c : Nat) : Nat :=
  let v := (c % 32) * 2 ^ (c / 32) + 32 * (2 ^ (c / 32) - 1)
  (v * 4095 + 4016) / 8032

/-- The linear density of a LINEAR12 value (R74). -/
def expandLinear (v : Nat) : Nat := min v 4095

/-- The linear density of sample n of a window's array (R71, R73, R74). -/
def sampleDensity (body : List Byte) (win : Window) (n : Nat) : Nat :=
  match win.form with
  | .companded8 => expandCompanded (byteAt body (win.offset + n))
  | .linear12 => expandLinear (u16At body (win.offset + 2 * n))

/-- The tone a curve gives a density, interpolated with floor (R76). -/
def tone (curve : List Nat) (density : Nat) : Int :=
  let k := density / 64
  let f := density % 64
  let p : Int := curve.getD k 0
  let d : Int := (curve.getD (k + 1) 0 : Int) - p
  p + (d * f + 32) / 64

/-- The tile address (i, j) of the dot at plate position (x, y): exact, with non-negative remainders (R78). -/
def Screen.address (sc : Screen) (x y : Nat) : Nat × Nat :=
  let period : Int := sc.side * 65536
  let u : Int := x * sc.ax + y * sc.bx
  let v : Int := x * sc.ay + y * sc.bY
  ((u % period / 65536).toNat, (v % period / 65536).toNat)

/-- The photo dot is black when its tone exceeds the tile entry at its address (R79). -/
def Screen.black (sc : Screen) (t : Int) (x y : Nat) : Bool :=
  let (i, j) := sc.address x y
  decide (((sc.tile.getD (j * sc.side + i) 0 : Nat) : Int) < t)

/-- The photo dot at plate dot x of strip line `line` (R71, R72). -/
def photoDot (sc : Screen) (curve : List Nat) (body : List Byte) (win : Window) (strip x line : Nat) : Bool :=
  let cx := (x - win.x0) / win.side
  let cy := (line - win.y0) / win.side
  sc.black (tone curve (sampleDensity body win (cy * win.width + cx))) x (64 * strip + line)

/-- The merge of a photo dot with the buffer dot (R62). -/
def Merge.dot : Merge → Bool → Bool → Bool
  | .replace, _, photo => photo
  | .union, old, photo => old || photo

/-- A window applied over its clipped area: every dot not already set is set (R61, R62, R69). -/
def applyWindow (sc : Screen) (curve : List Nat) (body : List Byte) (c : WindowContext) (lines : List Line) :
    List Line :=
  lines.zipIdx.map fun p =>
    if c.window.y0 ≤ p.2 ∧ p.2 < c.yEnd then
      Line.ofDots c.w fun x =>
        if c.window.x0 ≤ x ∧ x < c.xEnd ∧ (x, p.2) ∉ c.dotsSet then
          c.window.merge.dot (p.1.getLsbD x) (photoDot sc curve body c.window c.strip x p.2)
        else p.1.getLsbD x
    else p.1

end Sys2Proof.Machine
end

