-- ==== Sys2Proof/Machine/Decoder.lean ====
section
/-! DEFINITION. The Strip Decoder's and the Hatch Filler's own steps: BLOCK_TAKE, DECODE_END, WINDOW_APPLIED,
STRIP_WRITE_START, STRIP_WRITE_COMPLETE, HATCH_STRIP_COMPLETE (chapters 2, 3 and 5). -/

namespace Sys2Proof.Machine

/-- Put a buffer in its place. -/
def State.setBuffer (i : Nat) (b : StripBuffer) (s : State) : State :=
  { s with decoder := { s.decoder with buffers := s.decoder.buffers.set i b } }

/-! ### Taking a block -/

/-- A strip write is in progress for this plate key and strip (R37, R49). -/
def Decoder.writingStrip (key : PlateKey) (strip : Nat) (d : Decoder) : Bool :=
  d.buffers.any fun b =>
    (b.isReady || b.isWriting) && b.context.any fun c => decide (c.key = key) && decide (c.strip = strip)

/-- The decoder may take this block: it works on no body, a buffer is FREE, and no write of the same strip is in progress
(R37). -/
def Decoder.mayTake (b : Block) (d : Decoder) : Bool :=
  !d.buffers.any StripBuffer.isBuilding && d.buffers.any StripBuffer.isFree && !d.writingStrip b.key b.strip

/-- Whether a block of this zone kind is decoded over this strip record; otherwise it is discarded or ignored (R40). A
MISSING record, which no FILLING bay has, is treated as ABSENT (log entry 27). -/
def StripRecord.decodes (r : StripRecord) (zone : ZoneKind) : Bool :=
  match r.state, r.source, r.variantSeen, zone with
  | .absent, _, _, _ => true
  | .missing, _, _, _ => true
  | .good, .common, _, .variant => true
  | .good, _, _, _ => false
  | .damaged, _, true, .common => false
  | .damaged, _, _, _ => true

/-- The decoder goes on with window `k`: it applies the next window, or the decode has ended (R58 to R63, R69). -/
def State.proceed (i : Nat) (ctx : StripContext) (block : Block) (lines : List Line) (k : Nat) (s : State) : State :=
  match nextWindow ctx.w (validWindow ctx.screenSet ctx.curveSet s.screening.screens block) (block.windows - k) k with
  | .finish cause => s.setBuffer i (.building ctx block lines (.ended cause))
  | .apply j win =>
    State.setBuffer i (.building ctx block lines (.applying j))
      { s with screening := { s.screening with
          work := some
            { buffer := i, strip := ctx.strip, w := ctx.w, screenSet := ctx.screenSet, curveSet := ctx.curveSet,
              window := win, xEnd := min ctx.w (win.x0 + win.width * win.side),
              yEnd := min 64 (win.y0 + win.height * win.side), dotsSet := [] } } }

/-- A buffer is bound to a block: the body check, then the line art, then the first windows, the first fault ending the
decode with the buffer as it then stands (R50 to R57; log entry 22). -/
def State.bindBlock (i n : Nat) (p : Plate) (block : Block) (s : State) : State :=
  let ctx : StripContext :=
    { bay := n, key := block.key, strip := block.strip, zone := block.zone, w := p.w, screenSet := p.screenSet,
      curveSet := p.curveSet, content := .image, cause := .none }
  if crc32 block.body = block.bodyCheck then
    match lineArt p.w block.codeLength block.body with
    | .ok lines => s.proceed i ctx block lines 0
    | .error (cause, lines) => s.setBuffer i (.building ctx block lines (.ended cause))
  else s.setBuffer i (.building ctx block [] (.ended .check))

/-- A taken block is dropped and counted (R38). -/
def State.dropBlock (s : State) : State :=
  { s with intake := { s.intake with dropped := satInc Config.countHold s.intake.dropped } }

/-- The second look at the bay for a taken block: drop it, discard or ignore it, or bind a FREE buffer to it
(R38, R40, R41, R50). -/
def State.judgeBlock (block : Block) (s : State) : State :=
  match s.findPlate block.key with
  | none => s.dropBlock
  | some n =>
    match s.plate? n with
    | none => s.dropBlock
    | some p =>
      if p.state = .filling ∧ block.strip < p.strips.length then
        if (p.strips.getD block.strip StripRecord.fresh).decodes block.zone then
          s.bindBlock ((s.decoder.buffers.findIdx? StripBuffer.isFree).getD 0) n p block
        else s.modPlate n fun p => { p with duplicates := satInc Config.countHold p.duplicates }
      else s.dropBlock

/-- BLOCK_TAKE: the oldest block leaves the queue and is judged, when the decoder may take it (R37, R38). -/
def State.blockTake (s : State) : State :=
  match s.intake.queue with
  | [] => s
  | block :: rest =>
    if s.decoder.mayTake block then State.judgeBlock block { s with intake := { s.intake with queue := rest } } else s

/-! ### Windows and the end of a decode -/

/-- WINDOW_APPLIED: every dot of the clipped area is set, the Screening Unit is IDLE and the decoder goes on (R62, R69). -/
def State.windowApplied (s : State) : State :=
  match s.screening.work with
  | none => s
  | some c =>
    match s.decoder.buffers.getD c.buffer .free with
    | .building ctx block lines (.applying k) =>
      let lines' := match s.screening.screens.getD c.window.screen none with
        | some sc => applyWindow sc (s.screening.curves.getD c.window.curve []) block.body c lines
        | none => lines
      State.proceed c.buffer ctx block lines' (k + 1) { s with screening := { s.screening with work := none } }
    | _ => s

/-- The decode of buffer `i` ends: the charge goes with the BUILDING state, a fault replaces the contents by the hatch,
and the buffer is READY behind those already so (R63, R64). -/
def State.endDecode (i : Nat) (ctx : StripContext) (lines : List Line) (cause : FaultCause) (s : State) : State :=
  let buffer : StripBuffer :=
    if cause = .none then .ready ctx lines false
    else .ready { ctx with content := .hatch, cause } (hatchLines ctx.w ctx.strip) false
  { s with decoder := { buffers := s.decoder.buffers.set i buffer, readyOrder := s.decoder.readyOrder ++ [i] } }

/-- DECODE_END, when the BUILDING buffer's decode has ended (R63). -/
def State.decodeEnd (s : State) : State :=
  match s.decoder.buffers.findIdx? StripBuffer.isBuilding with
  | none => s
  | some i =>
    match s.decoder.buffers.getD i .free with
    | .building ctx _ lines (.ended cause) => s.endDecode i ctx lines cause
    | _ => s

/-! ### Writing a strip -/

/-- Burst k of a strip write (R64). -/
def State.stripBurst (ctx : StripContext) (lines : List Line) (k : Nat) (s : State) : Burst :=
  { addr := s.bayBase ctx.bay + ctx.strip * ctx.w + 8 * k
    write := some ((List.range 8).map fun i => stripWord lines ctx.w (8 * k + i)) }

/-- A READY buffer for a bay whose approval is held is held back, unless R66 lets it through. -/
def State.heldBack (ctx : StripContext) (letThrough : Bool) (s : State) : Bool :=
  !letThrough && (s.plate? ctx.bay).any fun p => p.approvalHeld

/-- STRIP_WRITE_START: with no buffer WRITING, the buffer first in READY order becomes WRITING and asks its first burst,
unless it is held back (R64, R66). It does not wait for a burst of a write that was abandoned, which may still be in service:
the model's choice (log entry 43). -/
def State.stripWriteStart (s : State) : State :=
  if s.decoder.buffers.any StripBuffer.isWriting then s
  else match s.decoder.readyOrder with
    | [] => s
    | i :: rest =>
      match s.decoder.buffers.getD i .free with
      | .ready ctx lines letThrough =>
        if s.heldBack ctx letThrough then s
        else
          State.onStore (Store.ask .decoder (s.stripBurst ctx lines 0))
            { s with decoder := { buffers := s.decoder.buffers.set i (.writing ctx lines 0), readyOrder := rest } }
      | _ => s

/-- The strip record after a write (R42). -/
def StripRecord.written (r : StripRecord) (ctx : StripContext) : StripRecord :=
  { state := match ctx.content with | .image => .good | .hatch => .damaged
    source := ctx.zone
    variantSeen := r.variantSeen || decide (ctx.zone = .variant)
    cause := match ctx.content with | .image => .none | .hatch => ctx.cause }

/-- Change one strip record of a plate. -/
def Plate.modStrip (i : Nat) (f : StripRecord → StripRecord) (p : Plate) : Plate :=
  { p with strips := p.strips.set i (f (p.strips.getD i StripRecord.fresh)) }

/-- A completed strip write is recorded, its bay's source set and its buffer freed; then the decoder's waiting take is made
and the held approval judged, in the order `takeFirst` says (R65, R37, R38; log entry 9). A fill that the approval starts asks
its first burst here, ahead of the decoder's next strip (log entry 44). -/
def State.completeWrite (takeFirst : Bool) (i : Nat) (ctx : StripContext) (s : State) : State :=
  let s := State.setBuffer i .free <| State.setSource ctx.bay <|
    s.modPlate ctx.bay (Plate.modStrip ctx.strip fun r => r.written ctx)
  if takeFirst then State.judgeHeld ctx.bay s.blockTake else (State.judgeHeld ctx.bay s).blockTake

/-- STRIP_WRITE_COMPLETE, when the WRITING buffer's last burst has been served (R65). -/
def State.stripWriteComplete (takeFirst : Bool) (s : State) : State :=
  match s.decoder.buffers.findIdx? StripBuffer.isWriting with
  | none => s
  | some i =>
    match s.decoder.buffers.getD i .free with
    | .writing ctx _ served => if ctx.w / 8 ≤ served then s.completeWrite takeFirst i ctx else s
    | _ => s

/-! ### The Hatch Filler's strip -/

/-- A completed fill: its bay becomes QUEUED, its APPROVE PLATE is answered DONE, and the filler goes on (R10, R95). A start
that the QUEUED bay sets off in AUTO mode asks pass 0's burst before the filler asks the next bay's, so that an IDLE store
grants the prefetch: the model's choice (log entry 45). -/
def State.completeFill (n : Nat) (p : Plate) (s : State) : State :=
  State.nextFill <| State.answer? p.approveEntry (Reply.bare .done) <|
    (s.modPlate n fun p => { p with approveEntry := none }).becomeQueued n p.replate

/-- A completed hatch strip is recorded MISSING and its bay's source set; the filler goes on to the next ABSENT strip above
it, or the fill is complete (R94, R95). -/
def State.completeHatchStrip (f : FillContext) (s : State) : State :=
  let s := State.setSource f.bay <|
    s.modPlate f.bay (Plate.modStrip f.strip fun _ => { StripRecord.fresh with state := .missing })
  match s.plate? f.bay with
  | none => s
  | some p =>
    match p.nextAbsent (f.strip + 1) with
    | some i =>
      State.askFill { s with filler := { s.filler with
          fill := some { f with strip := i, requested := 0, served := 0 } } }
    | none => s.completeFill f.bay p

/-- HATCH_STRIP_COMPLETE, when the strip's last burst has been served (R94). -/
def State.hatchStripComplete (s : State) : State :=
  match s.filler.fill with
  | some f => if f.w / 8 ≤ f.served then s.completeHatchStrip f else s
  | none => s

/-! ### The meanings -/

/-- BLOCK_TAKE (R37, R38, R40, R41, R50). -/
def execBlockTake (s : State) : Host.Outcome State Fault Refusal := run State.blockTake s
/-- DECODE_END (R63). -/
def execDecodeEnd (s : State) : Host.Outcome State Fault Refusal := run State.decodeEnd s
/-- WINDOW_APPLIED (R62, R69). -/
def execWindowApplied (s : State) : Host.Outcome State Fault Refusal := run State.windowApplied s
/-- STRIP_WRITE_START (R64, R66). -/
def execStripWriteStart (s : State) : Host.Outcome State Fault Refusal := run State.stripWriteStart s
/-- STRIP_WRITE_COMPLETE (R65). -/
def execStripWriteComplete (takeFirst : Bool) (s : State) : Host.Outcome State Fault Refusal :=
  run (State.stripWriteComplete takeFirst) s
/-- HATCH_STRIP_COMPLETE (R94, R95). -/
def execHatchStripComplete (s : State) : Host.Outcome State Fault Refusal := run State.hatchStripComplete s

end Sys2Proof.Machine
end

