-- ==== Sys2Proof/Machine/Exposure.lean ====
section
/-! DEFINITION. The Exposure Controller's steps: pass fetches (R116, R123), drum index (R124, R126), dot clock and emitters
(R113, R114, R125), completion (R14, R127) and aborts (R15, R16, R128, R130). -/

namespace Sys2Proof.Machine

/-! ### Ends of an exposure -/

/-- The prefetch stops, the emitters are dark, no pass is open and both buffers are EMPTY (R127, R130). -/
def State.stopExposing (s : State) : State :=
  { s with
    store := s.store.stop .prefetch
    exposure := { s.exposure with
      emitters := 0, passOpen := false, prefetchPass := none, buffers := [.empty, .empty] } }

/-- The Exposure Controller becomes IDLE with no current bay and its source set; in AUTO mode that is an AUTO event
(R120, R127, R130). -/
def State.becomeIdle (s : State) : State :=
  State.autoEvent <| State.setSource sourceExposure <|
    s.onExposure fun e => { e with state := .idle, current := none }

/-- A bay's exposure completed: EXPOSED, outcome COMPLETE, its entry at the tail of the inspection queue (R14). -/
def State.bayCompleted (n : Nat) (s : State) : State :=
  State.setSource n <|
    State.modPlate n (fun p => { p with
      state := .exposed, outcome := .complete, exposures := satInc 255 p.exposures })
      { s with inspectionQueue := s.inspectionQueue ++ [.bay n] }

/-- A bay's exposure aborted after a pass had begun: HELD, verdict ABORTED, an ABORTED entry at the tail of the inspection
queue (R15). -/
def State.baySpoiled (n : Nat) (key : PlateKey) (cause : AbortCause) (pass : Nat) (s : State) : State :=
  State.setSource n <|
    State.modPlate n (fun p => { p with
      state := .held, outcome := .aborted cause pass, verdict := .aborted, exposures := satInc 255 p.exposures })
      { s with inspectionQueue := s.inspectionQueue ++ [.aborted key] }

/-- A bay's exposure aborted before any pass: back to the head of the approval queue, or freed if superseded (R16). -/
def State.bayReturned (n : Nat) (key : PlateKey) (s : State) : State :=
  if s.superseded key then s.freeBay n else s.becomeQueued n true

/-- The exposure completes (R127). -/
def State.completeExposure (s : State) : State :=
  match s.exposure.current with
  | none => s
  | some (n, key) =>
    State.becomeIdle <| State.bayCompleted n <|
      s.stopExposing.onExposure fun e => { e with last := .complete n key, spent := true }

/-- The exposure aborts with this cause; whether a pass had begun is decided by the state (R128 to R130). -/
def State.abort (cause : AbortCause) (s : State) : State :=
  match s.exposure.current with
  | none => s
  | some (n, key) =>
    let begun := decide (s.exposure.state = .writing)
    let pass := s.exposure.passCounter
    let s := s.stopExposing.onExposure fun e => { e with
      last := .aborted cause pass begun n key, spent := e.spent || begun }
    State.becomeIdle (if begun then s.baySpoiled n key cause pass else s.bayReturned n key)

/-- A fall of an interlock line: an abort in LOADING, WAITING or WRITING (R128). -/
def State.interlockFall (cause : AbortCause) (s : State) : State :=
  if s.exposure.state = .idle then s else s.abort cause

/-- A fall of plate-loaded clears a set plate-spent mark and sets the exposure source (R121). -/
def State.clearSpent (s : State) : State :=
  if s.exposure.spent then (s.onExposure fun e => { e with spent := false }).setSource sourceExposure else s

/-! ### Pass fetches -/

/-- PASS_FETCH_COMPLETE, when the last burst of the fetch has been served: the buffer is FULL, LOADING goes to WAITING, and
the next fetch may begin (R116, R123). -/
def State.passFetchComplete (s : State) : State :=
  match s.exposure.prefetchPass with
  | none => s
  | some q =>
    match s.exposure.buffers.getD (q % 2) .empty with
    | .fetching q' words =>
      if s.exposureWidth / 2 ≤ words.length then
        let s := s.onExposure fun e => { e with
          prefetchPass := none, buffers := e.buffers.set (q % 2) (.full q' words) }
        let s := if s.exposure.state = .loading then
            (s.onExposure fun e => { e with state := .waiting }).setSource sourceExposure
          else s
        s.beginFetch
      else s
    | _ => s

/-! ### Passes -/

/-- A pass begins: its FULL buffer becomes EMITTING, the counter names it, the position is 0 and the pass is open (R124,
R126). -/
def Exposure.openPass (p : Nat) (words : List StoreWord) (e : Exposure) : Exposure :=
  { e with
    state := .writing, passCounter := p, position := 0, passOpen := true
    buffers := e.buffers.set (p % 2) (.emitting p words) }

/-- The open pass closes: emitters dark, its buffer EMPTY, the fetch of the pass two above may begin, and the last pass
completes the exposure (R117, R125). -/
def State.closePass (s : State) : State :=
  let s := s.onExposure fun e => { e with
    emitters := 0, passOpen := false, buffers := e.buffers.set (e.passCounter % 2) .empty }
  if s.exposure.passCounter + 1 = s.exposure.passCount then s.completeExposure else s.beginFetch

/-- PASS_CLOSE, when the open pass has shown its L positions (R125). -/
def State.passClose (s : State) : State :=
  if s.exposure.state = .writing ∧ s.exposure.passOpen ∧ s.exposure.passLength ≤ s.exposure.position then s.closePass
  else s

/-- A drum index in WRITING (R126). -/
def State.nextPass (s : State) : State :=
  if s.exposure.passOpen then s.abort .overlap
  else
    let p := s.exposure.passCounter + 1
    match s.exposure.buffers.getD (p % 2) .empty with
    | .full q words => if q = p then s.onExposure (Exposure.openPass p words) else s.abort .underrun
    | _ => s.abort .underrun

/-- A drum index in WAITING begins pass 0 (R124). -/
def State.firstPass (s : State) : State :=
  match s.exposure.buffers.getD 0 .empty with
  | .full _ words => (s.onExposure (Exposure.openPass 0 words)).setSource sourceExposure
  | _ => s

/-- DRUM_INDEX (R123, R124, R126): a pass whose positions are all shown closes first (log entry 33). -/
def State.drumIndex (s : State) : State :=
  let s := s.passClose
  match s.exposure.state with
  | .waiting => s.firstPass
  | .writing => s.nextPass
  | _ => s

/-! ### Emission (R113, R114) -/

/-- Dot (d, k) of a pass: dot d of its line k among the words of its buffer (R116). -/
def passDot (words : List StoreWord) (rowWords k d : Nat) : Bool :=
  (words.getD (k * rowWords + d / 64) 0).getLsbD (d % 64)

/-- The words of the open pass's buffer. -/
def Exposure.passWords (e : Exposure) : List StoreWord :=
  match e.buffers.getD (e.passCounter % 2) .empty with
  | .emitting _ words => words
  | _ => []

/-- Emitter k is lit at position x: its dot lies on the plate and is black, and the interlocks are asserted (R114). -/
def State.lit (s : State) (k x : Nat) : Bool :=
  let skew := s.exposure.skews.getD k 0
  s.interlocked && decide (skew ≤ x) && decide (x - skew < s.exposureWidth)
    && passDot s.exposure.passWords (s.exposureWidth / 64) k (x - skew)

/-- The 32 emitters at position x. -/
def State.emission (s : State) (x : Nat) : BitVec 32 := BitVec.ofNat 32 (dotBits (fun k => s.lit k x) 32)

/-- DOT_CLOCK_PULSE: with a pass open in WRITING and positions to show, the emitters are set for position x and x rises by
one; otherwise the pulse is ignored (R123, R125). -/
def State.dotClock (s : State) : State :=
  if s.exposure.state = .writing ∧ s.exposure.passOpen ∧ s.exposure.position < s.exposure.passLength then
    s.onExposure fun e => { e with emitters := s.emission e.position, position := e.position + 1 }
  else s

/-! ### The meanings -/

/-- PASS_FETCH_COMPLETE (R116, R123). -/
def execPassFetchComplete (s : State) : Host.Outcome State Fault Refusal := run State.passFetchComplete s
/-- DRUM_INDEX (R124, R126). -/
def execDrumIndex (s : State) : Host.Outcome State Fault Refusal := run State.drumIndex s
/-- PASS_CLOSE (R125, R127). -/
def execPassClose (s : State) : Host.Outcome State Fault Refusal := run State.passClose s
/-- DOT_CLOCK_PULSE (R114, R125). -/
def execDotClockPulse (s : State) : Host.Outcome State Fault Refusal := run State.dotClock s

end Sys2Proof.Machine
end

