-- ==== Sys2Proof/Machine/Compare.lean ====
section
/-! DEFINITION. The inspection's arithmetic: gains (R139), coverage (R141, R142), drift and flags (R143), runs (R146),
matching of runs and defects (R148, R149) and the verdict (R154). -/

namespace Sys2Proof.Machine

/-! ### Calibration (R138, R139) -/

/-- The dark table of a DARK phase's sums (R138). -/
def darkTable (sums : List Nat) : List Nat := sums.map fun sum => sum / 16

/-- An element's quotient 4095·1,024 / max(w − dark, 1) before the clamp (R139). -/
def gainQuotient (sum dark : Nat) : Nat := 4193280 / max (sum / 16 - dark) 1

/-- The candidate gains of a WHITE phase (R139). -/
def gainTable (sums dark : List Nat) : List Nat := List.zipWith (fun sum d => min (gainQuotient sum d) 4095) sums dark

/-- The elements a WHITE phase finds weak (R139). -/
def weakElements (sums dark : List Nat) : List Nat :=
  ((List.zipWith gainQuotient sums dark).zipIdx.filter fun p => decide (4095 < p.1)).map Prod.snd

/-! ### Coverage (R141, R142) -/

/-- The normalised brightness of a sample (R141). -/
def brightness (sample dark gain : Nat) : Nat := min ((sample - dark) * gain / 1024) 4095

/-- The measured coverage of a sample, in sixty-fourths (R141). -/
def measuredCoverage (sample dark gain : Nat) : Nat := ((4095 - brightness sample dark gain) * 64 + 2047) / 4095

/-- The black dots of element e's R×R square among the words of a scan line of a plate with `rowWords` words a line
(R135, R142). -/
def squareCount (words : List StoreWord) (rowWords r e : Nat) : Nat :=
  ((List.range r).map fun i =>
    (List.range r).countP fun k => (words.getD (i * rowWords + e * r / 64) 0).getLsbD (e * r % 64 + k)).sum

/-- The expected coverage from a count of black dots (R142). -/
def expectedCoverage (res : Resolution) (count : Nat) : Nat :=
  match res with
  | .r8 => count
  | .r16 => (count + 2) / 4

/-- The number E of examined elements of a plate W dots wide (R135). -/
def examined (res : Resolution) (w : Nat) : Nat := min (w / res.side) Config.elements

/-- The expected line of a fetched scan line: E coverages (R142). -/
def coverageLine (res : Resolution) (w : Nat) (words : List StoreWord) : List Nat :=
  (List.range (examined res w)).map fun e => expectedCoverage res (squareCount words (w / 64) res.side e)

/-! ### Deviations, drift and flags (R143) -/

/-- The deviations of a line against its expected coverages, none for a weak element (R143). -/
def deviations (dark gain weak coverage : List Nat) (line : ScanLine) : List (Option Int) :=
  coverage.zipIdx.map fun p =>
    if weak.contains p.2 then none
    else some ((measuredCoverage (line.getD p.2 0).toNat (dark.getD p.2 0) (gain.getD p.2 1024) : Int) - p.1)

/-- A deviation enters the drift window at its tail; the ninth value pushes out the oldest (R143). -/
def pushDrift (window : List Int) (d : Int) : List Int :=
  if 8 ≤ window.length then (window ++ [d]).tail else window ++ [d]

/-- The drift estimate: floor(S/8) (R143). -/
def driftEstimate (window : List Int) : Int := window.sum / 8

/-- Element by element: the corrected deviation of each flagged element, none for the others, and the window at the end
(R143). -/
def flagElements (thr : Nat) : List (Option Int) → List Int → List (Option Int) × List Int
  | [], window => ([], window)
  | none :: ds, window =>
    let r := flagElements thr ds window
    (none :: r.1, r.2)
  | some d :: ds, window =>
    if thr < (d - driftEstimate window).natAbs then
      let r := flagElements thr ds window
      (some (d - driftEstimate window) :: r.1, r.2)
    else
      let r := flagElements thr ds (pushDrift window d)
      (none :: r.1, r.2)

/-! ### Runs (R146) -/

/-- A run: its extended range and the corrected deviations of its flagged elements (R146). -/
structure Run where
  first : Nat
  last : Nat
  devs : List Int
  deriving DecidableEq, Repr

def Run.area (r : Run) : Nat := r.devs.length

/-- EXCESS if every deviation is above 0, LOSS if every one is below, else MIXED (R146). -/
def Run.sign (r : Run) : Sign :=
  if r.devs.all fun d => decide (0 < d) then .excess else if r.devs.all fun d => decide (d < 0) then .loss else .mixed

def Run.peak (r : Run) : Nat := (r.devs.map Int.natAbs).foldl max 0

/-- The raw runs of a flagged line: maximal stretches of flagged elements (R146, step 1). `pos` is the next element and
`cur` the stretch that ends before it. -/
def rawRuns (pos : Nat) (cur : List Int) : List (Option Int) → List Run
  | [] => if cur = [] then [] else [{ first := pos - cur.length, last := pos - 1, devs := cur }]
  | some d :: rest => rawRuns (pos + 1) (cur ++ [d]) rest
  | none :: rest =>
    (if cur = [] then [] else [{ first := pos - cur.length, last := pos - 1, devs := cur }])
      ++ rawRuns (pos + 1) [] rest

/-- A kept raw run extended by pre and post, clipped to 0..E-1 (R146, step 3). -/
def Run.extend (pre post e : Nat) (r : Run) : Run := { r with first := r.first - pre, last := min (r.last + post) (e - 1) }

/-- Put a run before runs to its right, merged with the first of them if their ranges overlap or touch (R146, step 4). -/
def mergeRun (r : Run) : List Run → List Run
  | [] => [r]
  | r2 :: rest =>
    if r2.first ≤ r.last + 1 then { first := r.first, last := max r.last r2.last, devs := r.devs ++ r2.devs } :: rest
    else r :: r2 :: rest

/-- The runs of a compared line (R146). -/
def formRuns (set : InspectionSettings) (flags : List (Option Int)) : List Run :=
  (((rawRuns 0 [] flags).filter fun r => decide (set.q ≤ r.area)).map
    (Run.extend set.pre set.post flags.length)).foldr mergeRun []

/-! ### Matching (R148) -/

/-- A run and an open defect share at least one element (R148; log entry 14 for ranges in several pieces). -/
def Run.joins (r : Run) (o : OpenDefect) : Bool := o.ranges.any fun p => decide (p.1 ≤ r.last ∧ r.first ≤ p.2)

/-- A group of runs and open defects connected by joins (R148). -/
structure Group where
  runs : List Run
  defects : List Nat
  deriving DecidableEq, Repr

/-- Bring the next run (left to right) into the groups: it links every group that shares a defect with it (R148). -/
def addToGroups (opens : List OpenDefect) (groups : List Group) (r : Run) : List Group :=
  let ds := (opens.filter r.joins).map OpenDefect.number
  let hit : Group → Bool := fun g => g.defects.any ds.contains
  let hits := groups.filter hit
  let merged : Group :=
    { runs := hits.flatMap Group.runs ++ [r], defects := (hits.flatMap Group.defects ++ ds).eraseDups }
  groups.takeWhile (fun g => !hit g) ++ [merged] ++ (groups.dropWhile fun g => !hit g).filter fun g => !hit g

/-- The groups that hold a run, in increasing order of their leftmost run (R148). -/
def groupRuns (opens : List OpenDefect) (runs : List Run) : List Group := runs.foldl (addToGroups opens) []

/-- What the matching changes: the bay's list, the open-defect table, the next number, the untracked-run count and the
pool's free records. -/
structure Tracker where
  list : List DefectRecord
  opens : List OpenDefect
  nextNumber : Nat
  untracked : Nat
  free : Nat
  deriving DecidableEq, Repr

/-- EXCESS and LOSS if both have that sign, MIXED otherwise (R147). -/
def Sign.join (a b : Sign) : Sign := if a = b then a else .mixed

/-- A run joins a defect on scan line y (R148). -/
def DefectRecord.addRun (y : Nat) (d : DefectRecord) (r : Run) : DefectRecord :=
  { d with
    lastLine := y
    firstElement := min d.firstElement r.first
    lastElement := max d.lastElement r.last
    area := d.area + r.area
    sign := d.sign.join r.sign
    peak := max d.peak r.peak }

/-- A defect merges into an older one (R148). -/
def DefectRecord.absorb (d e : DefectRecord) : DefectRecord :=
  { d with
    firstLine := min d.firstLine e.firstLine
    lastLine := max d.lastLine e.lastLine
    firstElement := min d.firstElement e.firstElement
    lastElement := max d.lastElement e.lastElement
    area := d.area + e.area
    sign := d.sign.join e.sign
    peak := max d.peak e.peak }

/-- A new defect for a run on scan line y (R148). -/
def DefectRecord.opened (number y : Nat) (r : Run) : DefectRecord :=
  { number, firstLine := y, lastLine := y, firstElement := r.first, lastElement := r.last, area := r.area,
    sign := r.sign, peak := r.peak }

/-- A group of one run and no defect opens a defect, or its run is untracked (R148, R149). -/
def Tracker.openFor (y : Nat) (t : Tracker) (r : Run) : Tracker :=
  if 1 ≤ t.free ∧ t.opens.length < Config.openMax ∧ t.nextNumber ≤ 65535 then
    { t with
      list := t.list ++ [DefectRecord.opened t.nextNumber y r]
      opens := t.opens ++ [{ number := t.nextNumber, ranges := [(r.first, r.last)] }]
      nextNumber := t.nextNumber + 1
      free := t.free - 1 }
  else { t with untracked := satInc Config.countHold t.untracked }

/-- A group's defects merge into the oldest and every run of the group joins it (R148). -/
def Tracker.joinInto (y : Nat) (t : Tracker) (oldest : Nat) (others : List Nat) (runs : List Run) : Tracker :=
  let gone := t.list.filter fun d => others.contains d.number
  { t with
    list := (t.list.filter fun d => !others.contains d.number).map fun d =>
      if d.number = oldest then runs.foldl (DefectRecord.addRun y) (gone.foldl DefectRecord.absorb d) else d
    opens := (t.opens.filter fun o => !others.contains o.number).map fun o =>
      if o.number = oldest then { o with ranges := runs.map fun r => (r.first, r.last) } else o
    free := t.free + gone.length }

/-- Deal with one group of scan line y (R148). -/
def Tracker.takeGroup (y : Nat) (t : Tracker) (g : Group) : Tracker :=
  match g.defects with
  | [] => g.runs.foldl (Tracker.openFor y) t
  | d :: ds =>
    let oldest := ds.foldl min d
    t.joinInto y oldest (g.defects.filter fun n => decide (n ≠ oldest)) g.runs

/-- The open defects that no run of scan line y joined are closed (R149). -/
def Tracker.close (y : Nat) (t : Tracker) : Tracker :=
  { t with opens := t.opens.filter fun o => t.list.any fun d => decide (d.number = o.number ∧ d.lastLine = y) }

/-- The matching of a scan line's runs (R148, R149). -/
def Tracker.matchLine (y : Nat) (t : Tracker) (runs : List Run) : Tracker :=
  ((groupRuns t.opens runs).foldl (Tracker.takeGroup y) t).close y

/-- The verdict on a plate whose scan was neither lagged, cleared early nor overlapped (R154). -/
def scanVerdict (set : InspectionSettings) (p : Plate) : Verdict :=
  if 0 < p.untracked ∨ (p.defects.any fun d => decide (set.rejectArea ≤ d.area)) then .reject
  else if p.defects.any fun d => decide (set.minArea ≤ d.area) then .marginal
  else .clean

end Sys2Proof.Machine
end

