-- ==== Sys2Proof/Machine/Inspection.lean ====
section
/-! DEFINITION. The Inspection Unit's steps: calibration (R137 to R140), binding and ending a scan (R150 to R155), scan
lines, expected lines and comparison (R142 to R149). -/

namespace Sys2Proof.Machine

/-- Change the Inspection Unit's own state. -/
def State.onInspection (f : Inspection → Inspection) (s : State) : State := { s with inspection := f s.inspection }

/-- The Inspection Unit goes on as this. -/
def State.setWork (w : InspectionUnit) (s : State) : State := { s with inspection := { s.inspection with work := w } }

/-- A diverter pulse is asked for: any running pulse ends and the new one begins with the width in force (R167). -/
def State.requestPulse (reject : Bool) (s : State) : State :=
  { s with lines := { s.lines with pulse := some { reject, timeLeft := 10 * s.settings.pulseSteps } } }

/-! ### Calibration -/

/-- A phase ends: the last calibration is recorded, the unit is IDLE, the inspection source is set and the request is
answered (R138 to R140). -/
def State.endCalibration (c : Calibration) (outcome : CalibrationOutcome) (weak : Nat) (r : Reply) (s : State) : State :=
  State.answer? c.entry r <| State.setSource sourceInspection
    { s with inspection := { s.inspection with
        work := .idle, lastCalibration := some { phase := c.phase, outcome, weak } } }

/-- A DARK phase completes: the dark table is replaced (R138). -/
def State.completeDark (c : Calibration) (s : State) : State :=
  State.endCalibration c .done s.inspection.weak.length (Reply.bare .done)
    (s.onInspection fun i => { i with dark := darkTable c.sums })

/-- A WHITE phase completes: gains and weak set are replaced, or with more than 64 weak elements the phase fails (R139). -/
def State.completeWhite (c : Calibration) (s : State) : State :=
  let weak := weakElements c.sums s.inspection.dark
  if weak.length ≤ Config.weakMax then
    State.endCalibration c .done weak.length { status := .done, data := be16 weak.length }
      (s.onInspection fun i => { i with gain := gainTable c.sums i.dark, weak })
  else s.endCalibration c .failed weak.length { status := .calibrationFailed, data := be16 weak.length }

/-- A phase that has its 16 lines completes (R137). -/
def State.completePhase (c : Calibration) (s : State) : State :=
  match c.phase with
  | .dark => s.completeDark c
  | .white => s.completeWhite c

/-- A calibration is ended by a scan start or RESET PLATES: complete if it has its 16 lines (log entry 32), otherwise
abandoned and answered ABORTED (R140). -/
def State.cutCalibration (s : State) : State :=
  match s.inspection.work with
  | .calibrating c =>
    if Config.calibrationLines ≤ c.lines then s.completePhase c
    else s.endCalibration c .aborted 0 (Reply.bare .aborted)
  | _ => s

/-- DARK_CALIBRATION_DONE (R138). -/
def State.darkCalibrationDone (s : State) : State :=
  match s.inspection.work with
  | .calibrating c => if c.phase = .dark ∧ Config.calibrationLines ≤ c.lines then s.completeDark c else s
  | _ => s

/-- WHITE_CALIBRATION_DONE (R139). -/
def State.whiteCalibrationDone (s : State) : State :=
  match s.inspection.work with
  | .calibrating c => if c.phase = .white ∧ Config.calibrationLines ≤ c.lines then s.completeWhite c else s
  | _ => s

/-- A scan line in CALIBRATING adds to the sums; with 16 taken the phase is complete and it is discarded (R137). -/
def State.calibrationLine (c : Calibration) (line : ScanLine) (s : State) : State :=
  if c.lines < Config.calibrationLines then
    s.setWork (.calibrating { c with
      lines := c.lines + 1, sums := c.sums.zipIdx.map fun p => p.1 + (line.getD p.2 0).toNat })
  else s

/-! ### The expected line -/

/-- Words of one scan line of a bay: R·W/64 (R103). -/
def State.scanWords (bay : Nat) (s : State) : Nat :=
  s.settings.resolution.side * (((s.plate? bay).map Plate.w).getD 0 / 64)

/-- Scan lines of a bay's plate: H/R (R135). -/
def State.scanLines (bay : Nat) (s : State) : Nat := ((s.plate? bay).map Plate.h).getD 0 / s.settings.resolution.side

/-- Burst k of scan line y of a bay (R103). -/
def State.scanBurst (bay y k : Nat) (s : State) : Burst :=
  { addr := s.bayBase bay + y * s.scanWords bay + 8 * k, write := none }

/-- The fetch of the expected line for scan line y begins (R144). -/
def State.beginExpected (y : Nat) (s : State) : State :=
  match s.inspection.work with
  | .scanning sc =>
    State.onStore (Store.ask .inspect (s.scanBurst sc.bay y 0))
      (s.setWork (.scanning { sc with expected := .fetching y [] }))
  | _ => s

/-! ### The end of a scan -/

/-- The verdict and its cause are handed on: the bay is HELD, the pulse is asked for, the outcome recorded and the unit
IDLE (R19, R155). -/
def State.endScan (cause : UncheckedCause) (s : State) : State :=
  match s.inspection.work with
  | .scanning sc =>
    match s.plate? sc.bay with
    | none => s.setWork .idle
    | some p =>
      let v : Verdict := if cause = .none then scanVerdict sc.settings p else .unchecked
      let due := s.settings.autoRelease && decide (v = .clean) && p.allGood
      State.setSource sourceInspection <| State.onStore (Store.stop .inspect) <|
        State.onInspection (fun i => { i with work := .idle, lastScan := .verdict v cause sc.bay sc.key }) <|
          State.requestPulse (decide (v = .reject)) <| State.forgetDue sc.bay <| State.setSource sc.bay <|
            s.setBay sc.bay (some { p with state := .held, verdict := v, autoDue := due })
  | _ => s

/-- The scan is marked lagged: the FIFO is emptied, the fetch stops and every open defect closes (R145). -/
def State.markLagged (sc : Scan) (s : State) : State :=
  State.setSource sourceInspection <| State.onStore (Store.stop .inspect) <|
    s.setWork (.scanning { sc with
      received := sc.received + 1, lagged := true, fifo := [], expected := .empty, openDefects := [] })

/-! ### Comparison -/

/-- The comparison of a scan line: flags, runs and matching, into the bay's defect list and untracked-run count (R143 to
R149). -/
def State.compareLine (sc : Scan) (p : Plate) (coverage : List Nat) (line : ScanLine) (rest : List ScanLine)
    (s : State) : State :=
  let flagged := flagElements sc.settings.thr
    (deviations s.inspection.dark s.inspection.gain s.inspection.weak coverage line) []
  let t := Tracker.matchLine sc.next
    { list := p.defects, opens := sc.openDefects, nextNumber := sc.nextNumber, untracked := p.untracked,
      free := s.freeRecords }
    (formRuns sc.settings flagged.1)
  (s.setBay sc.bay (some { p with defects := t.list, untracked := t.untracked })).setWork (.scanning { sc with
    next := sc.next + 1, drift := flagged.2, fifo := rest, expected := .empty, openDefects := t.opens,
    nextNumber := t.nextNumber })

/-- The head of the FIFO is compared when the expected line is FULL for its number; then the next fetch begins, or the scan
ends with the last line (R144, R152). -/
def State.compareIfReady (s : State) : State :=
  match s.inspection.work with
  | .scanning sc =>
    match sc.fifo, sc.expected, s.plate? sc.bay with
    | line :: rest, .full y coverage, some p =>
      if y = sc.next then
        let s' := s.compareLine sc p coverage line rest
        if sc.next + 1 < s'.scanLines sc.bay then s'.beginExpected (sc.next + 1) else s'.endScan .none
      else s
    | _, _, _ => s
  | _ => s

/-- A scan line in SCANNING (R144, R145, R152). -/
def State.receiveLine (sc : Scan) (line : ScanLine) (s : State) : State :=
  let total := s.scanLines sc.bay
  if total ≤ sc.received then s
  else if sc.lagged then
    let s' := s.setWork (.scanning { sc with received := sc.received + 1 })
    if sc.received + 1 = total then s'.endScan .lagged else s'
  else if sc.fifo.length < Config.fifoLines then
    (s.setWork (.scanning { sc with received := sc.received + 1, fifo := sc.fifo ++ [line] })).compareIfReady
  else
    let s' := s.markLagged sc
    if sc.received + 1 = total then s'.endScan .lagged else s'

/-- SCAN_LINE: into the calibration sums, into the scan, or discarded (R135). -/
def State.scanLine (line : ScanLine) (s : State) : State :=
  match s.inspection.work with
  | .idle => s
  | .calibrating c => s.calibrationLine c line
  | .scanning sc => s.receiveLine sc line

/-- EXPECTED_LINE_FULL, when the last burst of the range has been served: the coverages are counted, the expected line is
FULL, and a waiting scan line is compared (R142, R144). -/
def State.expectedLineFull (s : State) : State :=
  match s.inspection.work with
  | .scanning sc =>
    match sc.expected with
    | .fetching y words =>
      if s.scanWords sc.bay ≤ words.length then
        (s.setWork (.scanning { sc with
          expected := .full y
            (coverageLine s.settings.resolution (((s.plate? sc.bay).map Plate.w).getD 0) words) })).compareIfReady
      else s
    | _ => s
  | _ => s

/-! ### Scan starts -/

/-- The unit is bound to the bay at the head of the inspection queue (R18, R150). -/
def State.bindScan (n : Nat) (p : Plate) (s : State) : State :=
  State.setSource sourceInspection <| State.beginExpected 0 <|
    State.setWork (.scanning
      { bay := n, key := p.key, settings := s.inspection.settings, received := 0, next := 0, lagged := false,
        drift := [], fifo := [], expected := .empty, openDefects := [], nextNumber := 1 }) <|
      State.setSource n <| s.setBay n (some { p with state := .inspecting })

/-- A scan start judged for an IDLE unit against the head of the inspection queue; an entry that leaves the queue is an
AUTO event, taken once the scan is bound and has asked its first burst (R17, R18, R120, R150; log entry 36). -/
def State.judgeScanStart (s : State) : State :=
  match s.inspectionQueue with
  | .bay n :: rest =>
    let s := { s with inspectionQueue := rest }
    State.autoEvent (match s.plate? n with
      | some p => s.bindScan n p
      | none => s)
  | .aborted key :: rest =>
    State.autoEvent <| State.setSource sourceInspection <| State.requestPulse true <|
      State.onInspection (fun i => { i with
        abortedCount := satInc Config.countHold i.abortedCount, lastScan := .abortedPlate key })
        { s with inspectionQueue := rest }
  | [] =>
    State.setSource sourceInspection <| State.requestPulse true <|
      s.onInspection fun i => { i with
        unexpectedCount := satInc Config.countHold i.unexpectedCount, lastScan := .unexpected }

/-- A rise of plate-at-scanner: a calibration is cut, a scan in progress is closed as an overlap, and the start is judged
(R140, R150, R151). -/
def State.scanStart (s : State) : State :=
  (match s.inspection.work with
  | .idle => s
  | .calibrating _ => s.cutCalibration
  | .scanning _ => s.endScan .overlap).judgeScanStart

/-- A rise of plate-clear ends a scan that still has lines to come (R153). -/
def State.plateClear (s : State) : State :=
  match s.inspection.work with
  | .scanning sc => if sc.received < s.scanLines sc.bay then s.endScan .earlyClear else s
  | _ => s

/-! ### The meanings -/

/-- SCAN_LINE (R135, R137, R144, R145, R152). -/
def execScanLine (samples : ScanLine) (s : State) : Host.Outcome State Fault Refusal := run (State.scanLine samples) s
/-- DARK_CALIBRATION_DONE (R138). -/
def execDarkCalibrationDone (s : State) : Host.Outcome State Fault Refusal := run State.darkCalibrationDone s
/-- WHITE_CALIBRATION_DONE (R139). -/
def execWhiteCalibrationDone (s : State) : Host.Outcome State Fault Refusal := run State.whiteCalibrationDone s
/-- EXPECTED_LINE_FULL (R142, R144). -/
def execExpectedLineFull (s : State) : Host.Outcome State Fault Refusal := run State.expectedLineFull s

end Sys2Proof.Machine
end

