-- ==== Sys2Proof/Machine/Lines.lean ====
section
/-! DEFINITION. The Line Monitor's steps: ticks and level changes (R161), edges and their reports (R162, R163), the end of a
diverter pulse (R167). -/

namespace Sys2Proof.Machine

/-- Put an input record in its place. -/
def State.setInput (n : Nat) (l : InputLine) (s : State) : State :=
  { s with lines := { s.lines with inputs := s.lines.inputs.set n l } }

/-- The report of an edge to the block that acts on its line (R163). -/
def State.reportEdge (n : Nat) (level : Bool) (s : State) : State :=
  match n, level with
  | 0, false => s.interlockFall .door
  | 1, false => s.clearSpent.interlockFall .plateLost
  | 1, true => s.autoEvent
  | 2, false => s.interlockFall .head
  | 3, true => s.scanStart
  | 4, true => s.plateClear
  | _, _ => s

/-- The event flag and latched level of an input after a matching edge to this level (R162). -/
def InputLine.mark (level : Bool) (l : InputLine) : InputLine :=
  { l with flag := true, latched := if l.flag then l.latched else level }

/-- An edge's flag, latched level and notice (R162). -/
def State.markEdge (n : Nat) (level : Bool) (s : State) : State :=
  let l := s.input n
  if l.edge.matches level then
    let s := s.setInput n (l.mark level)
    if l.masked then s else s.setSource sourceLines
  else s

/-- An edge of an input whose levels differ: the debounced level takes the raw level, the pending count begins anew (log
entry 39), the edge is reported, then compared with the edge setting (R161, R162). Equal levels make no edge. -/
def State.takeEdge (n : Nat) (s : State) : State :=
  let l := s.input n
  if l.raw = l.debounced then s.setInput n { l with edgeDue := false }
  else
    ((s.setInput n { l with debounced := l.raw, count := 0, edgeDue := false }).reportEdge n l.raw).markEdge n l.raw

/-- INPUT_EDGE: the edge a tick has made due (R162; log entry 10). -/
def State.inputEdge (n : Nat) (s : State) : State := if (s.input n).edgeDue then s.takeEdge n else s

/-- The edges still due, in line order: a tick, a level change or new settings find none due (log entry 10). -/
def State.takeDueEdges (s : State) : State := (List.range 8).foldl (fun s n => s.inputEdge n) s

/-- The tick of one input (R161): its count is reset or advanced, and at the setting its edge is due. -/
def InputLine.tick (l : InputLine) : InputLine :=
  if l.debounce = 0 then l
  else if l.raw = l.debounced then { l with count := 0 }
  else { l with count := min (l.count + 1) 15, edgeDue := decide (l.debounce ≤ min (l.count + 1) 15) }

/-- LINE_TICK (R161). -/
def State.lineTick (s : State) : State :=
  let s := s.takeDueEdges
  { s with lines := { s.lines with inputs := s.lines.inputs.map InputLine.tick } }

/-- RAW_LEVEL_CHANGE: with debounce 0 the change is an edge at once (R161). -/
def State.rawLevelChange (n : Nat) (level : Bool) (s : State) : State :=
  let s := s.inputEdge n
  let s := s.setInput n { s.input n with raw := level }
  if (s.input n).debounce = 0 then s.takeEdge n else s

/-- DIVERTER_PULSE_END: the pulse ends (R167). -/
def State.diverterPulseEnd (s : State) : State := { s with lines := { s.lines with pulse := none } }

/-! ### The meanings -/

/-- LINE_TICK (R161). -/
def execLineTick (s : State) : Host.Outcome State Fault Refusal := run State.lineTick s
/-- RAW_LEVEL_CHANGE (R161). -/
def execRawLevelChange (line : Fin 8) (level : Bool) (s : State) : Host.Outcome State Fault Refusal :=
  run (State.rawLevelChange line.val level) s
/-- INPUT_EDGE (R162, R163). -/
def execInputEdge (line : Fin 8) (s : State) : Host.Outcome State Fault Refusal := run (State.inputEdge line.val) s
/-- DIVERTER_PULSE_END (R167). -/
def execDiverterPulseEnd (s : State) : Host.Outcome State Fault Refusal := run State.diverterPulseEnd s

end Sys2Proof.Machine
end

