-- ==== Sys2Proof/Machine/Resets.lean ====
section
/-! DEFINITION. The resets: a full reset (R26, R46, R68, R88, R97, R111, R133, R159, R168, R180) and RESET PLATES (R27, R47,
R68, R89, R97, R112, R134, R160, R168, R181). -/

namespace Sys2Proof.Machine

/-- A full reset of this kind with these straps: every block at its reset values; the levels at the input pins, the queue of
commands and the seed of the free values are what they were. -/
def State.fullReset (kind : ResetKind) (straps : BitVec 2) (s : State) : State :=
  { State.reset with
    store := Store.reset s.store.seed
    lines := Lines.reset (s.lines.inputs.map InputLine.raw)
    link := Link.reset kind straps
    pending := s.pending }

/-- The outstanding entries of plate work: APPROVE PLATEs held or pending (R27). -/
def State.approvalEntries (s : State) : List Nat :=
  s.bays.filterMap fun o => o.bind fun p => p.approveEntry

/-- The entry of a CALIBRATE SCANNER in progress (R140). -/
def State.calibrationEntry (s : State) : Option Nat :=
  match s.inspection.work with
  | .calibrating c => c.entry
  | _ => none

/-- The Exposure Controller at RESET PLATES: an exposure in progress is aborted with cause RESET, without a report to the
Bay Manager (R130, R134). -/
def Exposure.resetPlates (e : Exposure) : Exposure :=
  { e with
    state := .idle, current := none, passCounter := 0, position := 0, passOpen := false, prefetchPass := none,
    nextFetch := 0, buffers := [.empty, .empty], emitters := 0, autoHold := false
    spent := e.spent || decide (e.state = .writing)
    last := match e.current with
      | some (n, key) => .aborted .reset e.passCounter (decide (e.state = .writing)) n key
      | none => e.last }

/-- The Inspection Unit at RESET PLATES (R160). -/
def Inspection.resetPlates (i : Inspection) : Inspection :=
  { i with
    work := .idle, lastScan := .none, unexpectedCount := 0, abortedCount := 0
    lastCalibration := match i.work with
      | .calibrating c => some { phase := c.phase, outcome := .aborted, weak := 0 }
      | _ => i.lastCalibration }

/-- The Store Controller at RESET PLATES: nothing asked, a burst in service completes unwanted, refresh goes on (R112). -/
def Store.resetPlates (st : Store) : Store :=
  { st with
    prefetch := none, inspect := none, writer := []
    service := match st.service with
      | .burst a b _ => .burst a b false
      | other => other }

/-- The answers of plate work, in entry order, which is the order in which the requests took their entries (log entry 38):
WITHDRAWN for approvals, ABORTED for a calibration (R181). -/
def State.answerPlateWork (approvals : List Nat) (calibration : Option Nat) (s : State) : State :=
  s.link.outstanding.foldl (fun s e =>
    if approvals.contains e.slot then s.answer e.slot (Reply.bare .withdrawn)
    else if calibration = some e.slot then s.answer e.slot (Reply.bare .aborted)
    else s) s

/-- RESET PLATES in every block but the Link Controller. -/
def State.clearPlates (s : State) : State :=
  { s with
    bays := s.bays.map fun _ => none
    approvalQueue := [], inspectionQueue := []
    intake := { queue := [], dropped := 0 }
    decoder := Decoder.reset
    screening := { s.screening with work := none }
    filler := { fill := none, list := [] }
    store := s.store.resetPlates
    exposure := s.exposure.resetPlates
    inspection := s.inspection.resetPlates }

/-- RESET PLATES (R181): a calibration that has its 16 lines completes first (log entry 32); every block carries out the
reset; the answers of plate work are given; the exposure source is set (R134), the inspection source where a calibration was
abandoned (R140; log entry 21), and the link source with the ready mark and kind PLATES. -/
def State.resetPlates (s : State) : State :=
  let s := match s.inspection.work with
    | .calibrating c => if Config.calibrationLines ≤ c.lines then s.completePhase c else s
    | _ => s
  let cleared := (s.clearPlates.answerPlateWork s.approvalEntries s.calibrationEntry).setSource sourceExposure
  let cleared := match s.inspection.work with
    | .calibrating _ => cleared.setSource sourceInspection
    | _ => cleared
  State.setSource sourceLink { cleared with link := { cleared.link with ready := true, resetKind := .plates } }

/-- HARDWARE_RESET (R179, R180). -/
def execHardwareReset (straps : BitVec 2) (s : State) : Host.Outcome State Fault Refusal :=
  run (State.fullReset .hardware straps) s

end Sys2Proof.Machine
end

