-- ==== Sys2Proof/Machine/Operands.lean ====
section
/-! DEFINITION. The operand forms: the fields of request bodies (section 10.9) and the checks made on them before anything
else. -/

namespace Sys2Proof.Machine

/-- A status that refuses, or the plate a request names by bay number and key (R4). -/
def State.namedPlate (bay : Nat) (key : PlateKey) (s : State) : Except Status Plate :=
  if s.bayCount ≤ bay ∨ ¬ key.inRange then .error .badField
  else match s.plate? bay with
    | some p => if p.key = key then .ok p else .error .noSuchPlate
    | none => .error .noSuchPlate

/-- The fields of OPEN PLATE (R5). -/
structure OpenFields where
  key : PlateKey
  w : Nat
  h : Nat
  policy : Nat
  screenSet : Byte
  curveSet : Byte
  deriving DecidableEq, Repr

/-- OPEN PLATE's body: key, W, H, policy, screen set, curve set. -/
def openFields (body : List Byte) : OpenFields :=
  { key := keyAt body 0, w := u16At body 5, h := u16At body 7, policy := byteAt body 9,
    screenSet := body.getD 10 0, curveSet := body.getD 11 0 }

/-- Every field lies in its range (R5, first check). -/
def OpenFields.inRange (f : OpenFields) : Bool :=
  f.key.inRange
    && decide (1024 ≤ f.w ∧ f.w ≤ 32768 ∧ f.w % 64 = 0 ∧ 1024 ≤ f.h ∧ f.h ≤ 49152 ∧ f.h % 64 = 0)
    && decide (f.policy ≤ 1) && decide (f.curveSet.toNat < 16)

/-- The seven settings of CONFIGURE, if each has an allowed value; a pulse width byte of 0 is stored as 1 (R177). -/
def configureFields (body : List Byte) : Option Settings :=
  let mode : Option BayMode := match byteAt body 0 with | 8 => some .eight | 4 => some .four | _ => none
  let res : Option Resolution := match byteAt body 5 with | 8 => some .r8 | 16 => some .r16 | _ => none
  let exposure : Option ExposureMode := match byteAt body 6 with | 0 => some .manual | 1 => some .auto | _ => none
  match mode, res, exposure, byteAt body 8 with
  | some bayMode, some resolution, some mode, 0 =>
    some { bayMode, zoneCode := BitVec.ofNat 16 (u16At body 1), zoneMask := BitVec.ofNat 16 (u16At body 3), resolution,
           mode, pulseSteps := max (byteAt body 7) 1, autoRelease := false }
  | some bayMode, some resolution, some mode, 1 =>
    some { bayMode, zoneCode := BitVec.ofNat 16 (u16At body 1), zoneMask := BitVec.ofNat 16 (u16At body 3), resolution,
           mode, pulseSteps := max (byteAt body 7) 1, autoRelease := true }
  | _, _, _, _ => none

/-- The block of a STRIP BLOCK body, if its header can be trusted (R28, R29). -/
def blockOf (body : List Byte) : Option Block :=
  if body.length < Config.headerBytes then none
  else
    let headerCheck := BitVec.ofNat 16 (u16At body 17)
    if crc16 (body.take 17) ≠ headerCheck then none
    else
      let zone : Option ZoneKind := match byteAt body 7 with | 0 => some .common | 1 => some .variant | _ => none
      zone.map fun zone =>
        { key := keyAt body 0, strip := u16At body 5, zone, zoneCode := BitVec.ofNat 16 (u16At body 8),
          windows := byteAt body 10, codeLength := u16At body 11, bodyCheck := BitVec.ofNat 32 (u32At body 13),
          headerCheck, body := body.drop Config.headerBytes }

/-- The screen of a LOAD SCREEN body, its entries above 4,094 stored as 4,094 (R80, R82). -/
def screenOf (body : List Byte) : Screen :=
  let side := byteAt body 1
  { side, ax := s32At body 2, ay := s32At body 6, bx := s32At body 10, bY := s32At body 14,
    tile := (List.range (side * side)).map fun n => min (u16At body (18 + 2 * n)) 4094 }

/-- The form of a LOAD SCREEN: slot, T and length (R80). -/
def screenFormOk (body : List Byte) : Bool :=
  decide (18 ≤ body.length ∧ byteAt body 0 ≤ 7 ∧ 4 ≤ byteAt body 1 ∧ byteAt body 1 ≤ 64
    ∧ body.length = 18 + 2 * (byteAt body 1 * byteAt body 1))

/-- Every stepping component's magnitude is below T·65,536 (R81). -/
def Screen.vectorsOk (sc : Screen) : Bool :=
  [sc.ax, sc.ay, sc.bx, sc.bY].all fun c => decide (c.natAbs < sc.side * 65536)

/-- The points of a LOAD CURVE body, each above 4,095 stored as 4,095 (R83, R84). -/
def curveOf (body : List Byte) : List Nat := (List.range 65).map fun k => min (u16At body (1 + 2 * k)) 4095

/-- The skews of a SET SKEW body, each above 255 stored as 255 (R132). -/
def skewsOf (body : List Byte) : List Nat := (List.range 32).map fun k => min (u16At body (2 * k)) 255

/-- A value clamped to a range (section 1.6). -/
def clamp (lo hi n : Nat) : Nat := max lo (min n hi)

/-- The inspection settings of a SET INSPECTION body, clamped; none where it is refused (R158). -/
def inspectionFields (body : List Byte) : Option InspectionSettings :=
  if body.length = 12 ∧ u16At body 8 ≠ 0 ∧ u16At body 10 ≠ 0 then
    some { thr := clamp 1 63 (u16At body 0), q := clamp 1 4 (u16At body 2), pre := clamp 0 3 (u16At body 4),
           post := clamp 0 3 (u16At body 6), minArea := u16At body 8, rejectArea := u16At body 10 }
  else none

/-- An edge setting's code (section 10.9). -/
def edgeOf : Nat → Option EdgeSetting
  | 0 => some .rising
  | 1 => some .falling
  | 2 => some .both
  | _ => none

/-- An output setting's code (section 10.9). -/
def outputOf : Nat → Option OutputSetting
  | 0 => some .low
  | 1 => some .high
  | 2 => some .auto
  | _ => none

/-- The settings of input n in a SET LINES body are allowed (R165). -/
def lineFieldsOk (body : List Byte) (n : Nat) : Bool :=
  (edgeOf (byteAt body (4 * n + 1))).isSome && decide (byteAt body (4 * n + 2) ≤ 1)
    && decide (byteAt body (4 * n + 3) ≤ 1)

/-- A SET LINES body passes (R165). -/
def linesFieldsOk (body : List Byte) : Bool :=
  decide (body.length = 35) && (List.range 8).all (lineFieldsOk body)
    && (outputOf (byteAt body 32)).isSome && (outputOf (byteAt body 33)).isSome && (outputOf (byteAt body 34)).isSome

/-- Input n with the settings of a SET LINES body, a debounce above 15 stored as 15 (R165). -/
def InputLine.withSettings (body : List Byte) (n : Nat) (l : InputLine) : InputLine :=
  { l with
    debounce := min (byteAt body (4 * n)) 15
    edge := (edgeOf (byteAt body (4 * n + 1))).getD l.edge
    hold := decide (byteAt body (4 * n + 2) = 1)
    masked := decide (byteAt body (4 * n + 3) = 1) }

end Sys2Proof.Machine
end

