-- ==== Sys2Proof/Machine/Plates.lean ====
section
/-! DEFINITION. The requests on plates and strips: OPEN PLATE (R5 to R7), STRIP BLOCK (R28 to R34), APPROVE, RELEASE,
PRIORITY, REEXPOSE and READ PLATE (R9, R10, R12, R21 to R23), READ STRIPS (R44), READ DEFECTS (R157). -/

namespace Sys2Proof.Machine

/-- A request refused: no state changes. -/
def refuse (st : Status) (s : State) : State × Option Reply := (s, some (Reply.bare st))

/-- A request carried out and answered DONE with no result data. -/
def done (s : State) : State × Option Reply := (s, some (Reply.bare .done))

/-! ### OPEN PLATE -/

/-- The record of a plate just opened (R2). -/
def OpenFields.plate (f : OpenFields) (replate : Bool) : Plate :=
  { state := .filling, key := f.key, w := f.w, h := f.h, policy := if f.policy = 0 then .hold else .hatch,
    screenSet := f.screenSet, curveSet := f.curveSet, replate, strips := List.replicate (f.h / 64) StripRecord.fresh,
    duplicates := 0, zoneIgnored := 0, outcome := .none, exposures := 0, verdict := .none, defects := [],
    untracked := 0, approvalHeld := false, approveEntry := none, autoDue := false }

/-- A predecessor that an open withdraws: FILLING, APPROVING or QUEUED (R6). -/
def Plate.withdrawable (p : Plate) : Bool :=
  match p.state with
  | .filling | .approving | .queued => true
  | _ => false

/-- The bays of the page-separation that an open withdraws (R6). -/
def State.withdrawals (key : PlateKey) (s : State) : List Nat :=
  s.bayNumbers.filter fun n => (s.plate? n).any fun p => p.key.samePage key && p.withdrawable

/-- The page-separation has a resident bay (R6). -/
def State.hasPredecessor (key : PlateKey) (s : State) : Bool := s.bays.any fun o => o.any fun p => p.key.samePage key

/-- Bay n is taken for the plate (R7). -/
def State.fillBay (n : Nat) (p : Plate) (s : State) : State × Option Reply :=
  (State.setSource n (s.setBay n (some p)), some { status := .done, data := be8 n })

/-- A checked open withdraws its predecessors and takes the lowest FREE bay, or finds none to be had (R6, R7). -/
def State.chooseBay (f : OpenFields) (s : State) : State × Option Reply :=
  let withdrawn := (s.withdrawals f.key).foldl (fun s n => s.freeBay n) s
  match withdrawn.bays.findIdx? Option.isNone with
  | some n => withdrawn.fillBay n (f.plate (s.hasPredecessor f.key))
  | none => refuse .baysFull s

/-- OPEN PLATE: the four checks, then withdrawal and bay choice (R5, R6). -/
def State.openPlate (f : OpenFields) (s : State) : State × Option Reply :=
  if ¬ f.inRange then refuse .badField s
  else if s.settings.bayMode.words * 64 < f.w * f.h then refuse .tooLarge s
  else if (s.findPlate f.key).isSome then refuse .duplicatePlate s
  else if s.superseded f.key then refuse .staleVersion s
  else s.chooseBay f

/-! ### STRIP BLOCK -/

/-- The zone test refuses the block: a VARIANT whose code differs from the plant's where the mask holds a 1 (R30). -/
def State.foreignZone (b : Block) (s : State) : Bool :=
  decide (b.zone = .variant) && decide ((b.zoneCode ^^^ s.settings.zoneCode) &&& s.settings.zoneMask ≠ 0)

/-- A block refused NOT FOR ZONE is counted at the bay that carries its full key, if any (R30). -/
def State.countForeign (b : Block) (s : State) : State :=
  match s.findPlate b.key with
  | some n => s.modPlate n fun p => { p with zoneIgnored := satInc Config.countHold p.zoneIgnored }
  | none => s

/-- The Intake Queue has no room for the block: 32 blocks, or its body would pass the budget (R33). -/
def State.noRoom (b : Block) (s : State) : Bool :=
  decide (Config.intakeDepth ≤ s.intake.queue.length) || decide (Config.intakeBudget < s.charged + b.body.length)

/-- The last checks of a block whose plate is FILLING, and its admission (R32, R33). -/
def State.admitBlock (b : Block) (p : Plate) (s : State) : State × Option Reply :=
  if p.strips.length ≤ b.strip ∨ 16 < b.windows then refuse .badField s
  else if s.noRoom b then refuse .queueFull s
  else ({ s with intake := { s.intake with queue := s.intake.queue ++ [b] } }, some (Reply.bare .accepted))

/-- A block whose zone passes is judged against its plate (R31). -/
def State.placeBlock (b : Block) (s : State) : State × Option Reply :=
  match (s.findPlate b.key).bind s.plate? with
  | none => refuse .noSuchPlate s
  | some p => if p.state = .filling then s.admitBlock b p else refuse .late s

/-- STRIP BLOCK: the six admission checks in order (R29 to R33). -/
def State.stripBlock (body : List Byte) (s : State) : State × Option Reply :=
  match blockOf body with
  | none => refuse .badBlock s
  | some b => if s.foreignZone b then refuse .notForZone (s.countForeign b) else s.placeBlock b

/-! ### Requests that name a plate -/

/-- A plate request: bay number and key checked by R4, then the rule of its kind on the plate. -/
def plateRequest (body : List Byte) (rule : Nat → Plate → Owner) : Owner := fun slot s =>
  match s.namedPlate (byteAt body 0) (keyAt body 1) with
  | .error st => refuse st s
  | .ok p => rule (byteAt body 0) p slot s

/-- Mark a READY buffer as let through a held approval (R66). -/
def StripBuffer.letPass : StripBuffer → StripBuffer
  | .ready ctx lines _ => .ready ctx lines true
  | b => b

/-- A held approval with no write into the bay begun lets the bay's buffer first in READY order through (R66; log
entry 15). -/
def Decoder.letFirstPass (n : Nat) (d : Decoder) : Decoder :=
  if d.writingInto n then d
  else match d.readyOrder.find? fun i => (d.buffers.getD i .free).forBay n with
    | some i => { d with buffers := d.buffers.set i (d.buffers.getD i .free).letPass }
    | none => d

/-- The approval is held for a write in progress (R9, R66). -/
def State.holdApproval (n : Nat) (slot : Option Nat) (s : State) : State :=
  let s := s.modPlate n fun p => { p with approvalHeld := true, approveEntry := slot }
  { s with decoder := s.decoder.letFirstPass n }

/-- APPROVE PLATE (R9, R10). -/
def approveRule (n : Nat) (p : Plate) : Owner := fun slot s =>
  if p.state ≠ .filling then refuse .wrongState s
  else if p.approvalHeld then refuse .busy s
  else if s.decoder.writePending n then (s.holdApproval n slot, none)
  else s.judgeApproval n slot

/-- RELEASE PLATE (R21): the bay is freed, with the WITHDRAWN of its APPROVE PLATE, before the release's own DONE joins the
answer queue (log entry 35). -/
def releaseRule (n : Nat) (p : Plate) : Owner := fun _ s =>
  match p.state with
  | .filling | .approving | .queued | .held => done (s.freeBay n)
  | .exposing | .exposed | .inspecting => refuse .busy s

/-- PRIORITY PLATE (R12). -/
def priorityRule (n : Nat) (p : Plate) : Owner := fun _ s =>
  if p.state = .queued then
    done { s with approvalQueue := n :: s.approvalQueue.filter fun m => decide (m ≠ n) }
  else refuse .wrongState s

/-- What REEXPOSE PLATE clears of a record (R22). -/
def Plate.forReexposure (p : Plate) : Plate :=
  { p with verdict := .none, defects := [], untracked := 0, autoDue := false }

/-- REEXPOSE PLATE (R22). -/
def reexposeRule (n : Nat) (p : Plate) : Owner := fun _ s =>
  if p.state ≠ .held then refuse .wrongState s
  else if s.superseded p.key then refuse .staleVersion s
  else done ((s.modPlate n Plate.forReexposure).becomeQueued n false)

/-- READ PLATE (R23). -/
def readPlateRule (n : Nat) (p : Plate) : Owner := fun _ s => (s, some { status := .done, data := p.record n })

/-- READ STRIPS (R44). -/
def readStripsRule (first count : Nat) (_ : Nat) (p : Plate) : Owner := fun _ s =>
  if p.strips.length ≤ first ∨ count < 1 ∨ 768 < count then refuse .badField s
  else (s, some { status := .done, data := p.stripRecords first count })

/-- READ DEFECTS (R157). -/
def readDefectsRule (_ : Nat) (p : Plate) : Owner := fun _ s =>
  if p.state = .held then (s, some { status := .done, data := p.defectRecords }) else refuse .wrongState s

/-! ### The owners -/

def ownOpenPlate (body : List Byte) : Owner := fixedBody 12 body fun _ s => s.openPlate (openFields body)
def ownStripBlock (body : List Byte) : Owner := fun _ s => s.stripBlock body
def ownApprovePlate (body : List Byte) : Owner := fixedBody 6 body (plateRequest body approveRule)
def ownReleasePlate (body : List Byte) : Owner := fixedBody 6 body (plateRequest body releaseRule)
def ownPriorityPlate (body : List Byte) : Owner := fixedBody 6 body (plateRequest body priorityRule)
def ownReexposePlate (body : List Byte) : Owner := fixedBody 6 body (plateRequest body reexposeRule)
def ownReadPlate (body : List Byte) : Owner := fixedBody 6 body (plateRequest body readPlateRule)
def ownReadStrips (body : List Byte) : Owner :=
  fixedBody 10 body (plateRequest body (readStripsRule (u16At body 6) (u16At body 8)))
def ownReadDefects (body : List Byte) : Owner := fixedBody 6 body (plateRequest body readDefectsRule)

end Sys2Proof.Machine
end

