-- ==== Sys2Proof/Machine/Tables.lean ====
section
/-! DEFINITION. The requests on slots, the exposure, the scanner and the plant lines: LOAD SCREEN and LOAD CURVE (R80 to
R85), SET SKEW (R132), START and ABORT EXPOSURE (R119, R129), CALIBRATE SCANNER (R137), SET INSPECTION (R158), SET LINES,
READ LINES, CLEAR LINE EVENTS (R164, R165). -/

namespace Sys2Proof.Machine

/-! ### Slots (R80 to R85) -/

/-- Some FILLING bay declares the slot in this set of its record (R85). -/
def State.protectedSlot (set : Plate → Byte) (slot : Nat) (s : State) : Bool :=
  s.bays.any fun o => o.any fun p => decide (p.state = .filling) && (set p).getLsbD slot

/-- LOAD SCREEN (R80 to R82, R85). -/
def State.loadScreen (body : List Byte) (s : State) : State × Option Reply :=
  if ¬ screenFormOk body ∨ ¬ (screenOf body).vectorsOk then refuse .badField s
  else if s.protectedSlot Plate.screenSet (byteAt body 0) then refuse .inUse s
  else done { s with screening := { s.screening with
      screens := s.screening.screens.set (byteAt body 0) (some (screenOf body)) } }

/-- LOAD CURVE (R83 to R85). -/
def State.loadCurve (body : List Byte) (s : State) : State × Option Reply :=
  if body.length ≠ 131 ∨ 3 < byteAt body 0 then refuse .badField s
  else if s.protectedSlot Plate.curveSet (byteAt body 0) then refuse .inUse s
  else done { s with screening := { s.screening with
      curves := s.screening.curves.set (byteAt body 0) (curveOf body) } }

/-! ### The exposure -/

/-- SET SKEW (R132). -/
def State.setSkew (body : List Byte) (s : State) : State × Option Reply :=
  if body.length ≠ 64 then refuse .badField s
  else if s.exposure.state ≠ .idle then refuse .busy s
  else done ((s.onExposure fun e => { e with skews := skewsOf body }).setSource sourceExposure)

/-- The answer of a START EXPOSURE that takes its start: bay number and key (R119). -/
def startReply (n : Nat) (p : Plate) : Reply := { status := .done, data := be8 n ++ beKey p.key }

/-- START EXPOSURE (R119). A head of the approval queue that is FREE, which no run reaches, reads as no plate (log
entry 27). -/
def State.startExposure (s : State) : State × Option Reply :=
  match s.startRefusal with
  | some st => refuse st s
  | none =>
    match s.approvalQueue.head?.bind fun n => (s.plate? n).map fun p => (n, p) with
    | some (n, p) => (State.takeStart (s.onExposure fun e => { e with autoHold := false }), some (startReply n p))
    | none => refuse .noPlate s

/-- ABORT EXPOSURE (R129). -/
def State.abortExposure (bay : Nat) (key : PlateKey) (s : State) : State × Option Reply :=
  if s.bayCount ≤ bay ∨ ¬ key.inRange then refuse .badField s
  else if s.exposure.state ≠ .idle ∧ s.exposure.current = some (bay, key) then
    done (State.abort .requested (s.onExposure fun e => { e with autoHold := true }))
  else refuse .wrongState s

/-! ### The scanner -/

/-- A phase byte (section 10.9). -/
def phaseOf : Nat → Option Phase
  | 0 => some .dark
  | 1 => some .white
  | _ => none

/-- A calibration begins (R137). -/
def State.beginCalibration (phase : Phase) (slot : Option Nat) (s : State) : State :=
  (s.setWork (.calibrating { phase, lines := 0, sums := List.replicate Config.elements 0, entry := slot })).setSource
    sourceInspection

/-- CALIBRATE SCANNER (R137): the request stays unanswered until the phase ends. -/
def calibrateRule (body : List Byte) : Owner := fun slot s =>
  match phaseOf (byteAt body 0) with
  | none => refuse .badField s
  | some phase =>
    if s.inspection.work ≠ .idle ∨ s.inspectionQueue ≠ [] then refuse .busy s
    else (s.beginCalibration phase slot, none)

/-- SET INSPECTION (R158). -/
def State.setInspection (body : List Byte) (s : State) : State × Option Reply :=
  match inspectionFields body with
  | none => refuse .badField s
  | some set => done (s.onInspection fun i => { i with settings := set })

/-! ### The plant lines -/

/-- Every setting of a SET LINES body takes the place of the old (R165). -/
def Lines.withSettings (body : List Byte) (l : Lines) : Lines :=
  { l with
    inputs := l.inputs.zipIdx.map fun p => p.1.withSettings body p.2
    o1 := (outputOf (byteAt body 32)).getD l.o1
    o2 := (outputOf (byteAt body 33)).getD l.o2
    o3 := (outputOf (byteAt body 34)).getD l.o3 }

/-- With debounce 0 the debounced level takes the raw level at once, as an edge, line after line (R161, R165; log
entry 11). -/
def State.takeUndebounced (s : State) : State :=
  (List.range 8).foldl (fun s n => if (s.input n).debounce = 0 then s.takeEdge n else s) s

/-- SET LINES (R165). An edge taken here answers what it ends (a rise of L3 that ends a calibration, R140) ahead of the DONE
of SET LINES: the model's choice, log entry 42. -/
def State.setLines (body : List Byte) (s : State) : State × Option Reply :=
  if linesFieldsOk body then
    let s := s.takeDueEdges
    done (State.takeUndebounced { s with lines := s.lines.withSettings body })
  else refuse .badField s

/-- READ LINES (R164). -/
def State.readLines (s : State) : State × Option Reply := (s, some { status := .done, data := s.linesRecord })

/-- CLEAR LINE EVENTS: the event flag of every line named is cleared (R164). -/
def State.clearEvents (set : Byte) (s : State) : State :=
  { s with lines := { s.lines with
      inputs := s.lines.inputs.zipIdx.map fun p => if set.getLsbD p.2 then { p.1 with flag := false } else p.1 } }

/-! ### The owners -/

def ownLoadScreen (body : List Byte) : Owner := fun _ s => s.loadScreen body
def ownLoadCurve (body : List Byte) : Owner := fun _ s => s.loadCurve body
def ownSetSkew (body : List Byte) : Owner := fun _ s => s.setSkew body
def ownStartExposure (body : List Byte) : Owner := fixedBody 0 body fun _ s => s.startExposure
def ownAbortExposure (body : List Byte) : Owner :=
  fixedBody 6 body fun _ s => s.abortExposure (byteAt body 0) (keyAt body 1)
def ownCalibrateScanner (body : List Byte) : Owner := fixedBody 1 body (calibrateRule body)
def ownSetInspection (body : List Byte) : Owner := fun _ s => s.setInspection body
def ownSetLines (body : List Byte) : Owner := fun _ s => s.setLines body
def ownReadLines (body : List Byte) : Owner := fixedBody 0 body fun _ s => s.readLines
def ownClearLineEvents (body : List Byte) : Owner := fixedBody 1 body fun _ s => done (s.clearEvents (body.getD 0 0))

end Sys2Proof.Machine
end

