-- ==== Sys2Proof/Machine/Control.lean ====
section
/-! DEFINITION. The Link Controller's own requests (CONFIGURE, READ STATUS, RESET: R177 to R181), the dispatch of any frame
by its kind (R171), the link's characters and events (R169) and the ends of sends (R173, R175). -/

namespace Sys2Proof.Machine

/-! ### CONFIGURE, READ STATUS, RESET -/

/-- CONFIGURE finds the line at rest (R177). -/
def State.configurable (s : State) : Bool :=
  s.bays.all Option.isNone && decide (s.exposure.state = .idle) && decide (s.inspection.work = .idle)

/-- The seven settings are replaced; a change of bay mode remakes the bay table, and one to 4 bays takes sources 4..7 out
of the pending set (R110, R174, R177). -/
def State.configured (c : Settings) (s : State) : State :=
  if c.bayMode = s.settings.bayMode then { s with settings := c }
  else
    { s with
      settings := c
      bays := List.replicate c.bayMode.count none
      link := match c.bayMode with
        | .four => { s.link with sources := s.link.sources &&& 0xF0F }
        | .eight => s.link }

/-- CONFIGURE (R177). -/
def State.configure (body : List Byte) (s : State) : State × Option Reply :=
  match configureFields body with
  | none => refuse .badField s
  | some c => if s.configurable then done (s.configured c) else refuse .busy s

/-- READ STATUS (R178). -/
def State.readStatus (s : State) : State × Option Reply := (s, some { status := .done, data := s.statusRecord })

/-- RESET by its byte (R179). A RESET FULL is answered DONE and carried out when that answer has been sent, or at once
where it was broadcast. -/
def resetRule (body : List Byte) : Owner := fun slot s =>
  match byteAt body 0 with
  | 0 =>
    match slot with
    | some k => done { s with link := { s.link with fullReset := some k } }
    | none => (s.fullReset .full s.link.straps, none)
  | 1 => done s.resetPlates
  | _ => refuse .badField s

def ownConfigure (body : List Byte) : Owner := fixedBody 9 body fun _ s => s.configure body
def ownReadStatus (body : List Byte) : Owner := fixedBody 0 body fun _ s => s.readStatus
def ownReset (body : List Byte) : Owner := fixedBody 1 body (resetRule body)

/-- A kind byte outside 01h..16h is answered BAD FIELD by the Link Controller (R171). -/
def ownUnknown : Owner := fun _ s => refuse .badField s

/-! ### Any frame -/

/-- The owner of a request of this kind (R171). -/
def ownerOf (kind : Byte) (body : List Byte) : Owner :=
  match kind.toNat with
  | 0x01 => ownConfigure body
  | 0x02 => ownReadStatus body
  | 0x03 => ownReset body
  | 0x04 => ownOpenPlate body
  | 0x05 => ownStripBlock body
  | 0x06 => ownApprovePlate body
  | 0x07 => ownReleasePlate body
  | 0x08 => ownPriorityPlate body
  | 0x09 => ownReexposePlate body
  | 0x0A => ownReadPlate body
  | 0x0B => ownReadStrips body
  | 0x0C => ownReadDefects body
  | 0x0D => ownLoadScreen body
  | 0x0E => ownLoadCurve body
  | 0x0F => ownSetSkew body
  | 0x10 => ownStartExposure body
  | 0x11 => ownAbortExposure body
  | 0x12 => ownCalibrateScanner body
  | 0x13 => ownSetInspection body
  | 0x14 => ownSetLines body
  | 0x15 => ownReadLines body
  | 0x16 => ownClearLineEvents body
  | _ => ownUnknown

/-- A complete frame with the check it carried is judged: taken when the check agrees, else discarded and counted; while a
RESET FULL waits it is discarded unjudged (R169, R170, R179). -/
def State.judgeFrame (addr kind tag : Byte) (body : List Byte) (check : BitVec 16) (s : State) : State :=
  if s.link.fullReset.isSome then s.hunt
  else if check = frameCheck addr kind tag body then s.hunt.takeFrame addr kind tag (ownerOf kind body)
  else s.hunt.badFrame

/-- The characters after the start character make a complete frame: five, then N + 2 more (R169). -/
def assemblerComplete (chars : List Byte) : Bool := decide (5 ≤ chars.length ∧ chars.length = 5 + u16At chars 3 + 2)

/-- The assembler's frame is judged (R169). -/
def State.judgeAssembler (chars : List Byte) (s : State) : State :=
  let n := u16At chars 3
  s.judgeFrame (chars.getD 0 0) (chars.getD 1 0) (chars.getD 2 0) ((chars.drop 5).take n)
    (BitVec.ofNat 16 (u16At chars (5 + n)))

/-- A character in RECEIVING joins the assembler, and the last of a frame has the frame judged (R169). -/
def State.joinCharacter (assembler : List Byte) (c : Byte) (s : State) : State :=
  if assemblerComplete (assembler ++ [c]) then s.judgeAssembler (assembler ++ [c])
  else { s with link := { s.link with receiver := .receiving (assembler ++ [c]) } }

/-- A character received: in HUNTING A5h begins a frame and any other is ignored; in RECEIVING it joins the assembler
(R169). -/
def State.takeCharacter (c : Byte) (s : State) : State :=
  match s.link.receiver with
  | .hunting => if c = 0xA5 then { s with link := { s.link with receiver := .receiving [] } } else s
  | .receiving assembler => s.joinCharacter assembler c

/-- Characters received one after another (R169). -/
def State.takeCharacters (chars : List Byte) (s : State) : State := chars.foldl (fun s c => s.takeCharacter c) s

/-- A whole frame's characters, its start character first: data of the frame being received up to the one that completes it,
and judged in HUNTING from there on (R169; log entry 4). -/
def State.joinFrame (chars : List Byte) (s : State) : State := s.takeCharacters (0xA5 :: chars)

/-- A frame completes with the check characters it carried (R169). -/
def State.endFrame (addr kind tag : Byte) (body : List Byte) (check : BitVec 16) (s : State) : State :=
  let chars := frameChars addr kind tag body ++ be16 check.toNat
  if s.link.receiver.admits chars then s.judgeFrame addr kind tag body check else s.joinFrame chars

/-! ### Ends of sends -/

/-- An answer sent whole: its outstanding entry, or the oldest busy-list place, is freed (R172, R173). -/
def Link.answered (a : Answer) (l : Link) : Link :=
  match a.slot with
  | some k => { l with tx := .idle, outstanding := l.outstanding.filter fun e => decide (e.slot ≠ k) }
  | none => { l with tx := .idle, busy := l.busy.drop 1 }

/-- ANSWER_SENT: the entry is freed and the next frame chosen; the answer of a RESET FULL brings the reset, with the straps
read at the last hardware reset (R173, R174, R179; log entry 40). -/
def State.answerSent (s : State) : State :=
  match s.link.tx with
  | .answer a =>
    if a.slot.isSome ∧ a.slot = s.link.fullReset then s.fullReset .full s.link.straps
    else State.transmit { s with link := s.link.answered a }
  | _ => s

/-- The Bay Manager is told of a bay notice sent: a due mark that stood when it began frees the bay (R20, R175). -/
def State.noticeReported (src : Nat) (dueSeen : Bool) (s : State) : State :=
  if dueSeen ∧ (s.plate? src).any fun p => p.autoDue then s.freeBay src else s

/-- NOTICE_SENT: the report of the send, then the next frame is chosen (R20, R174, R175). -/
def State.noticeSent (s : State) : State :=
  match s.link.tx with
  | .notice src _ dueSeen => (State.noticeReported src dueSeen { s with link := { s.link with tx := .idle } }).transmit
  | _ => s

/-! ### The meanings -/

/-- FRAME_CHECK_FAILED: a complete frame with the check it carried (R169). -/
def execFrameCheckFailed (addr kind tag : Byte) (body : List Byte) (check : BitVec 16) (s : State) :
    Host.Outcome State Fault Refusal :=
  run (State.endFrame addr kind tag body check) s
/-- FRAME_GAP_TIMEOUT (R169). -/
def execFrameGapTimeout (s : State) : Host.Outcome State Fault Refusal := run State.gap s
/-- START_CHARACTER: a character received, the start character A5h where none is named (R169; log entry 4). -/
def execStartCharacter (s : State) (character : Byte := 0xA5) : Host.Outcome State Fault Refusal :=
  run (State.takeCharacter character) s
/-- ANSWER_SENT (R173). -/
def execAnswerSent (s : State) : Host.Outcome State Fault Refusal := run State.answerSent s
/-- NOTICE_SENT (R175). -/
def execNoticeSent (s : State) : Host.Outcome State Fault Refusal := run State.noticeSent s

end Sys2Proof.Machine
end

