-- ==== Sys2Proof/Machine/Requests.lean ====
section
/-! DEFINITION. The meanings of the frames that pass their check: the 22 request kinds, a kind outside them and an ignored
frame (R169 to R171). -/

namespace Sys2Proof.Machine

/-- A frame that passes its check is complete. While a RESET FULL waits for its answer to be sent, the receiver discards
every frame without judging it. In RECEIVING, over characters that do not begin it, its characters join the assembler
(R169, R179; log entry 4). -/
def State.receive (addr kind tag : Byte) (body : List Byte) (owner : Owner) (s : State) : State :=
  let chars := frameChars addr kind tag body ++ be16 (frameCheck addr kind tag body).toNat
  if s.link.receiver.admits chars then
    if s.link.fullReset.isSome then s.hunt else s.hunt.takeFrame addr kind tag owner
  else s.joinFrame chars

/-- CONFIGURE, kind 01h (R177). -/
def execConfigure (addr tag : Byte) (body : List Byte) (s : State) : Host.Outcome State Fault Refusal :=
  run (State.receive addr 0x01 tag body (ownConfigure body)) s
/-- READ STATUS, kind 02h (R178). -/
def execReadStatus (addr tag : Byte) (body : List Byte) (s : State) : Host.Outcome State Fault Refusal :=
  run (State.receive addr 0x02 tag body (ownReadStatus body)) s
/-- RESET, kind 03h, sent as RESET FULL (R179). -/
def execResetFull (addr tag : Byte) (body : List Byte) (s : State) : Host.Outcome State Fault Refusal :=
  run (State.receive addr 0x03 tag body (ownReset body)) s
/-- RESET, kind 03h, sent as RESET PLATES (R179, R181). -/
def execResetPlates (addr tag : Byte) (body : List Byte) (s : State) : Host.Outcome State Fault Refusal :=
  run (State.receive addr 0x03 tag body (ownReset body)) s
/-- OPEN PLATE, kind 04h (R5 to R7). -/
def execOpenPlate (addr tag : Byte) (body : List Byte) (s : State) : Host.Outcome State Fault Refusal :=
  run (State.receive addr 0x04 tag body (ownOpenPlate body)) s
/-- STRIP BLOCK, kind 05h (R28 to R34). -/
def execStripBlock (addr tag : Byte) (body : List Byte) (s : State) : Host.Outcome State Fault Refusal :=
  run (State.receive addr 0x05 tag body (ownStripBlock body)) s
/-- APPROVE PLATE, kind 06h (R9, R10). -/
def execApprovePlate (addr tag : Byte) (body : List Byte) (s : State) : Host.Outcome State Fault Refusal :=
  run (State.receive addr 0x06 tag body (ownApprovePlate body)) s
/-- RELEASE PLATE, kind 07h (R21). -/
def execReleasePlate (addr tag : Byte) (body : List Byte) (s : State) : Host.Outcome State Fault Refusal :=
  run (State.receive addr 0x07 tag body (ownReleasePlate body)) s
/-- PRIORITY PLATE, kind 08h (R12). -/
def execPriorityPlate (addr tag : Byte) (body : List Byte) (s : State) : Host.Outcome State Fault Refusal :=
  run (State.receive addr 0x08 tag body (ownPriorityPlate body)) s
/-- REEXPOSE PLATE, kind 09h (R22). -/
def execReexposePlate (addr tag : Byte) (body : List Byte) (s : State) : Host.Outcome State Fault Refusal :=
  run (State.receive addr 0x09 tag body (ownReexposePlate body)) s
/-- READ PLATE, kind 0Ah (R23). -/
def execReadPlate (addr tag : Byte) (body : List Byte) (s : State) : Host.Outcome State Fault Refusal :=
  run (State.receive addr 0x0A tag body (ownReadPlate body)) s
/-- READ STRIPS, kind 0Bh (R44). -/
def execReadStrips (addr tag : Byte) (body : List Byte) (s : State) : Host.Outcome State Fault Refusal :=
  run (State.receive addr 0x0B tag body (ownReadStrips body)) s
/-- READ DEFECTS, kind 0Ch (R157). -/
def execReadDefects (addr tag : Byte) (body : List Byte) (s : State) : Host.Outcome State Fault Refusal :=
  run (State.receive addr 0x0C tag body (ownReadDefects body)) s
/-- LOAD SCREEN, kind 0Dh (R80 to R82, R85, R87). -/
def execLoadScreen (addr tag : Byte) (body : List Byte) (s : State) : Host.Outcome State Fault Refusal :=
  run (State.receive addr 0x0D tag body (ownLoadScreen body)) s
/-- LOAD CURVE, kind 0Eh (R83 to R85, R87). -/
def execLoadCurve (addr tag : Byte) (body : List Byte) (s : State) : Host.Outcome State Fault Refusal :=
  run (State.receive addr 0x0E tag body (ownLoadCurve body)) s
/-- SET SKEW, kind 0Fh (R132). -/
def execSetSkew (addr tag : Byte) (body : List Byte) (s : State) : Host.Outcome State Fault Refusal :=
  run (State.receive addr 0x0F tag body (ownSetSkew body)) s
/-- START EXPOSURE, kind 10h (R118, R119). -/
def execStartExposure (addr tag : Byte) (body : List Byte) (s : State) : Host.Outcome State Fault Refusal :=
  run (State.receive addr 0x10 tag body (ownStartExposure body)) s
/-- ABORT EXPOSURE, kind 11h (R129, R130). -/
def execAbortExposure (addr tag : Byte) (body : List Byte) (s : State) : Host.Outcome State Fault Refusal :=
  run (State.receive addr 0x11 tag body (ownAbortExposure body)) s
/-- CALIBRATE SCANNER, kind 12h (R137). -/
def execCalibrateScanner (addr tag : Byte) (body : List Byte) (s : State) : Host.Outcome State Fault Refusal :=
  run (State.receive addr 0x12 tag body (ownCalibrateScanner body)) s
/-- SET INSPECTION, kind 13h (R158). -/
def execSetInspection (addr tag : Byte) (body : List Byte) (s : State) : Host.Outcome State Fault Refusal :=
  run (State.receive addr 0x13 tag body (ownSetInspection body)) s
/-- SET LINES, kind 14h (R165). -/
def execSetLines (addr tag : Byte) (body : List Byte) (s : State) : Host.Outcome State Fault Refusal :=
  run (State.receive addr 0x14 tag body (ownSetLines body)) s
/-- READ LINES, kind 15h (R164). -/
def execReadLines (addr tag : Byte) (body : List Byte) (s : State) : Host.Outcome State Fault Refusal :=
  run (State.receive addr 0x15 tag body (ownReadLines body)) s
/-- CLEAR LINE EVENTS, kind 16h (R164). -/
def execClearLineEvents (addr tag : Byte) (body : List Byte) (s : State) : Host.Outcome State Fault Refusal :=
  run (State.receive addr 0x16 tag body (ownClearLineEvents body)) s
/-- UNKNOWN_KIND: a request of a kind outside 01h..16h (R171). -/
def execUnknownKind (addr kind tag : Byte) (body : List Byte) (s : State) : Host.Outcome State Fault Refusal :=
  run (State.receive addr kind tag body (ownerOf kind body)) s
/-- IGNORED_FRAME: a frame that passes its check, judged by its address byte (R170). -/
def execIgnoredFrame (addr kind tag : Byte) (body : List Byte) (s : State) : Host.Outcome State Fault Refusal :=
  run (State.receive addr kind tag body (ownerOf kind body)) s

end Sys2Proof.Machine
end

