-- ==== Sys2Proof/Machine/Store.lean ====
section
/-! DEFINITION. The Store Controller's steps: bursts and refreshes in service (R107) and the refresh timer (R108). -/

namespace Sys2Proof.Machine

/-- The exposure prefetch's burst was served: its words join the buffer, and the next burst of the pass is asked (R116). -/
def State.servedPrefetch (words : List StoreWord) (s : State) : State :=
  match s.exposure.prefetchPass with
  | none => s
  | some q =>
    match s.exposure.buffers.getD (q % 2) .empty with
    | .fetching q' have_ =>
      let got := have_ ++ words
      let s := s.onExposure fun e => { e with buffers := e.buffers.set (q % 2) (.fetching q' got) }
      if got.length < s.exposureWidth / 2 then s.onStore (Store.ask .prefetch (s.passBurst q (got.length / 8))) else s
    | _ => s

/-- The inspection fetch's burst was served (R142). -/
def State.servedInspect (words : List StoreWord) (s : State) : State :=
  match s.inspection.work with
  | .scanning sc =>
    match sc.expected with
    | .fetching y have_ =>
      let got := have_ ++ words
      let s := s.setWork (.scanning { sc with expected := .fetching y got })
      if got.length < s.scanWords sc.bay then
        s.onStore (Store.ask .inspect (s.scanBurst sc.bay y (got.length / 8)))
      else s
    | _ => s
  | _ => s

/-- The decoder's burst was served (R64). -/
def State.servedDecoder (s : State) : State :=
  match s.decoder.buffers.findIdx? StripBuffer.isWriting with
  | none => s
  | some i =>
    match s.decoder.buffers.getD i .free with
    | .writing ctx lines served =>
      let s := s.setBuffer i (.writing ctx lines (served + 1))
      if served + 1 < ctx.w / 8 then s.onStore (Store.ask .decoder (s.stripBurst ctx lines (served + 1))) else s
    | _ => s

/-- The filler's burst was served (R94). -/
def State.servedFiller (s : State) : State :=
  match s.filler.fill with
  | none => s
  | some f =>
    let s := { s with filler := { s.filler with fill := some { f with served := f.served + 1 } } }
    if f.requested < f.w / 8 then s.askFill else s

/-- The requester learns that its burst was served, with the words of a read (R107). -/
def State.served (asker : Asker) (words : List StoreWord) (s : State) : State :=
  match asker with
  | .prefetch => s.servedPrefetch words
  | .inspect => s.servedInspect words
  | .decoder => s.servedDecoder
  | .filler => s.servedFiller

/-- The store after a burst: written words are in place, and a read has used up its free values (R101, R107). -/
def Store.afterBurst (b : Burst) (st : Store) : Store :=
  match b.write with
  | some words => { st with memory := Memory.writeWords st.memory b.addr words, service := .idle }
  | none => { st with seed := st.seed + 1, service := .idle }

/-- The words a burst hands its requester: 8 words for a read, none for a write (R107). -/
def Store.burstWords (b : Burst) (st : Store) : List StoreWord :=
  match b.write with
  | some _ => []
  | none => Memory.readBurst st.memory st.seed b.addr

/-- A burst in service completes: it is reported served unless its requester has stopped, and the next grant is made, before
the requester's next ask or after it (R105 to R107, R109). The first burst of a next range (pass, expected line, strip,
hatch strip) is asked at that range's own row and so after this grant: the model's choice, log entry 41. -/
def State.completeBurst (grantFirst : Bool) (asker : Asker) (b : Burst) (live : Bool) (s : State) : State :=
  let words := s.store.burstWords b
  let s := s.onStore (Store.afterBurst b)
  let s := if grantFirst then s.onStore Store.grant else s
  let s := if live then s.served asker words else s
  s.onStore Store.grant

/-- REFRESH_COMPLETE: the owed count falls, the timer restarts if it was 8, and the next grant is made (R107, R108). -/
def Store.refreshComplete (st : Store) : Store :=
  match st.service with
  | .refresh => { st with owed := st.owed - 1, timer := st.timer || decide (8 ≤ st.owed), service := .idle }.grant
  | _ => st

/-- REFRESH_TIMER: the owed count rises, the timer stops at 8, and an IDLE store makes a grant (R105, R108). -/
def Store.refreshTimer (st : Store) : Store :=
  if st.timer ∧ st.owed < 8 then
    { st with owed := st.owed + 1, timer := decide (st.owed + 1 < 8) }.grant
  else st

/-! ### The meanings -/

/-- BURST_COMPLETE (R107). A burst that reaches past the band store faults; none is ever asked (R103). -/
def execBurstComplete (grantFirst : Bool) (s : State) : Host.Outcome State Fault Refusal :=
  match s.store.service with
  | .burst asker b live =>
    if b.addr + 8 ≤ Config.storeWords then run (State.completeBurst grantFirst asker b live) s
    else .fault .outsideStore
  | _ => run (fun s => s) s
/-- REFRESH_COMPLETE (R107, R108). -/
def execRefreshComplete (s : State) : Host.Outcome State Fault Refusal := run (State.onStore Store.refreshComplete) s
/-- REFRESH_TIMER (R108). -/
def execRefreshTimer (s : State) : Host.Outcome State Fault Refusal := run (State.onStore Store.refreshTimer) s

end Sys2Proof.Machine
end

