-- ==== Sys2Proof/Machine/Dispatch.lean ====
section
/-! DEFINITION. exec: one arm per command, each a direct call of its meaning. -/

namespace Sys2Proof.Machine

def exec (i : Instr) (s : State) : Host.Outcome State Fault Refusal :=
  match i with
  | .configure addr tag body => Sys2Proof.Machine.execConfigure addr tag body s
  | .readStatus addr tag body => Sys2Proof.Machine.execReadStatus addr tag body s
  | .resetFull addr tag body => Sys2Proof.Machine.execResetFull addr tag body s
  | .resetPlates addr tag body => Sys2Proof.Machine.execResetPlates addr tag body s
  | .openPlate addr tag body => Sys2Proof.Machine.execOpenPlate addr tag body s
  | .stripBlock addr tag body => Sys2Proof.Machine.execStripBlock addr tag body s
  | .approvePlate addr tag body => Sys2Proof.Machine.execApprovePlate addr tag body s
  | .releasePlate addr tag body => Sys2Proof.Machine.execReleasePlate addr tag body s
  | .priorityPlate addr tag body => Sys2Proof.Machine.execPriorityPlate addr tag body s
  | .reexposePlate addr tag body => Sys2Proof.Machine.execReexposePlate addr tag body s
  | .readPlate addr tag body => Sys2Proof.Machine.execReadPlate addr tag body s
  | .readStrips addr tag body => Sys2Proof.Machine.execReadStrips addr tag body s
  | .readDefects addr tag body => Sys2Proof.Machine.execReadDefects addr tag body s
  | .loadScreen addr tag body => Sys2Proof.Machine.execLoadScreen addr tag body s
  | .loadCurve addr tag body => Sys2Proof.Machine.execLoadCurve addr tag body s
  | .setSkew addr tag body => Sys2Proof.Machine.execSetSkew addr tag body s
  | .startExposure addr tag body => Sys2Proof.Machine.execStartExposure addr tag body s
  | .abortExposure addr tag body => Sys2Proof.Machine.execAbortExposure addr tag body s
  | .calibrateScanner addr tag body => Sys2Proof.Machine.execCalibrateScanner addr tag body s
  | .setInspection addr tag body => Sys2Proof.Machine.execSetInspection addr tag body s
  | .setLines addr tag body => Sys2Proof.Machine.execSetLines addr tag body s
  | .readLines addr tag body => Sys2Proof.Machine.execReadLines addr tag body s
  | .clearLineEvents addr tag body => Sys2Proof.Machine.execClearLineEvents addr tag body s
  | .unknownKind addr kind tag body => Sys2Proof.Machine.execUnknownKind addr kind tag body s
  | .ignoredFrame addr kind tag body => Sys2Proof.Machine.execIgnoredFrame addr kind tag body s
  | .frameCheckFailed addr kind tag body check => Sys2Proof.Machine.execFrameCheckFailed addr kind tag body check s
  | .frameGapTimeout => Sys2Proof.Machine.execFrameGapTimeout s
  | .answerSent => Sys2Proof.Machine.execAnswerSent s
  | .noticeSent => Sys2Proof.Machine.execNoticeSent s
  | .hardwareReset straps => Sys2Proof.Machine.execHardwareReset straps s
  | .lineTick => Sys2Proof.Machine.execLineTick s
  | .rawLevelChange line level => Sys2Proof.Machine.execRawLevelChange line level s
  | .inputEdge line => Sys2Proof.Machine.execInputEdge line s
  | .diverterPulseEnd => Sys2Proof.Machine.execDiverterPulseEnd s
  | .refreshTimer => Sys2Proof.Machine.execRefreshTimer s
  | .burstComplete grantFirst => Sys2Proof.Machine.execBurstComplete grantFirst s
  | .refreshComplete => Sys2Proof.Machine.execRefreshComplete s
  | .blockTake => Sys2Proof.Machine.execBlockTake s
  | .decodeEnd => Sys2Proof.Machine.execDecodeEnd s
  | .windowApplied => Sys2Proof.Machine.execWindowApplied s
  | .stripWriteStart => Sys2Proof.Machine.execStripWriteStart s
  | .stripWriteComplete takeFirst => Sys2Proof.Machine.execStripWriteComplete takeFirst s
  | .hatchStripComplete => Sys2Proof.Machine.execHatchStripComplete s
  | .passFetchComplete => Sys2Proof.Machine.execPassFetchComplete s
  | .drumIndex => Sys2Proof.Machine.execDrumIndex s
  | .passClose => Sys2Proof.Machine.execPassClose s
  | .scanLine samples => Sys2Proof.Machine.execScanLine samples s
  | .darkCalibrationDone => Sys2Proof.Machine.execDarkCalibrationDone s
  | .whiteCalibrationDone => Sys2Proof.Machine.execWhiteCalibrationDone s
  | .expectedLineFull => Sys2Proof.Machine.execExpectedLineFull s
  | .dotClockPulse => Sys2Proof.Machine.execDotClockPulse s
  | .startCharacter character => Sys2Proof.Machine.execStartCharacter s character

end Sys2Proof.Machine
end

