-- ==== Sys2Proof/Safety.lean ====
section
/-! DEFINITION. What holds of the WN-418 in every state a run reaches, in the terms the claims use, and what it means that
every step keeps such a condition. -/

namespace Sys2Proof.Machine

/-- Every step that goes on keeps the condition. -/
def Kept (P : State → Prop) : Prop := ∀ s t : State, P s → step s = .next t → P t

/-- An exposure that is not IDLE has a current bay, and emitters are lit only while a pass is open in WRITING with the door
closed, the plate loaded and the head ready (R114, R115, R125, R130). -/
def State.LightInterlocked (s : State) : Prop :=
  (s.exposure.state ≠ .idle → s.exposure.current ≠ none) ∧
  (s.exposure.emitters ≠ 0 →
    s.exposure.state = .writing ∧ s.exposure.passOpen = true ∧ s.asserted 0 = true ∧ s.asserted 1 = true ∧
    s.asserted 2 = true)

/-- At most 8 refreshes are owed, the refresh timer runs exactly below 8, and the store is IDLE only with nothing asked and
nothing owed (R105, R106, R108). -/
def Store.Tended (st : Store) : Prop :=
  st.owed ≤ 8 ∧ st.timer = decide (st.owed < 8) ∧
  (st.service = .idle → st.prefetch = none ∧ st.inspect = none ∧ st.writer = [] ∧ st.owed = 0)

/-- A burst that writes carries 8 words (R101, R104). -/
def Burst.Fits (b : Burst) : Prop := ∀ ws, b.write = some ws → ws.length = 8

/-- The band store's contents have their canonical form, and every burst asked or in service that writes carries 8
words (R101, R104). -/
def Store.Sound (st : Store) : Prop :=
  Memory.wf st.memory = true ∧ (∀ b ∈ st.prefetch, b.Fits) ∧ (∀ b ∈ st.inspect, b.Fits) ∧ (∀ e ∈ st.writer, e.2.Fits) ∧
  ∀ a b live, st.service = .burst a b live → b.Fits

/-- The inspection queue has room for the exposure in progress: at most 4 entries, and at most 3 while an exposure is not
IDLE (R17). -/
def State.ProcessorRoom (s : State) : Prop :=
  s.inspectionQueue.length + (if s.exposure.state = .idle then 0 else 1) ≤ 4

/-- The bay table holds one record per bay of the bay mode (R1). -/
def State.BayTableFits (s : State) : Prop := s.bays.length = s.settings.bayMode.count

/-- The outstanding table holds at most 16 entries of distinct slots, the busy list at most 4, and as many LINK BUSY answers
wait or are being sent as the busy list has places taken (R171 to R173). -/
def Link.TablesFit (l : Link) : Prop :=
  l.outstanding.length ≤ 16 ∧ l.busy.length ≤ 4 ∧ (l.outstanding.map Entry.slot).Nodup ∧
  (l.answers.countP fun a => a.slot.isNone) + (match l.tx with
    | .answer a => if a.slot.isNone then 1 else 0
    | _ => 0) = l.busy.length

/-- The Intake Queue holds at most 32 blocks, and at most 262,144 bytes of body are charged to it (R33, R36). -/
def State.IntakeFits (s : State) : Prop :=
  s.intake.queue.length ≤ Config.intakeDepth ∧ s.charged ≤ Config.intakeBudget

/-- The line FIFO of a scan holds at most 4 lines, and its open-defect table at most 32 defects (R144, R147). -/
def State.ScanFits (s : State) : Prop :=
  ∀ sc, s.inspection.work = .scanning sc → sc.fifo.length ≤ Config.fifoLines ∧ sc.openDefects.length ≤ Config.openMax

/-- The defect lists of all bays hold no more than the pool's 512 records (R147). -/
def State.PoolFits (s : State) : Prop :=
  (s.bays.map fun o => match o with | some p => p.defects.length | none => 0).sum ≤ Config.poolRecords

/-! ### The plates and the blocks that work on them -/

/-- Bay n holds the plate of this key, in this state. -/
def State.BayHolds (n : Nat) (key : PlateKey) (st : PlateState) (s : State) : Prop :=
  ∃ p, s.plate? n = some p ∧ p.key = key ∧ p.state = st

/-- Bay n is in this state. -/
def State.BayIs (n : Nat) (st : PlateState) (s : State) : Prop := ∃ key, s.BayHolds n key st

/-- A plate still on its way to the drum: FILLING, APPROVING or QUEUED (R3). -/
def Plate.OnItsWay (p : Plate) : Prop := p.state = .filling ∨ p.state = .approving ∨ p.state = .queued

/-- The two laws of the bay table (R3): no two resident bays carry one plate key; and of a page-separation at most one bay
is FILLING, APPROVING or QUEUED, and no resident version of it is higher. -/
def State.BayTableLaws (s : State) : Prop :=
  ∀ m n p q, s.plate? m = some p → s.plate? n = some q →
    (p.key = q.key → m = n) ∧
    (p.key.edition = q.key.edition → p.key.page = q.key.page → p.key.separation = q.key.separation → p.OnItsWay →
      q.key.version ≤ p.key.version ∧ (q.OnItsWay → m = n))

/-- A bay number is in the approval queue exactly when its bay is QUEUED, and once (R11). -/
def State.ApprovalQueueAgrees (s : State) : Prop :=
  s.approvalQueue.Nodup ∧ ∀ n, n ∈ s.approvalQueue ↔ s.BayIs n .queued

/-- The Exposure Controller has a current bay exactly while it is not IDLE, and that bay, holding that plate, is the one
bay EXPOSING (R13, R115). -/
def State.ExposureAgrees (s : State) : Prop :=
  (s.exposure.current = none ↔ s.exposure.state = .idle) ∧
  ∀ n key, s.exposure.current = some (n, key) ↔ s.BayHolds n key .exposing

/-- The bay entries of the inspection queue are exactly the EXPOSED bays, each once (R17). -/
def State.InspectionQueueAgrees (s : State) : Prop :=
  ∀ n, (.bay n ∈ s.inspectionQueue ↔ s.BayIs n .exposed) ∧ s.inspectionQueue.count (.bay n) ≤ 1

/-- One bay is INSPECTING exactly while the Inspection Unit is SCANNING, the bay and plate of the scan (R18, R150). -/
def State.ScanAgrees (s : State) : Prop :=
  ∀ n key, (∃ sc, s.inspection.work = .scanning sc ∧ sc.bay = n ∧ sc.key = key) ↔ s.BayHolds n key .inspecting

/-- A bay is APPROVING exactly while it is the bay of the fill context or on the fill list, in one place only; the fill
context names its plate, a bay on the list has an ABSENT strip, and an IDLE filler has an empty list (R93, R95). -/
def State.FillerAgrees (s : State) : Prop :=
  ((s.filler.fill.map FillContext.bay).toList ++ s.filler.list).Nodup ∧
  (∀ n, n ∈ (s.filler.fill.map FillContext.bay).toList ++ s.filler.list ↔ s.BayIs n .approving) ∧
  (∀ f, s.filler.fill = some f → s.BayHolds f.bay f.key .approving) ∧
  (∀ n p, n ∈ s.filler.list → s.plate? n = some p → ∃ r ∈ p.strips, r.state = .absent) ∧
  (s.filler.fill = none → s.filler.list = [])

/-- Every strip buffer that is not FREE works for a FILLING bay that holds its plate (R49, R67, R94). -/
def State.DecoderAgrees (s : State) : Prop :=
  ∀ b ∈ s.decoder.buffers, ∀ ctx, b.context = some ctx → s.BayHolds ctx.bay ctx.key .filling

/-- An approval is held for a FILLING bay only, and a bay due for its automatic release is HELD (R2, R9, R20). -/
def State.MarksAgree (s : State) : Prop :=
  ∀ n p, s.plate? n = some p → (p.approvalHeld = true → p.state = .filling) ∧ (p.autoDue = true → p.state = .held)

/-- The bay table keeps its laws, and the queues and blocks that work on plates name exactly the bays in the states that
say so. -/
def State.PlatesAgree (s : State) : Prop :=
  s.BayTableLaws ∧ s.ApprovalQueueAgrees ∧ s.ExposureAgrees ∧ s.InspectionQueueAgrees ∧ s.ScanAgrees ∧ s.FillerAgrees ∧
  s.DecoderAgrees ∧ s.MarksAgree

/-- The fault of R101 cannot come of the burst in service. -/
def State.BurstInside (s : State) : Prop :=
  ∀ a b live, s.store.service = .burst a b live → b.addr + 8 ≤ Config.storeWords

end Sys2Proof.Machine
end

