-- ==== Sys2Proof/Certificates/Slice0/Obligations.lean ====
section
/-! DEFINITION. The statements for the provers, and the few terms they share. A statement about a request speaks of the
state `requested` or `answered` of the state before it: the transmitter's standing choice is made (log entry 3), the
request has taken its entry, and in `answered` its answer has joined the answer queue. -/

namespace Sys2Proof.Claims

open Sys2Proof.Machine

/-- A frame with this address byte is taken as a request: the receiver is HUNTING, no RESET FULL waits, the address is the
unit address and the outstanding table holds fewer than 16 entries. -/
def Ready (addr : Byte) (s : State) : Prop :=
  s.link.receiver = .hunting ∧ s.link.fullReset = none ∧ addr = s.link.addrByte ∧ s.link.outstanding.length < 16

/-- The request has taken its entry. -/
def requested (kind tag : Byte) (s : State) : State :=
  { s.transmit with link := { s.transmit.link with
      outstanding := s.link.outstanding ++ [{ slot := s.link.freeSlot, tag, kind }] } }

/-- The kind byte of the answer to a request (R173). -/
def kindOfAnswer (kind : Byte) : Byte := if 1 ≤ kind.toNat ∧ kind.toNat ≤ 22 then kind + 0x80 else 0xFF

/-- The answer of the entry a request has taken. -/
def answerTo (kind tag : Byte) (r : Reply) (s : State) : Answer :=
  { slot := some s.link.freeSlot, kind := kindOfAnswer kind, tag, reply := r }

/-- The request has taken its entry and its answer has joined the answer queue. -/
def answered (kind tag : Byte) (r : Reply) (s : State) : State :=
  { requested kind tag s with link := { (requested kind tag s).link with
      answers := s.transmit.link.answers ++ [answerTo kind tag r s] } }

/-- A reply without result data. -/
def only (st : Status) : Reply := { status := st, data := [] }

/-- The command that is a frame of this kind. -/
def frameOf (kind addr tag : Byte) (body : List Byte) : Instr :=
  match kind.toNat with
  | 1 => .configure addr tag body
  | 2 => .readStatus addr tag body
  | 3 => .resetFull addr tag body
  | 4 => .openPlate addr tag body
  | 5 => .stripBlock addr tag body
  | 6 => .approvePlate addr tag body
  | 7 => .releasePlate addr tag body
  | 8 => .priorityPlate addr tag body
  | 9 => .reexposePlate addr tag body
  | 10 => .readPlate addr tag body
  | 11 => .readStrips addr tag body
  | 12 => .readDefects addr tag body
  | 13 => .loadScreen addr tag body
  | 14 => .loadCurve addr tag body
  | 15 => .setSkew addr tag body
  | 16 => .startExposure addr tag body
  | 17 => .abortExposure addr tag body
  | 18 => .calibrateScanner addr tag body
  | 19 => .setInspection addr tag body
  | 20 => .setLines addr tag body
  | 21 => .readLines addr tag body
  | 22 => .clearLineEvents addr tag body
  | _ => .unknownKind addr kind tag body

/-- The command is a whole frame. -/
def isFrame : Instr → Bool
  | .configure _ _ _ | .readStatus _ _ _ | .resetFull _ _ _ | .resetPlates _ _ _ | .openPlate _ _ _ | .stripBlock _ _ _
  | .approvePlate _ _ _ | .releasePlate _ _ _ | .priorityPlate _ _ _ | .reexposePlate _ _ _ | .readPlate _ _ _
  | .readStrips _ _ _ | .readDefects _ _ _ | .loadScreen _ _ _ | .loadCurve _ _ _ | .setSkew _ _ _ | .startExposure _ _ _
  | .abortExposure _ _ _ | .calibrateScanner _ _ _ | .setInspection _ _ _ | .setLines _ _ _ | .readLines _ _ _
  | .clearLineEvents _ _ _ | .unknownKind _ _ _ _ | .ignoredFrame _ _ _ _ | .frameCheckFailed _ _ _ _ _ => true
  | .frameGapTimeout | .answerSent | .noticeSent | .hardwareReset _ | .lineTick | .rawLevelChange _ _ | .inputEdge _
  | .diverterPulseEnd | .refreshTimer | .burstComplete _ | .refreshComplete | .blockTake | .decodeEnd | .windowApplied
  | .stripWriteStart | .stripWriteComplete _ | .hatchStripComplete | .passFetchComplete | .drumIndex | .passClose
  | .scanLine _ | .darkCalibrationDone | .whiteCalibrationDone | .expectedLineFull | .dotClockPulse | .startCharacter _ => false

/-- The step from s takes at most one frame: the receiver is HUNTING, or the command in front is no frame. (In RECEIVING the
characters of a frame, taken in one step, may complete several: log entry 4 and ReceiverCountsDiscardedFrames.) -/
def OneFrame (s : State) : Prop := s.link.receiver = .hunting ∨ ∀ c ∈ s.pending.head?, isFrame c = false

/-- From s to t no slot that a bay FILLING in both declares changes its contents. -/
def SlotsKept (s t : State) : Prop :=
  ∀ (n i : Nat) (p p' : Plate), s.plate? n = some p → p.state = .filling → t.plate? n = some p' → p'.state = .filling →
    (p.screenSet.getLsbD i = true → t.screening.screens[i]? = s.screening.screens[i]?) ∧
    (p.curveSet.getLsbD i = true → t.screening.curves[i]? = s.screening.curves[i]?)

/-- From s to t no strip of a plate that stays in its bay goes back to ABSENT. -/
def StripsKept (s t : State) : Prop :=
  ∀ (n i : Nat) (p p' : Plate) (r r' : StripRecord), s.plate? n = some p → t.plate? n = some p' → p'.key = p.key →
    p.strips[i]? = some r → p'.strips[i]? = some r' → r.state ≠ .absent → r'.state ≠ .absent

/-- The fixed body length of a kind (R171, section 10.9). -/
def fixedLength (kind : Byte) : Option Nat :=
  match kind.toNat with
  | 1 => some 9
  | 2 => some 0
  | 3 => some 1
  | 4 => some 12
  | 6 | 7 | 8 | 9 | 10 => some 6
  | 11 => some 10
  | 12 => some 6
  | 16 => some 0
  | 17 => some 6
  | 18 => some 1
  | 21 => some 0
  | 22 => some 1
  | _ => none

/-- The fields of a plate key lie in their ranges (R4). -/
def KeyOk (k : PlateKey) : Prop := 1 ≤ k.page ∧ k.page ≤ 999 ∧ k.separation ≤ 3 ∧ k.version ≤ 15

/-- A body that begins with a bay number and a key names the plate p of bay n (R4). -/
def Names (body : List Byte) (s : State) (n : Nat) (p : Plate) : Prop :=
  byteAt body 0 = n ∧ n < s.settings.bayMode.count ∧ KeyOk (keyAt body 1) ∧ s.plate? n = some p ∧ p.key = keyAt body 1

/-- The bay size in dots (R1, R102). -/
def bayDots : BayMode → Nat
  | .eight => 536870912
  | .four => 1073741824

/-- The same page-separation (R3). -/
def SamePage (a b : PlateKey) : Prop := a.edition = b.edition ∧ a.page = b.page ∧ a.separation = b.separation

/-- The field ranges of an OPEN PLATE body (R5). -/
def OpenRanges (body : List Byte) : Prop :=
  KeyOk (keyAt body 0) ∧ 1024 ≤ u16At body 5 ∧ u16At body 5 ≤ 32768 ∧ u16At body 5 % 64 = 0 ∧ 1024 ≤ u16At body 7 ∧
  u16At body 7 ≤ 49152 ∧ u16At body 7 % 64 = 0 ∧ byteAt body 9 ≤ 1 ∧ byteAt body 11 ≤ 15

/-- An OPEN PLATE body passes the four checks of R5. -/
def OpenPasses (body : List Byte) (s : State) : Prop :=
  body.length = 12 ∧ OpenRanges body ∧ u16At body 5 * u16At body 7 ≤ bayDots s.settings.bayMode ∧
  (∀ n p, s.plate? n = some p → p.key ≠ keyAt body 0) ∧
  (∀ n p, s.plate? n = some p → SamePage p.key (keyAt body 0) → p.key.version ≤ (keyAt body 0).version)

/-- The record of a plate just opened (R2, R39). -/
def openedPlate (body : List Byte) (replate : Bool) : Plate :=
  { state := .filling, key := keyAt body 0, w := u16At body 5, h := u16At body 7,
    policy := if byteAt body 9 = 0 then .hold else .hatch, screenSet := body.getD 10 0, curveSet := body.getD 11 0,
    replate,
    strips := List.replicate (u16At body 7 / 64)
      { state := .absent, source := .common, variantSeen := false, cause := .none },
    duplicates := 0, zoneIgnored := 0, outcome := .none, exposures := 0, verdict := .none, defects := [],
    untracked := 0, approvalHeld := false, approveEntry := none, autoDue := false }

/-- A plate in a state that a replate withdraws (R6). -/
def Withdrawable (p : Plate) : Prop := p.state = .filling ∨ p.state = .approving ∨ p.state = .queued

/-- The store is serving something, so that a burst asked waits. -/
def Serving (s : State) : Prop := s.store.service ≠ .idle

/-- A spoiled plate: HELD and ABORTED (R15). -/
def spoiled (cause : AbortCause) (pass : Nat) (p : Plate) : Plate :=
  { p with state := .held, outcome := .aborted cause pass, verdict := .aborted, exposures := min (p.exposures + 1) 255 }

/-- The approval of bay n finds no buffer for it READY or WRITING (R9). -/
def NoPendingWrite (n : Nat) (s : State) : Prop := ∀ b ∈ s.decoder.buffers, b.forBay n = true → b.isBuilding = true

/-- The decoder has abandoned its work for bay n: its buffers are FREE and out of the READY order, the Screening Unit has
stopped where one of them was BUILDING, and the burst asked for one that was WRITING is withdrawn (R67, R70, R109). -/
def abandoned (n : Nat) (s : State) : State :=
  { s with
    decoder := {
      buffers := s.decoder.buffers.map fun b => if b.forBay n then .free else b
      readyOrder := s.decoder.readyOrder.filter fun i => !(s.decoder.buffers.getD i .free).forBay n }
    screening := if ∃ b ∈ s.decoder.buffers, b.forBay n = true ∧ b.isBuilding = true then
      { s.screening with work := none } else s.screening
    store := if ∃ b ∈ s.decoder.buffers, b.forBay n = true ∧ b.isWriting = true then s.store.stop .decoder else s.store }

/-- The filler has begun bay m, holding q, at its lowest ABSENT strip, asking the strip's first burst, with these bays left in
its fill list and from this store (R93, R94). -/
def FillBegins (m : Nat) (q : Plate) (rest : List Nat) (base : Store) (s t : State) : Prop :=
  ∀ i, (q.strips[i]?).map StripRecord.state = some .absent →
    (∀ j, j < i → (q.strips[j]?).map StripRecord.state ≠ some .absent) →
    t.filler = { list := rest, fill := (some
      { bay := m, key := q.key, w := q.w, h := q.h, strip := i, requested := 1, served := 0 }) } ∧
    ∃ ws : List StoreWord, t.store = Store.grant { base with
        writer := base.writer ++ [(.filler, { addr := s.bayBase m + i * q.w, write := some ws })] } ∧
      ws.length = 8 ∧ ∀ j, j < 8 → ws[j]? = some (hatchWord q.w i j)

/-- Bay n, holding q and become APPROVING, has been handed to the filler: begun at once by an IDLE one, also while a burst of
a fill it stopped is in service (the model's choice, log entry 43), and put at the end of the fill list of a busy one (R93). -/
def HandedToFiller (n : Nat) (q : Plate) (s t : State) : Prop :=
  (s.filler.fill ≠ none → t.filler = { s.filler with list := s.filler.list ++ [n] } ∧ t.store = s.store) ∧
  (s.filler.fill = none → FillBegins n q s.filler.list s.store s t)

/-- The filler is done with bay n: IDLE with an empty fill list, and otherwise begun on the bay at its head (R95, R96). -/
def FillerGoesOn (n : Nat) (base : Store) (s t : State) : Prop :=
  (s.filler.list = [] → t.filler = { fill := none, list := [] } ∧ t.store = base) ∧
  (∀ m rest q, s.filler.list = m :: rest → m ≠ n → s.plate? m = some q → FillBegins m q rest base s t)

/-- From s to t bay n, holding p, has been let go (R8), and after it `own` is answered: the decoder abandons its work for a
FILLING bay (R67) and a QUEUED one keeps no place in the approval queue; an APPROVE PLATE held or pending is answered
WITHDRAWN; the fill of an APPROVING bay stops, and the filler goes on to the next bay of its list (R96), asking its first burst
at once (log entry 43). -/
def LetGo (n : Nat) (p : Plate) (own : Answer) (s t : State) : Prop :=
  t.link.answers.getLast? = some own ∧ t.link.sources.getLsbD n = true ∧
  t.settings = s.settings ∧ t.inspectionQueue = s.inspectionQueue ∧ t.intake = s.intake ∧
  t.exposure = s.exposure ∧ t.inspection = s.inspection ∧ t.lines = s.lines ∧
  t.store.memory = s.store.memory ∧ t.screening.screens = s.screening.screens ∧
  t.screening.curves = s.screening.curves ∧
  t.approvalQueue = (if p.state = .queued then s.approvalQueue.filter fun m => decide (m ≠ n)
    else s.approvalQueue) ∧
  (p.state = .filling → t.decoder = (abandoned n s).decoder ∧ t.screening = (abandoned n s).screening ∧
    t.store = (abandoned n s).store) ∧
  (p.state ≠ .filling → t.decoder = s.decoder ∧ t.screening = s.screening) ∧
  (p.state ≠ .approving → t.filler = s.filler) ∧
  (p.state ≠ .filling → p.state ≠ .approving → t.store = s.store) ∧
  (let waiting := p.state = .filling ∧ p.approvalHeld = true ∨ p.state = .approving
   (∀ k e, waiting → p.approveEntry = some k →
      s.link.outstanding.find? (fun x => decide (x.slot = k)) = some e →
      t.link.answers = s.transmit.link.answers ++
        [{ slot := some k, kind := kindOfAnswer e.kind, tag := e.tag, reply := only .withdrawn }, own]) ∧
   (¬ waiting → t.link.answers = s.transmit.link.answers ++ [own])) ∧
  (p.state = .approving →
    ((∀ f, s.filler.fill = some f → f.bay ≠ n) →
      t.filler = { s.filler with list := s.filler.list.filter fun m => decide (m ≠ n) } ∧ t.store = s.store) ∧
    (∀ f, s.filler.fill = some f → f.bay = n → FillerGoesOn n (s.store.stop .filler) s t))

/-- The fields of the window record at an offset of a body (section 10.9). -/
def recordAt (body : List Byte) (r : Nat) : Window :=
  let bits := byteAt body (r + 6)
  { x0 := u16At body r, y0 := byteAt body (r + 2), width := u16At body (r + 3), height := byteAt body (r + 5),
    side := 2 ^ (bits % 16), form := if bits / 64 = 0 then .companded8 else .linear12,
    merge := if bits / 16 % 4 = 0 then .replace else .union, screen := byteAt body (r + 7) / 16,
    curve := byteAt body (r + 7) % 16, offset := u16At body (r + 8) }

/-- Window record j of a block (R52). -/
def recordOf (b : Block) (j : Nat) : Window := recordAt b.body (b.codeLength + 10 * j)

/-- The fault with which window j of a block ends its decode, none where it passes the validations (R58 to R60). A record
that does not lie wholly within the body is judged first (log entry 13). -/
def windowCause (ctx : StripContext) (screens : List (Option Screen)) (b : Block) (j : Nat) : FaultCause :=
  let r := b.codeLength + 10 * j
  let bits := byteAt b.body (r + 6)
  let win := recordOf b j
  if b.body.length < r + 10 then .windowData
  else if bits % 16 < 2 ∨ 4 < bits % 16 ∨ 1 < bits / 64 ∨ 1 < bits / 16 % 4 ∨ 63 < win.y0 ∨ win.width < 1 ∨
      4096 < win.width ∨ win.height < 1 ∨ 64 < win.height then .windowForm
  else if ctx.screenSet.getLsbD win.screen = false ∨ ctx.curveSet.getLsbD win.curve = false ∨
      screens.getD win.screen none = none then .windowSlot
  else if b.body.length < win.offset + win.width * win.height * (if win.form = .companded8 then 1 else 2) then .windowData
  else .none

/-- The outcome is u with buffer i going on over these lines with its block's windows from window k (R58 to R63, R69): those
that pass and lie beyond the plate are skipped; the first other one, m, ends the decode with its fault or is taken up by the
Screening Unit over its clipped area; with no window left the decode has ended. -/
def WindowsFrom (o : Host.Outcome State Fault Refusal) (i : Nat) (ctx : StripContext) (b : Block) (lines : List Line) (k : Nat)
    (u : State) : Prop :=
  let cause := windowCause ctx u.screening.screens b
  ∀ m, k ≤ m → m ≤ b.windows → (∀ j, k ≤ j → j < m → cause j = .none ∧ ctx.w ≤ (recordOf b j).x0) →
    let win := recordOf b m
    let building := fun (stage : DecodeStage) =>
      ({ u with decoder := { u.decoder with buffers := u.decoder.buffers.set i (.building ctx b lines stage) } } : State)
    (m = b.windows → o = .next (building (.ended .none))) ∧
    (m < b.windows → cause m ≠ .none → o = .next (building (.ended (cause m)))) ∧
    (m < b.windows → cause m = .none → win.x0 < ctx.w →
      o = .next { building (.applying m) with screening := { u.screening with work := (some
        { buffer := i, strip := ctx.strip, w := ctx.w, screenSet := ctx.screenSet, curveSet := ctx.curveSet, window := win,
          xEnd := min ctx.w (win.x0 + win.width * win.side), yEnd := min 64 (win.y0 + win.height * win.side),
          dotsSet := [] }) } })

/-- From a to a' the dots x to x+n-1 of the current line have been written as `dot` gives them; at W the line closes and
becomes the reference line (R54). -/
def Wrote (w n : Nat) (dot : Nat → Bool) (a a' : Art) : Prop :=
  ∃ l : Line, (∀ x, x < 32768 → l.getLsbD x = if a.x ≤ x ∧ x < a.x + n then dot x else a.cur.getLsbD x) ∧
    a' = if a.x + n = w then { done := a.done ++ [l], cur := 0, x := 0, ref := l } else { a with cur := l, x := a.x + n }

/-- The fault of a token of this kind and count, by the tests of R56 in their order, or none. -/
def tokenFault (w kind n : Nat) (a : Art) : FaultCause :=
  let lines := a.done.length
  if kind = 0 ∨ 7 ≤ kind then .unknownToken
  else if (kind = 1 ∨ kind = 2 ∨ kind = 3 ∨ kind = 5) ∧ n = 0 then .zeroRun
  else if (kind = 5 ∨ kind = 6) ∧ a.x ≠ 0 then .misplaced
  else if (kind ≠ 6 ∧ a.x = 0 ∧ lines = 64) ∨ (kind = 5 ∧ 64 < lines + n) then .longStrip
  else if kind = 6 ∧ lines < 64 then .shortStrip
  else if (kind = 1 ∨ kind = 2 ∨ kind = 3) ∧ w < a.x + n then .longLine
  else .none

/-- Elements a to b are a raw run that is kept: a maximal stretch of flagged elements, at least q of them (R146). -/
def KeptRaw (q : Nat) (flags : List (Option Int)) (a b : Nat) : Prop :=
  a ≤ b ∧ b < flags.length ∧ (∀ e, a ≤ e → e ≤ b → flags.getD e none ≠ none) ∧
  (1 ≤ a → flags.getD (a - 1) none = none) ∧ flags.getD (b + 1) none = none ∧ q ≤ b + 1 - a

/-- A run and an open defect share an element (R148; the ranges of one scan line in several pieces, log entry 14). -/
def shares (r : Run) (o : OpenDefect) : Bool := o.ranges.any fun p => decide (p.1 ≤ r.last ∧ r.first ≤ p.2)

/-- The runs that join the open defect of this number. -/
def joining (opens : List OpenDefect) (runs : List Run) (number : Nat) : List Run :=
  runs.filter fun r => opens.any fun o => decide (o.number = number) && shares r o

/-- The run joins no open defect. -/
def loose (opens : List OpenDefect) (r : Run) : Bool := opens.all fun o => !shares r o

/-- A defect record with the runs rs of scan line y joined to it, and the records `gone` merged into it (R148). -/
def grown (y : Nat) (d : DefectRecord) (gone : List DefectRecord) (rs : List Run) : DefectRecord :=
  if rs = [] then d
  else { d with
    firstLine := (gone.map DefectRecord.firstLine).foldl min d.firstLine
    lastLine := y
    firstElement := (gone.map DefectRecord.firstElement ++ rs.map Run.first).foldl min d.firstElement
    lastElement := (gone.map DefectRecord.lastElement ++ rs.map Run.last).foldl max d.lastElement
    area := d.area + (gone.map DefectRecord.area ++ rs.map Run.area).sum
    sign := if ∀ g ∈ gone.map DefectRecord.sign ++ rs.map Run.sign, g = d.sign then d.sign else .mixed
    peak := (gone.map DefectRecord.peak ++ rs.map Run.peak).foldl max d.peak }

/-- New defects for these runs from left to right, while the pool has a free record, fewer than 32 are open and a number is
left; the rest are untracked (R148, R149). -/
def opened (y : Nat) (t : Tracker) (runs : List Run) : Tracker :=
  let k := min runs.length (min t.free (min (32 - t.opens.length) (65536 - t.nextNumber)))
  { list := t.list ++ (runs.take k).mapIdx fun i r =>
      { number := t.nextNumber + i, firstLine := y, lastLine := y, firstElement := r.first, lastElement := r.last,
        area := r.area, sign := r.sign, peak := r.peak }
    opens := t.opens ++ (runs.take k).mapIdx fun i r => { number := t.nextNumber + i, ranges := [(r.first, r.last)] }
    nextNumber := t.nextNumber + k
    untracked := min (t.untracked + (runs.length - k)) 65535
    free := t.free - k }

/-- A run r joins the open defects of these numbers: they merge into the oldest, and the others' records return to the
pool (R148). -/
def merged (y : Nat) (t : Tracker) (numbers : List Nat) (oldest : Nat) (r : Run) : Tracker :=
  let others := fun (n : Nat) => decide (n ∈ numbers ∧ n ≠ oldest)
  let gone := t.list.filter fun d => others d.number
  { t with
    list := (t.list.filter fun d => !others d.number).map fun d => if d.number = oldest then grown y d gone [r] else d
    opens := (t.opens.filter fun o => !others o.number).map fun o =>
      if o.number = oldest then { o with ranges := [(r.first, r.last)] } else o
    free := t.free + gone.length }

/-- The defect list and the open-defect table before the matching of scan line y (R147, R148): every number given is below
the next, every open defect has its record, and no record has been seen on line y. -/
def TrackerFits (y : Nat) (t : Tracker) : Prop :=
  (t.opens.map OpenDefect.number).Nodup ∧ (t.list.map DefectRecord.number).Nodup ∧
  (∀ d ∈ t.list, d.number < t.nextNumber ∧ d.lastLine < y) ∧
  (∀ o ∈ t.opens, ∃ d ∈ t.list, d.number = o.number) ∧ t.opens.length ≤ 32 ∧ t.nextNumber ≤ 65536 ∧ t.untracked ≤ 65535

/-- The settings, intake, decoder, screening, filler, scanner and store contents, none of which an exposure changes. -/
def OffDrum (s t : State) : Prop :=
  t.settings = s.settings ∧ t.intake = s.intake ∧ t.decoder = s.decoder ∧ t.screening = s.screening ∧
  t.filler = s.filler ∧ t.inspection = s.inspection ∧ t.store.memory = s.store.memory

/-- What an abort in WRITING leaves (R15, R109, R130): IDLE and dark, the fetch stopped, the plate spent, the bay HELD, an
ABORTED entry queued. -/
def AbortedWriting (cause : AbortCause) (n : Nat) (p : Plate) (s t : State) : Prop :=
  t.exposure.state = .idle ∧ t.exposure.current = none ∧ t.exposure.emitters = 0 ∧ t.exposure.passOpen = false ∧
  t.exposure.prefetchPass = none ∧ t.exposure.buffers = [.empty, .empty] ∧ t.exposure.spent = true ∧
  t.exposure.last = .aborted cause s.exposure.passCounter true n p.key ∧
  t.plate? n = some (spoiled cause s.exposure.passCounter p) ∧
  (∀ m, m ≠ n → t.plate? m = s.plate? m) ∧
  t.inspectionQueue = s.inspectionQueue ++ [.aborted p.key] ∧ t.approvalQueue = s.approvalQueue ∧
  t.exposure.skews = s.exposure.skews ∧ OffDrum s t ∧ t.store = s.store.stop .prefetch ∧
  t.link.sources.getLsbD 8 = true ∧ t.link.sources.getLsbD n = true

/-- The page-separation has a resident bay of a higher version (R16, R22). -/
def Superseded (key : PlateKey) (s : State) : Prop :=
  ∃ m q, s.plate? m = some q ∧ SamePage q.key key ∧ key.version < q.key.version

/-- What an abort in LOADING or WAITING leaves (R8, R16, R130): IDLE and dark, the fetch stopped; the bay goes back to the head
of the approval queue, or is freed if superseded. -/
def AbortedEarly (cause : AbortCause) (n : Nat) (p : Plate) (s t : State) : Prop :=
  t.exposure.state = .idle ∧ t.exposure.current = none ∧ t.exposure.emitters = 0 ∧ t.exposure.passOpen = false ∧
  t.exposure.prefetchPass = none ∧ t.exposure.buffers = [.empty, .empty] ∧
  t.exposure.last = .aborted cause s.exposure.passCounter false n p.key ∧ t.exposure.skews = s.exposure.skews ∧
  (¬ Superseded p.key s →
    t.bays = s.bays.set n (some { p with state := .queued }) ∧ t.approvalQueue = n :: s.approvalQueue) ∧
  (Superseded p.key s → t.bays = s.bays.set n none ∧ t.approvalQueue = s.approvalQueue) ∧
  t.inspectionQueue = s.inspectionQueue ∧ OffDrum s t ∧ t.store = s.store.stop .prefetch ∧
  t.link.sources.getLsbD 8 = true ∧ t.link.sources.getLsbD n = true

/-- LOADING or WAITING with bay n, holding p, the current bay; a superseded one is EXPOSING, as every current bay is (R13). -/
def EarlyBay (s : State) (n : Nat) (p : Plate) : Prop :=
  (s.exposure.state = .loading ∨ s.exposure.state = .waiting) ∧ s.exposure.current = some (n, p.key) ∧
  s.plate? n = some p ∧ n < 8 ∧ (Superseded p.key s → p.state = .exposing)

/-- An AUTO event that finds a bay queued takes a start: the mode is AUTO, the auto hold clear, the controller IDLE, the
processor has room, the interlocks are asserted and the plate is fresh (R118, R120). -/
def AutoReady (s : State) : Prop :=
  s.settings.mode = .auto ∧ s.exposure.autoHold = false ∧ s.exposure.state = .idle ∧ s.inspectionQueue.length < 4 ∧
  s.asserted 0 = true ∧ s.asserted 1 = true ∧ s.asserted 2 = true ∧ s.exposure.spent = false

/-- The Exposure Controller when a start has taken bay m, holding q: LOADING, with the fetch of pass 0 begun (R118). -/
def startedExposure (m : Nat) (q : Plate) (e : Exposure) : Exposure :=
  { e with
    state := .loading, current := some (m, q.key), passCount := q.h / 32, passLength := q.w + e.skews.foldl max 0,
    passCounter := 0, position := 0, passOpen := false, prefetchPass := some 0, nextFetch := 1,
    buffers := [.fetching 0 [], .empty] }

/-- u when a start has taken bay m, holding q, from the head of its approval queue (R13, R105, R118). -/
def started (m : Nat) (q : Plate) (u : State) : State :=
  { u with
    bays := u.bays.set m (some { q with state := .exposing })
    approvalQueue := u.approvalQueue.tail
    exposure := startedExposure m q u.exposure
    store := Store.grant { u.store with prefetch := some { addr := u.bayBase m, write := none } }
    link := { u.link with sources := u.link.sources ||| (1#12 <<< m) ||| (1#12 <<< 8) } }

/-- v is u, a state at an AUTO event (a bay has just become QUEUED, an entry has left the inspection queue), or u with the
start that the event takes (R120). -/
def AutoTaken (u v : State) : Prop :=
  ((¬ AutoReady u ∨ u.approvalQueue = []) ∧ v = u) ∨
  ∃ m rest q, AutoReady u ∧ u.approvalQueue = m :: rest ∧ u.plate? m = some q ∧ 32 ≤ q.h ∧ v = started m q u

/-- The outcome is u, a state at an AUTO event, with the start that the event takes if it takes one. -/
def EndsAuto (o : Host.Outcome State Fault Refusal) (u : State) : Prop := ∀ v, AutoTaken u v → o = .next v

/-- The decoder may take this block: it works on no body, a buffer is FREE, and no write of the block's plate key and strip is
in progress (R37). -/
def MayTake (b : Block) (s : State) : Prop :=
  (∀ x ∈ s.decoder.buffers, x.isBuilding = false) ∧ (∃ x ∈ s.decoder.buffers, x = .free) ∧
  ∀ ctx lines, ctx.key = b.key → ctx.strip = b.strip →
    (∀ through, .ready ctx lines through ∉ s.decoder.buffers) ∧ ∀ served, .writing ctx lines served ∉ s.decoder.buffers

/-- u becomes v by the decoder's waiting take (R37, R38): v is what BLOCK_TAKE answers at u, but for the link, which takes no
part; with a SENDING transmitter the command makes no choice of a frame beside it. -/
def Takes (u v : State) : Prop :=
  v.link = u.link ∧ ∀ l : Link, l.tx ≠ .idle → exec .blockTake { u with link := l } = .next { v with link := l }

/-- The outcome of a write completion that leaves w but for the decoder's waiting take: w where that take came first, and
else w with the take made (R37, R38; which comes first is the operand of STRIP_WRITE_COMPLETE, log entry 9). -/
def TakenLast (takeFirst : Bool) (o : Host.Outcome State Fault Refusal) (w : State) : Prop :=
  (takeFirst = true → o = .next w) ∧ (takeFirst = false → ∃ v, Takes w v ∧ o = .next v)

/-- The store after a burst in service has completed: the next grant is made before the requester's next ask or after it
(R105, R106; the operand of BURST_COMPLETE, log entry 9). A requester that has asked the last burst of a range asks none here,
and so has none at this grant (log entry 41). -/
def granted (grantFirst : Bool) (ask : Store → Store) (st : Store) : Store :=
  Store.grant (ask (if grantFirst then st.grant else st))

/-- The answers that RESET PLATES gives for these entries, in their order: WITHDRAWN for the APPROVE PLATE that a bay holds
or has pending, ABORTED for the calibration in progress (R27, R140, R181). -/
def plateWork (s : State) (entries : List Entry) : List Answer :=
  entries.filterMap fun e =>
    if e.slot ∈ s.approvalEntries then
      some { slot := some e.slot, kind := kindOfAnswer e.kind, tag := e.tag, reply := only .withdrawn }
    else if s.calibrationEntry = some e.slot then
      some { slot := some e.slot, kind := kindOfAnswer e.kind, tag := e.tag, reply := only .aborted }
    else none

/-- What RESET PLATES leaves from s, but for the outstanding table and the answer queue (R27, R47, R68, R89, R97, R112, R134,
R160, R168, R181; the inspection source and the weak count are log entry 21). -/
def PlatesCleared (s t : State) : Prop :=
  t.settings = s.settings ∧ t.bays = s.bays.map (fun _ => none) ∧ t.approvalQueue = [] ∧ t.inspectionQueue = [] ∧
  t.intake = { queue := [], dropped := 0 } ∧ t.decoder.buffers = [.free, .free] ∧
  t.screening = { s.screening with work := none } ∧ t.filler = { fill := none, list := [] } ∧
  t.store.memory = s.store.memory ∧ t.store.owed = s.store.owed ∧ t.store.timer = s.store.timer ∧
  t.store.prefetch = none ∧ t.store.inspect = none ∧ t.store.writer = [] ∧
  ((∀ a b live, s.store.service ≠ .burst a b live) → t.store.service = s.store.service) ∧
  (∀ a b live, s.store.service = .burst a b live → t.store.service = .burst a b false) ∧
  t.exposure.state = .idle ∧ t.exposure.current = none ∧ t.exposure.passCounter = 0 ∧ t.exposure.position = 0 ∧
  t.exposure.prefetchPass = none ∧ t.exposure.emitters = 0 ∧ t.exposure.passOpen = false ∧
  t.exposure.buffers = [.empty, .empty] ∧ t.exposure.autoHold = false ∧ t.exposure.skews = s.exposure.skews ∧
  t.exposure.spent = (s.exposure.spent || decide (s.exposure.state = .writing)) ∧
  (s.exposure.current = none → t.exposure.last = s.exposure.last) ∧
  (∀ n key, s.exposure.current = some (n, key) → t.exposure.last =
    .aborted .reset s.exposure.passCounter (decide (s.exposure.state = .writing)) n key) ∧
  t.inspection.work = .idle ∧ t.inspection.dark = s.inspection.dark ∧ t.inspection.gain = s.inspection.gain ∧
  t.inspection.weak = s.inspection.weak ∧ t.inspection.settings = s.inspection.settings ∧
  t.inspection.lastScan = .none ∧ t.inspection.unexpectedCount = 0 ∧ t.inspection.abortedCount = 0 ∧
  ((∀ c, s.inspection.work ≠ .calibrating c) → t.inspection.lastCalibration = s.inspection.lastCalibration ∧
    t.link.sources.getLsbD 9 = s.transmit.link.sources.getLsbD 9) ∧
  (∀ c, s.inspection.work = .calibrating c →
    t.inspection.lastCalibration = some { phase := c.phase, outcome := .aborted, weak := 0 } ∧
    t.link.sources.getLsbD 9 = true) ∧
  t.lines = s.lines ∧
  t.link.ready = true ∧ t.link.resetKind = .plates ∧ t.link.sources.getLsbD 8 = true ∧ t.link.sources.getLsbD 11 = true ∧
  (∀ n, n < 12 → n ≠ 8 → n ≠ 9 → n ≠ 11 → t.link.sources.getLsbD n = s.transmit.link.sources.getLsbD n) ∧
  t.link.busy = s.link.busy ∧ t.link.tx = s.transmit.link.tx ∧ t.link.pointer = s.transmit.link.pointer ∧
  t.link.badCheck = s.link.badCheck ∧ t.link.timeouts = s.link.timeouts ∧ t.link.linkBusy = s.link.linkBusy ∧
  t.link.dropped = s.link.dropped ∧ t.link.unitAddr = s.link.unitAddr ∧ t.link.receiver = .hunting

/-- The bay states in the order of R2, which is the order of their codes from 00h (section 10.9). -/
def plateStates : List (Option PlateState) :=
  [none, some .filling, some .approving, some .queued, some .exposing, some .exposed, some .inspecting, some .held]

/-- The verdicts in the order of their codes (section 10.9). -/
def verdicts : List Verdict := [.none, .clean, .marginal, .reject, .unchecked, .aborted]

/-- The abort causes in the order of their codes (section 10.9). -/
def abortCauses : List (Option AbortCause) :=
  [none, some .underrun, some .overlap, some .door, some .plateLost, some .head, some .requested, some .reset]

/-- The number of strips of p for which a test holds. -/
def stripsWith (test : StripRecord → Bool) (p : Plate) : Nat := (p.strips.filter test).length

/-- The four strip counts of p stand at an offset of d (section 10.9; a field holds its value's low 16 bits). -/
def CountsRead (p : Plate) (d : List Byte) (i : Nat) : Prop :=
  u16At d i = stripsWith (fun r => decide (r.state = .good)) p % 65536 ∧
  u16At d (i + 2) = stripsWith (fun r => decide (r.state = .damaged)) p % 65536 ∧
  u16At d (i + 4) = stripsWith (fun r => decide (r.state = .absent)) p % 65536 ∧
  u16At d (i + 6) = stripsWith (fun r => decide (r.state = .missing)) p % 65536

/-- From an offset of d stand p's duplicates and zone-ignored blocks; further on, from another, its exposure outcome with
cause and pass reached, exposure count, verdict, defect count and untracked-run count (section 10.9). -/
def HistoryReads (p : Plate) (d : List Byte) (i : Nat) : Prop :=
  u16At d i = p.duplicates % 65536 ∧ u16At d (i + 2) = p.zoneIgnored % 65536 ∧
  (p.outcome = .none → byteAt d (i + 4) = 0 ∧ byteAt d (i + 5) = 0 ∧ u16At d (i + 6) = 0) ∧
  (p.outcome = .complete → byteAt d (i + 4) = 1 ∧ byteAt d (i + 5) = 0 ∧ u16At d (i + 6) = 0) ∧
  (∀ cause pass, p.outcome = .aborted cause pass → byteAt d (i + 4) = 2 ∧
    abortCauses[byteAt d (i + 5)]? = some (some cause) ∧ u16At d (i + 6) = pass % 65536) ∧
  byteAt d (i + 8) = p.exposures % 256 ∧ verdicts[byteAt d (i + 9)]? = some p.verdict ∧
  u16At d (i + 10) = p.defects.length % 65536 ∧ u16At d (i + 12) = p.untracked % 65536

/-- d is the plate record of bay n, holding p (R23, section 10.9). -/
def PlateRecordReads (n : Nat) (p : Plate) (d : List Byte) : Prop :=
  d.length = 37 ∧ byteAt d 0 = n ∧ plateStates[byteAt d 1]? = some (some p.state) ∧ keyAt d 2 = p.key ∧
  u16At d 7 = p.w % 65536 ∧ u16At d 9 = p.h % 65536 ∧ [Policy.hold, Policy.hatch][byteAt d 11]? = some p.policy ∧
  d[12]? = some p.screenSet ∧ d[13]? = some p.curveSet ∧ byteAt d 14 = (if p.replate then 1 else 0) ∧ CountsRead p d 15 ∧
  HistoryReads p d 23

/-- d is the damage summary of p (R98, R99, section 10.9). -/
def SummaryReads (p : Plate) (d : List Byte) : Prop :=
  d.length = 33 ∧ keyAt d 0 = p.key ∧ [Policy.hold, Policy.hatch][byteAt d 5]? = some p.policy ∧ CountsRead p d 6 ∧
  u16At d 14 = stripsWith (fun r => decide (r.state = .damaged) && decide (r.cause = .check)) p % 65536 ∧
  (∀ i r, p.strips[i]? = some r → r.state ≠ .good →
    (∀ j, j < i → (p.strips[j]?).map StripRecord.state = some .good) → u16At d 16 = i % 65536) ∧
  ((∀ r ∈ p.strips, r.state = .good) → u16At d 16 = 0xFFFF) ∧ HistoryReads p d 18 ∧
  ((∀ r ∈ p.strips, r.state = .good) → byteAt d 32 = 2) ∧
  (p.state = .filling → (∃ r ∈ p.strips, r.state = .absent ∨ r.state = .damaged) → byteAt d 32 = 1) ∧
  (p.state = .approving → (∃ r ∈ p.strips, r.state = .absent) → byteAt d 32 = 3) ∧
  (p.state = .queued ∨ p.state = .exposing ∨ p.state = .exposed ∨ p.state = .inspecting ∨ p.state = .held →
    (∃ r ∈ p.strips, r.state = .damaged ∨ r.state = .missing) → byteAt d 32 = 4)

/-- d is the defect list of p in list order, 16 bytes a record, and its trailer (R157, section 10.9). -/
def DefectsRead (p : Plate) (d : List Byte) : Prop :=
  d.length = 16 * p.defects.length + 10 ∧
  (∀ j r, p.defects[j]? = some r →
    let i := 16 * j
    u16At d i = r.number % 65536 ∧ u16At d (i + 2) = r.firstLine % 65536 ∧ u16At d (i + 4) = r.lastLine % 65536 ∧
    u16At d (i + 6) = r.firstElement % 65536 ∧ u16At d (i + 8) = r.lastElement % 65536 ∧
    u32At d (i + 10) = r.area % 4294967296 ∧ [Sign.excess, Sign.loss, Sign.mixed][byteAt d (i + 14)]? = some r.sign ∧
    byteAt d (i + 15) = r.peak % 256) ∧
  let i := 16 * p.defects.length
  u16At d i = p.defects.length % 65536 ∧ u16At d (i + 2) = p.untracked % 65536 ∧
  verdicts[byteAt d (i + 4)]? = some p.verdict ∧ keyAt d (i + 5) = p.key

/-- d is `count` strip records of p from strip `first` upward, going on at strip 0 after the last (R44, section 10.9). -/
def StripsRead (p : Plate) (first count : Nat) (d : List Byte) : Prop :=
  d.length = 5 * count ∧ ∀ k r, k < count → p.strips[(first + k) % p.strips.length]? = some r →
    u16At d (5 * k) = (first + k) % p.strips.length % 65536 ∧
    [StripState.absent, .good, .damaged, .missing][byteAt d (5 * k + 2)]? = some r.state ∧
    byteAt d (5 * k + 3) = (if r.source = .variant then 1 else 0) + (if r.variantSeen then 2 else 0) ∧
    [FaultCause.none, .check, .zeroRun, .longLine, .misplaced, .longStrip, .shortStrip, .truncated, .unknownToken,
      .windowSlot, .windowData, .windowForm][byteAt d (5 * k + 4)]? = some r.cause

/-- A flag, mark or on/off setting as a byte (section 10.9). -/
def flagCode (b : Bool) : Nat := if b then 1 else 0

/-- A plate key stands at an offset of d (section 10.9; here and below a field holds its value's low bits). -/
def KeyReads (k : PlateKey) (d : List Byte) (i : Nat) : Prop :=
  byteAt d i = k.edition % 256 ∧ u16At d (i + 1) = k.page % 65536 ∧ byteAt d (i + 3) = k.separation % 256 ∧
  byteAt d (i + 4) = k.version % 256

/-- A bay number and its plate key stand at an offset of d: FFh and a key of zeros for none. -/
def BayKeyReads (o : Option (Nat × PlateKey)) (d : List Byte) (i : Nat) : Prop :=
  (o = none → byteAt d i = 0xFF ∧ KeyReads zeroKey d (i + 1)) ∧
  ∀ n k, o = some (n, k) → byteAt d i = n % 256 ∧ KeyReads k d (i + 1)

/-- The last outcome of the Exposure Controller stands at an offset of d, 11 bytes (R115; log entry 24). -/
def LastReads (o : LastOutcome) (d : List Byte) (i : Nat) : Prop :=
  (o = .none → byteAt d i = 0 ∧ byteAt d (i + 1) = 0 ∧ u16At d (i + 2) = 0 ∧ byteAt d (i + 4) = 0 ∧
    BayKeyReads none d (i + 5)) ∧
  (∀ n k, o = .complete n k → byteAt d i = 1 ∧ byteAt d (i + 1) = 0 ∧ u16At d (i + 2) = 0 ∧ byteAt d (i + 4) = 0 ∧
    BayKeyReads (some (n, k)) d (i + 5)) ∧
  (∀ cause pass begun n k, o = .aborted cause pass begun n k → byteAt d i = 2 ∧
    abortCauses[byteAt d (i + 1)]? = some (some cause) ∧ u16At d (i + 2) = pass % 65536 ∧
    byteAt d (i + 4) = flagCode begun ∧ BayKeyReads (some (n, k)) d (i + 5))

/-- The bad-check, timeout, LINK BUSY and dropped-request counts stand at an offset of d (R176). -/
def CountersRead (l : Link) (d : List Byte) (i : Nat) : Prop :=
  u16At d i = l.badCheck % 65536 ∧ u16At d (i + 2) = l.timeouts % 65536 ∧ u16At d (i + 4) = l.linkBusy % 65536 ∧
  u16At d (i + 6) = l.dropped % 65536

/-- Exposure states in the order of their codes (R115). -/
def exposureStates : List ExposureState := [.idle, .loading, .waiting, .writing]

/-- Inspection Unit states are coded IDLE 00h, CALIBRATING 01h, SCANNING 02h (R136). -/
def unitCode : InspectionUnit → Nat
  | .idle => 0
  | .calibrating _ => 1
  | .scanning _ => 2

/-- d is the status record, 94 bytes (R178, section 10.9). -/
def StatusReads (s : State) (d : List Byte) : Prop :=
  d.length = 94 ∧ byteAt d 0 = s.settings.bayMode.count ∧ u16At d 1 = s.settings.zoneCode.toNat ∧
  u16At d 3 = s.settings.zoneMask.toNat ∧ byteAt d 5 = s.settings.resolution.side ∧
  [ExposureMode.manual, ExposureMode.auto][byteAt d 6]? = some s.settings.mode ∧
  byteAt d 7 = s.settings.pulseSteps % 256 ∧ byteAt d 8 = flagCode s.settings.autoRelease ∧
  byteAt d 9 = s.link.unitAddr.toNat ∧
  (∀ c o, plateStates[c]? = some o →
    byteAt d (10 + c) = (s.bays.filter fun b => decide (b.map Plate.state = o)).length % 256) ∧
  byteAt d 18 = s.approvalQueue.length % 256 ∧
  (∀ i, i < 8 → byteAt d (19 + i) = (s.approvalQueue.getD i 0xFF) % 256) ∧
  byteAt d 27 = s.inspectionQueue.length % 256 ∧
  (∀ i, i < 4 →
    (s.inspectionQueue[i]? = none → BayKeyReads none d (28 + 6 * i)) ∧
    (∀ n, s.inspectionQueue[i]? = some (.bay n) → byteAt d (28 + 6 * i) = n % 256 ∧ KeyReads zeroKey d (29 + 6 * i)) ∧
    (∀ k, s.inspectionQueue[i]? = some (.aborted k) → byteAt d (28 + 6 * i) = 0xFE ∧ KeyReads k d (29 + 6 * i))) ∧
  byteAt d 52 = s.intake.queue.length % 256 ∧ u32At d 53 = s.charged % 4294967296 ∧ u16At d 57 = s.intake.dropped % 65536 ∧
  exposureStates[byteAt d 59]? = some s.exposure.state ∧ BayKeyReads s.exposure.current d 60 ∧
  u16At d 66 = s.exposure.passCounter % 65536 ∧ byteAt d 68 = flagCode s.exposure.spent ∧
  byteAt d 69 = flagCode s.exposure.autoHold ∧ LastReads s.exposure.last d 70 ∧
  byteAt d 81 = unitCode s.inspection.work ∧ u16At d 82 = s.freeRecords ∧ byteAt d 84 = s.store.owed % 256 ∧
  byteAt d 85 = s.link.outstanding.length % 256 ∧ CountersRead s.link d 86

/-- The reported levels and the event flags stand at an offset of d, each a set of input lines (R162). -/
def EventsRead (s : State) (d : List Byte) (i : Nat) : Prop :=
  ∀ n l, s.lines.inputs[n]? = some l →
    (byteAt d i).testBit n = (if l.hold && l.flag then l.latched else l.debounced) ∧ (byteAt d (i + 1)).testBit n = l.flag

/-- The settings of O0 to O3, O0 always AUTO, and the set of outputs at high level stand at an offset of d (R166). -/
def OutputsRead (s : State) (d : List Byte) (i : Nat) : Prop :=
  let settings := [OutputSetting.low, OutputSetting.high, OutputSetting.auto]
  settings[byteAt d i]? = some .auto ∧ settings[byteAt d (i + 1)]? = some s.lines.o1 ∧
  settings[byteAt d (i + 2)]? = some s.lines.o2 ∧ settings[byteAt d (i + 3)]? = some s.lines.o3 ∧
  ∀ n, n < 4 → (byteAt d (i + 4)).testBit n = s.outputLevel n

/-- d is the lines record, 42 bytes (R164, section 10.9). -/
def LinesRead (s : State) (d : List Byte) : Prop :=
  d.length = 42 ∧
  (∀ n l, s.lines.inputs[n]? = some l →
    (byteAt d 0).testBit n = l.raw ∧ (byteAt d 1).testBit n = l.debounced ∧
    byteAt d (4 + 4 * n) = l.debounce % 256 ∧
    [EdgeSetting.rising, EdgeSetting.falling, EdgeSetting.both][byteAt d (5 + 4 * n)]? = some l.edge ∧
    byteAt d (6 + 4 * n) = flagCode l.hold ∧ byteAt d (7 + 4 * n) = flagCode l.masked) ∧
  EventsRead s d 2 ∧ OutputsRead s d 36 ∧
  byteAt d 41 = (match s.lines.pulse with
    | none => 0
    | some p => if p.reject then 1 else 2)

/-- d is the body of the exposure notice, 24 bytes (R131, section 10.9). -/
def ExposureNoticeReads (s : State) (d : List Byte) : Prop :=
  d.length = 24 ∧ byteAt d 0 = 8 ∧ exposureStates[byteAt d 1]? = some s.exposure.state ∧
  BayKeyReads s.exposure.current d 2 ∧ u16At d 8 = s.exposure.passCounter % 65536 ∧
  [ExposureMode.manual, ExposureMode.auto][byteAt d 10]? = some s.settings.mode ∧
  byteAt d 11 = flagCode s.exposure.spent ∧ byteAt d 12 = flagCode s.exposure.autoHold ∧ LastReads s.exposure.last d 13

/-- The last calibration stands at an offset of d, 4 bytes (R136). -/
def CalibrationReads (c : Option LastCalibration) (d : List Byte) (i : Nat) : Prop :=
  (c = none → byteAt d i = 0 ∧ byteAt d (i + 1) = 0 ∧ u16At d (i + 2) = 0) ∧
  ∀ x, c = some x → byteAt d i = (if x.phase = .dark then 1 else 2) ∧
    [CalibrationOutcome.done, CalibrationOutcome.failed, CalibrationOutcome.aborted][byteAt d (i + 1)]? = some x.outcome ∧
    u16At d (i + 2) = x.weak % 65536

/-- The last scan outcome stands at an offset of d, 9 bytes (R136; log entry 24). -/
def ScanOutcomeReads (o : LastScan) (d : List Byte) (i : Nat) : Prop :=
  (o = .none → byteAt d i = 0 ∧ byteAt d (i + 1) = 0 ∧ byteAt d (i + 2) = 0 ∧ BayKeyReads none d (i + 3)) ∧
  (∀ v cause n k, o = .verdict v cause n k → byteAt d i = 1 ∧ verdicts[byteAt d (i + 1)]? = some v ∧
    [UncheckedCause.none, UncheckedCause.lagged, UncheckedCause.earlyClear, UncheckedCause.overlap][byteAt d (i + 2)]? =
      some cause ∧ BayKeyReads (some (n, k)) d (i + 3)) ∧
  (∀ k, o = .abortedPlate k → byteAt d i = 2 ∧ byteAt d (i + 1) = 0 ∧ byteAt d (i + 2) = 0 ∧ byteAt d (i + 3) = 0xFF ∧
    KeyReads k d (i + 4)) ∧
  (o = .unexpected → byteAt d i = 3 ∧ byteAt d (i + 1) = 0 ∧ byteAt d (i + 2) = 0 ∧ BayKeyReads none d (i + 3))

/-- d is the body of the inspection notice, 31 bytes (R156, section 10.9). -/
def InspectionNoticeReads (s : State) (d : List Byte) : Prop :=
  d.length = 31 ∧ byteAt d 0 = 9 ∧ byteAt d 1 = unitCode s.inspection.work ∧
  (∀ sc, s.inspection.work = .scanning sc → BayKeyReads (some (sc.bay, sc.key)) d 2 ∧ u16At d 8 = sc.received % 65536 ∧
    byteAt d 10 = flagCode sc.lagged ∧ byteAt d 11 = sc.openDefects.length % 256) ∧
  ((∀ sc, s.inspection.work ≠ .scanning sc) → BayKeyReads none d 2 ∧ u16At d 8 = 0 ∧ byteAt d 10 = 0 ∧ byteAt d 11 = 0) ∧
  u16At d 12 = s.freeRecords ∧ CalibrationReads s.inspection.lastCalibration d 14 ∧
  ScanOutcomeReads s.inspection.lastScan d 18 ∧ u16At d 27 = s.inspection.unexpectedCount % 65536 ∧
  u16At d 29 = s.inspection.abortedCount % 65536

/-- d is the body of the line notice, 8 bytes (R162, section 10.9). -/
def LinesNoticeReads (s : State) (d : List Byte) : Prop :=
  d.length = 8 ∧ byteAt d 0 = 10 ∧ EventsRead s d 1 ∧ OutputsRead s d 3

/-- d is the body of the link notice, 12 bytes (R176, section 10.9). -/
def LinkNoticeReads (s : State) (d : List Byte) : Prop :=
  d.length = 12 ∧ byteAt d 0 = 11 ∧
  [ResetKind.hardware, ResetKind.full, ResetKind.plates][byteAt d 1]? = some s.link.resetKind ∧
  byteAt d 2 = flagCode s.link.ready ∧ byteAt d 3 = s.link.unitAddr.toNat ∧ CountersRead s.link d 4

/-- The answer statuses in the order of their codes (R173). -/
def statuses : List Status :=
  [.done, .accepted, .badField, .tooLarge, .duplicatePlate, .staleVersion, .baysFull, .noSuchPlate, .late, .notForZone,
    .badBlock, .queueFull, .inUse, .busy, .wrongState, .damageOpen, .noPlate, .processorFull, .interlock, .withdrawn, .aborted,
    .calibrationFailed, .linkBusy]

/-- The characters of a whole frame (section 10.9). -/
def frameOn (addr kind tag : Byte) (body : List Byte) : List Byte :=
  let checked := [addr, kind, tag] ++ be16 body.length ++ body
  0xA5 :: checked ++ be16 (crc16 checked).toNat

/-- The coverages of a scan line's fetched words (R135, R142): the black dots of each examined element's R×R square where
R = 8, a quarter of them, rounded, where R = 16. -/
def CountsSquares (r w : Nat) (words : List StoreWord) (cov : List Nat) : Prop :=
  cov.length = min (w / r) 2048 ∧
  ∀ e, e < cov.length →
    let black := ((List.range r).map fun i => ((List.range r).filter fun j =>
      (words.getD (i * (w / 64) + e * r / 64) 0).getLsbD (e * r % 64 + j)).length).sum
    cov.getD e 0 = if r = 8 then black else (black + 2) / 4

/-- The end of a scan with this verdict (R19, R155): the bay, holding p, is HELD and marked for auto-release if it is CLEAN
with every strip GOOD, the pulse begins, the outcome is recorded, the unit is IDLE and its fetch stopped. -/
def ScanEnded (v : Verdict) (cause : UncheckedCause) (sc : Scan) (p : Plate) (s t : State) : Prop :=
  t.bays = s.bays.set sc.bay (some { p with
    state := .held, verdict := v,
    autoDue := s.settings.autoRelease && decide (v = .clean) && p.strips.all fun r => decide (r.state = .good) }) ∧
  t.inspection = { s.inspection with work := .idle, lastScan := .verdict v cause sc.bay sc.key } ∧
  t.lines.pulse = some { reject := decide (v = .reject), timeLeft := 10 * s.settings.pulseSteps } ∧
  t.store = s.store.stop .inspect ∧ t.link.sources.getLsbD 9 = true ∧
  (sc.bay < 8 → t.link.sources.getLsbD sc.bay = true) ∧ t.settings = s.settings ∧ t.exposure = s.exposure ∧
  t.approvalQueue = s.approvalQueue ∧ t.inspectionQueue = s.inspectionQueue ∧ t.intake = s.intake ∧
  t.decoder = s.decoder ∧ t.screening = s.screening ∧ t.filler = s.filler

/-- The comparison of a scan line against its coverages (R143, R144, R148, R152, R154): its flagged elements form runs that
are matched into the bay's defects; then the next fetch begins, or with the last line the scan ends with its verdict. -/
def Compared (sc : Scan) (p : Plate) (cov : List Nat) (line : ScanLine) (rest : List ScanLine) (s t : State) : Prop :=
  let flags := flagElements sc.settings.thr
    (deviations s.inspection.dark s.inspection.gain s.inspection.weak cov line) []
  let tr := Tracker.matchLine sc.next
    { list := p.defects, opens := sc.openDefects, nextNumber := sc.nextNumber, untracked := p.untracked,
      free := s.freeRecords } (formRuns sc.settings flags.1)
  let p' : Plate := { p with defects := tr.list, untracked := tr.untracked }
  let r := s.settings.resolution.side
  let verdict : Verdict :=
    if 0 < tr.untracked ∨ ∃ d ∈ tr.list, sc.settings.rejectArea ≤ d.area then .reject
    else if ∃ d ∈ tr.list, sc.settings.minArea ≤ d.area then .marginal else .clean
  (sc.next + 1 < p.h / r → t = { s.transmit with
    bays := s.bays.set sc.bay (some p')
    inspection := { s.inspection with work := .scanning { sc with
      next := sc.next + 1, drift := flags.2, fifo := rest, expected := .fetching (sc.next + 1) [],
      openDefects := tr.opens, nextNumber := tr.nextNumber } }
    store := Store.grant { s.store with
      inspect := some { addr := s.bayBase sc.bay + (sc.next + 1) * (r * (p.w / 64)), write := none } } }) ∧
  (p.h / r ≤ sc.next + 1 → ScanEnded verdict .none sc p' s t)

/-- An edge of this line to its raw level matches its edge setting (R162). -/
def edgeHits (l : InputLine) : Bool := decide (l.edge = .both ∨ (l.edge = .rising ∧ l.raw = true) ∨ (l.edge = .falling ∧ l.raw = false))

/-- The line after an edge to its raw level: level, flag and latched level (R162), the pending count begun anew (R161; for an
edge outside a tick log entry 39). -/
def afterEdge (l : InputLine) : InputLine :=
  let moved := { l with debounced := l.raw, count := 0, edgeDue := false }
  if edgeHits l then { moved with flag := true, latched := if l.flag then l.latched else l.raw } else moved

/-- The line after a tick that finds no edge due: the count begins anew at equal levels, and rises, and holds at 15, at levels
that differ, the edge falling due at the setting (R161). -/
def ticked (l : InputLine) : InputLine :=
  if l.debounce = 0 then l
  else if l.raw = l.debounced then { l with count := 0 }
  else { l with count := min (l.count + 1) 15, edgeDue := decide (l.debounce ≤ min (l.count + 1) 15) }

/-- The settings of line n in a SET LINES body, on this record (R165). -/
def withSetting (body : List Byte) (n : Nat) (l : InputLine) : InputLine :=
  { l with
    debounce := min (byteAt body (4 * n)) 15
    edge := if byteAt body (4 * n + 1) = 0 then .rising else if byteAt body (4 * n + 1) = 1 then .falling else .both
    hold := decide (byteAt body (4 * n + 2) = 1), masked := decide (byteAt body (4 * n + 3) = 1) }

/-- The new settings let an edge of line n through at once (R161, R165). -/
def letsThrough (body : List Byte) (n : Nat) (l : InputLine) : Bool := decide (byteAt body (4 * n) = 0 ∧ l.raw ≠ l.debounced)

/-- A scan just bound to bay n, holding p: its expected line 0 is being fetched (R150). -/
def boundScan (n : Nat) (p : Plate) (i : Inspection) : Inspection :=
  { i with work := (.scanning
    { bay := n, key := p.key, settings := i.settings, received := 0, next := 0, lagged := false,
      drift := [], fifo := [], expected := .fetching 0 [], openDefects := [], nextNumber := 1 }) }

/-- The due mark that stood when this notice began is forgotten if it is bay n's, a scan of the bay having ended since (R20). -/
def dueForgotten (n : Nat) : Transmitter → Transmitter
  | .notice source body due => .notice source body (due && decide (source ≠ n))
  | .answer a => .answer a
  | .idle => .idle

/-- The outcome is a scan start judged in v, where the unit is IDLE, against the head of the inspection queue, with the start
that the entry's leaving lets an AUTO line take, asked for after the scan's own burst (R17, R18, R120, R150, R167; log entry
36). -/
def ScanStartJudged (v : State) (o : Host.Outcome State Fault Refusal) : Prop :=
  let pulsed : Lines := { v.lines with pulse := (some { reject := true, timeLeft := 10 * v.settings.pulseSteps }) }
  (∀ n rest p, v.inspectionQueue = .bay n :: rest → v.plate? n = some p →
    EndsAuto o { v with
      inspectionQueue := rest
      bays := v.bays.set n (some { p with state := .inspecting })
      inspection := boundScan n p v.inspection
      store := Store.grant { v.store with inspect := some { addr := v.bayBase n, write := none } }
      link := { v.link with sources := v.link.sources ||| (1#12 <<< n) ||| (1#12 <<< 9) } }) ∧
  (∀ key rest, v.inspectionQueue = .aborted key :: rest →
    EndsAuto o { v with
      inspectionQueue := rest, lines := pulsed
      inspection := { v.inspection with
        abortedCount := min (v.inspection.abortedCount + 1) 65535, lastScan := .abortedPlate key }
      link := { v.link with sources := v.link.sources ||| (1#12 <<< 9) } }) ∧
  (v.inspectionQueue = [] →
    o = .next { v with
      lines := pulsed
      inspection := { v.inspection with
        unexpectedCount := min (v.inspection.unexpectedCount + 1) 65535, lastScan := .unexpected }
      link := { v.link with sources := v.link.sources ||| (1#12 <<< 9) } })

/-- WRITING with bay n, holding p, on the drum. -/
def WritingBay (s : State) (n : Nat) (p : Plate) : Prop :=
  s.exposure.state = .writing ∧ s.exposure.current = some (n, p.key) ∧ s.plate? n = some p ∧ n < 8

/-- The link after a full reset (R180). -/
def LinkReset (kind : ResetKind) (straps : BitVec 2) (t : State) : Prop :=
  t.link.receiver = .hunting ∧ t.link.tx = .idle ∧ t.link.outstanding = [] ∧ t.link.busy = [] ∧ t.link.answers = [] ∧
  (∀ n, n < 12 → t.link.sources.getLsbD n = decide (n = 11)) ∧ t.link.ready = true ∧ t.link.resetKind = kind ∧
  t.link.pointer = 11 ∧ t.link.badCheck = 0 ∧ t.link.timeouts = 0 ∧ t.link.linkBusy = 0 ∧ t.link.dropped = 0 ∧
  t.link.unitAddr = straps ∧ t.link.fullReset = none ∧
  t.settings = { bayMode := .eight, zoneCode := 0, zoneMask := 0, resolution := .r8, mode := .manual, pulseSteps := 20,
                 autoRelease := false }

/-- The other blocks after a full reset from s (R26, R46, R68, R88, R97, R111, R133, R159, R168). -/
def BlocksReset (s t : State) : Prop :=
  t.bays = List.replicate 8 none ∧ t.approvalQueue = [] ∧ t.inspectionQueue = [] ∧
  t.intake = { queue := [], dropped := 0 } ∧ t.decoder.buffers = [.free, .free] ∧
  t.screening.work = none ∧ t.screening.screens = List.replicate 8 none ∧
  (∀ c, c < 4 → ∀ k, k < 65 → (t.screening.curves.getD c []).getD k 0 = min (64 * k) 4095) ∧
  t.filler = { fill := none, list := [] } ∧
  t.store.owed = 0 ∧ t.store.timer = true ∧ t.store.service = .idle ∧ t.store.prefetch = none ∧
  t.store.inspect = none ∧ t.store.writer = [] ∧ (∀ a, Memory.read t.store.memory a = none) ∧
  t.exposure.state = .idle ∧ t.exposure.current = none ∧ t.exposure.passCounter = 0 ∧ t.exposure.position = 0 ∧
  t.exposure.prefetchPass = none ∧ t.exposure.buffers = [.empty, .empty] ∧ t.exposure.skews = List.replicate 32 0 ∧
  t.exposure.spent = true ∧ t.exposure.autoHold = false ∧ t.exposure.last = .none ∧ t.exposure.emitters = 0 ∧
  t.inspection.work = .idle ∧ t.inspection.dark = List.replicate 2048 0 ∧
  t.inspection.gain = List.replicate 2048 1024 ∧ t.inspection.weak = [] ∧
  t.inspection.settings = { thr := 12, q := 2, pre := 1, post := 1, minArea := 4, rejectArea := 64 } ∧
  t.inspection.lastCalibration = none ∧ t.inspection.lastScan = .none ∧ t.inspection.unexpectedCount = 0 ∧
  t.inspection.abortedCount = 0 ∧
  t.lines.inputs = s.lines.inputs.map (fun l =>
    { raw := l.raw, debounced := l.raw, count := 0, debounce := 4, edge := .both, hold := false, masked := false,
      flag := false, latched := l.raw, edgeDue := false }) ∧
  t.lines.o1 = .auto ∧ t.lines.o2 = .auto ∧ t.lines.o3 = .auto ∧ t.lines.pulse = none ∧
  ∀ n, t.outputLevel n = false

end Sys2Proof.Claims

open Sys2Proof Sys2Proof.Machine Sys2Proof.Claims

/-! ### Steps and resets -/

/-- The step takes the command at the front of the queue and runs it on the rest; an empty queue idles (the model's queue,
log entry 1). -/
def Obligations.StepTakesFrontCommand : Prop :=
  (∀ (c : Instr) (rest : List Instr) (s : State), s.pending = c :: rest → step s = exec c { s with pending := rest }) ∧
  (∀ s : State, s.pending = [] → step s = .next s)

/-- R180: a hardware reset, and RESET FULL when its answer has been sent, leave the link as the rule lists. -/
def Obligations.FullResetLeavesLink : Prop :=
  (∀ (straps : BitVec 2) (s : State), ∃ t, exec (.hardwareReset straps) s = .next t ∧ LinkReset .hardware straps t) ∧
  (∀ (k : Nat) (a : Answer) (s : State), s.link.tx = .answer a → a.slot = some k → s.link.fullReset = some k →
    ∃ t, exec .answerSent s = .next t ∧ LinkReset .full s.link.straps t)

/-- R26, R46, R68, R88, R97, R111, R133, R159, R168: what a full reset leaves in every other block. -/
def Obligations.FullResetLeavesBlocks : Prop :=
  (∀ (straps : BitVec 2) (s : State), ∃ t, exec (.hardwareReset straps) s = .next t ∧ BlocksReset s t) ∧
  (∀ (k : Nat) (a : Answer) (s : State), s.link.tx = .answer a → a.slot = some k → s.link.fullReset = some k →
    ∃ t, exec .answerSent s = .next t ∧ BlocksReset s t)

/-- R179: RESET FULL is answered DONE and marked; from then on every frame, one whose check differs among them, is discarded
unjudged and uncounted, and no notice begins. -/
def Obligations.ResetFullWaitsForItsAnswer : Prop :=
  (∀ (addr tag : Byte) (s : State), Ready addr s →
    exec (.resetFull addr tag [0]) s = .next { answered 3 tag (only .done) s with
      link := { (answered 3 tag (only .done) s).link with fullReset := some s.link.freeSlot } }) ∧
  (∀ (kind addr tag : Byte) (body : List Byte) (s : State), s.link.receiver = .hunting → s.link.fullReset.isSome →
    exec (frameOf kind addr tag body) s = .next s.transmit) ∧
  (∀ (kind addr tag : Byte) (body : List Byte) (check : BitVec 16) (s : State), s.link.receiver = .hunting →
    s.link.fullReset.isSome → exec (.frameCheckFailed addr kind tag body check) s = .next s.transmit) ∧
  (∀ s : State, s.link.fullReset.isSome → s.link.answers = [] → s.transmit = s)

/-- R27, R47, R68, R89, R97, R112, R134, R160, R168, R181: RESET PLATES clears the plate work and keeps the rest. Behind the
answers already queued, every outstanding APPROVE PLATE held or pending is answered WITHDRAWN and a calibration in progress
ABORTED, in the order of their entries (log entry 38), and then the request itself DONE. The premise on a calibration that
has its 16 lines is log entry 32. -/
def Obligations.ResetPlatesClearsPlateWork : Prop :=
  ∀ (addr tag : Byte) (s : State), Ready addr s → s.link.TablesFit →
    (∀ c, s.inspection.work = .calibrating c → c.lines < 16) →
    ∃ t, exec (.resetPlates addr tag [1]) s = .next t ∧ PlatesCleared s t ∧
      t.link.outstanding = (requested 3 tag s).link.outstanding ∧
      t.link.answers = s.transmit.link.answers ++ plateWork s (requested 3 tag s).link.outstanding ++
        [answerTo 3 tag (only .done) s]

/-! ### The link -/

/-- R171: a kind byte outside 01h..16h, and a fixed-body kind at any other length, are answered BAD FIELD, and nothing
else changes. R179: so is a RESET whose byte is neither 00h nor 01h. -/
def Obligations.MalformedRequestsAnswerBadField : Prop :=
  (∀ (kind addr tag : Byte) (body : List Byte) (s : State), Ready addr s → (kind.toNat < 1 ∨ 22 < kind.toNat) →
    exec (.unknownKind addr kind tag body) s = .next (answered kind tag (only .badField) s)) ∧
  (∀ (kind addr tag : Byte) (body : List Byte) (n : Nat) (s : State), Ready addr s → fixedLength kind = some n →
    body.length ≠ n → exec (frameOf kind addr tag body) s = .next (answered kind tag (only .badField) s)) ∧
  (∀ (addr tag b : Byte) (s : State), Ready addr s → 1 < b.toNat →
    exec (.resetFull addr tag [b]) s = .next (answered 3 tag (only .badField) s) ∧
    exec (.resetPlates addr tag [b]) s = .next (answered 3 tag (only .badField) s))

/-- R170: a frame addressed elsewhere, and a broadcast of a kind that may not be broadcast, change no state. -/
def Obligations.IgnoredFramesChangeNothing : Prop :=
  ∀ (kind addr tag : Byte) (body : List Byte) (s : State), s.link.receiver = .hunting → addr ≠ s.link.addrByte →
    ¬ (addr = 0x0F ∧ (kind.toNat = 5 ∨ kind.toNat = 13 ∨ kind.toNat = 14 ∨ kind.toNat = 19 ∨ kind.toNat = 3)) →
    exec (.ignoredFrame addr kind tag body) s = .next s.transmit ∧
    exec (frameOf kind addr tag body) s = .next s.transmit

/-- R172: with 16 entries outstanding a request is refused LINK BUSY without reaching its owner, or dropped with 4 such
answers pending, the link source set with either count (and at a count that already holds: the model's choice, log entry
37); a LINK BUSY answer leaves the busy list when sent. -/
def Obligations.FullTableRefusesLinkBusy : Prop :=
  (∀ (kind addr tag : Byte) (body : List Byte) (s : State), s.link.receiver = .hunting → s.link.fullReset = none →
    addr = s.link.addrByte → s.link.outstanding.length = 16 →
    (s.link.busy.length < 4 →
      exec (frameOf kind addr tag body) s = .next { s.transmit with link := { s.transmit.link with
        sources := s.transmit.link.sources ||| (1#12 <<< 11)
        busy := s.link.busy ++ [(tag, kind)]
        answers := s.transmit.link.answers ++
          [{ slot := none, kind := kindOfAnswer kind, tag, reply := only .linkBusy }]
        linkBusy := min (s.link.linkBusy + 1) 65535 } }) ∧
    (s.link.busy.length = 4 →
      exec (frameOf kind addr tag body) s = .next { s.transmit with link := { s.transmit.link with
        sources := s.transmit.link.sources ||| (1#12 <<< 11)
        dropped := min (s.link.dropped + 1) 65535 } })) ∧
  (∀ (a : Answer) (s : State), s.link.tx = .answer a → a.slot = none →
    exec .answerSent s = .next (State.transmit { s with link := { s.link with
      tx := .idle, busy := s.link.busy.drop 1 } }))

/-- R169: a frame whose check differs and a gap within a frame are discarded and counted, with the link source set. A
character in HUNTING begins a frame if it is A5h and is ignored otherwise; in RECEIVING it joins the assembler, and the one
that completes a frame has it judged, the receiver HUNTING again. A frame as one event (log entry 4) is its characters taken
one after another, each judged as the receiver then stands; in RECEIVING this holds of one that the assembler does not
begin, and one that it does begin is taken as it is in HUNTING. START_CHARACTER stands for any one character (log entry 4). -/
def Obligations.ReceiverCountsDiscardedFrames : Prop :=
  (∀ (addr kind tag : Byte) (body : List Byte) (check : BitVec 16) (s : State), s.link.receiver = .hunting →
    s.link.fullReset = none →
    check ≠ crc16 ([addr, kind, tag] ++ be16 body.length ++ body) →
    exec (.frameCheckFailed addr kind tag body check) s = .next { s.transmit with link := { s.transmit.link with
      sources := s.transmit.link.sources ||| (1#12 <<< 11), badCheck := min (s.link.badCheck + 1) 65535 } }) ∧
  (∀ s : State, s.link.receiver = .hunting → exec .frameGapTimeout s = .next s.transmit) ∧
  (∀ (chars : List Byte) (s : State), s.link.receiver = .receiving chars →
    exec .frameGapTimeout s = .next { s.transmit with link := { s.transmit.link with
      receiver := .hunting, sources := s.transmit.link.sources ||| (1#12 <<< 11)
      timeouts := min (s.link.timeouts + 1) 65535 } }) ∧
  (∀ s : State, s.link.receiver = .hunting →
    exec .startCharacter s = .next { s.transmit with link := { s.transmit.link with receiver := .receiving [] } }) ∧
  (∀ (c : Byte) (s : State), s.link.receiver = .hunting → c ≠ 0xA5 → exec (.startCharacter c) s = .next s.transmit) ∧
  (∀ (c : Byte) (chars : List Byte) (s : State), s.link.receiver = .receiving chars →
    ¬ (5 ≤ chars.length + 1 ∧ chars.length + 1 = 5 + u16At (chars ++ [c]) 3 + 2) →
    exec (.startCharacter c) s = .next { s.transmit with link := { s.transmit.link with
      receiver := .receiving (chars ++ [c]) } }) ∧
  (∀ (addr kind tag c : Byte) (body : List Byte) (check : BitVec 16) (chars : List Byte) (s : State),
    body.length ≤ 65535 → s.link.receiver = .receiving chars →
    chars ++ [c] = [addr, kind, tag] ++ be16 body.length ++ body ++ be16 check.toNat →
    exec (.startCharacter c) s =
      exec (.frameCheckFailed addr kind tag body check) { s with link := { s.link with receiver := .hunting } }) ∧
  (∀ (c : Byte) (s : State), exec (.startCharacter c) s = .next (s.transmit.takeCharacter c)) ∧
  (∀ (addr kind tag : Byte) (body : List Byte) (check : BitVec 16) (s : State), body.length ≤ 65535 →
    let frame := [addr, kind, tag] ++ be16 body.length ++ body ++ be16 check.toNat
    (∀ chars, s.link.receiver = .receiving chars → ¬ chars <+: frame) →
    let taken := (0xA5 :: frame).foldl (fun u c => u.takeCharacter c) s.transmit
    exec (.frameCheckFailed addr kind tag body check) s = .next taken ∧
    (check = crc16 ([addr, kind, tag] ++ be16 body.length ++ body) → exec (frameOf kind addr tag body) s = .next taken)) ∧
  (∀ (addr kind tag : Byte) (body : List Byte) (check : BitVec 16) (chars : List Byte) (s : State),
    s.link.receiver = .receiving chars →
    chars <+: [addr, kind, tag] ++ be16 body.length ++ body ++ be16 check.toNat →
    let hunting : State := { s with link := { s.link with receiver := .hunting } }
    exec (.frameCheckFailed addr kind tag body check) s = exec (.frameCheckFailed addr kind tag body check) hunting ∧
    (check = crc16 ([addr, kind, tag] ++ be16 body.length ++ body) →
      exec (frameOf kind addr tag body) s = exec (frameOf kind addr tag body) hunting)) ∧
  (∀ (addr kind tag : Byte) (body : List Byte) (check : BitVec 16) (chars : List Byte) (s : State),
    let frame := [addr, kind, tag] ++ be16 body.length ++ body ++ be16 check.toNat
    s.link.receiver = .receiving chars → ¬ chars <+: frame →
    (∀ k, chars.length < k → k ≤ chars.length + 1 + frame.length →
      ¬ (5 ≤ k ∧ k = 5 + u16At ((chars ++ 0xA5 :: frame).take k) 3 + 2)) →
    exec (.frameCheckFailed addr kind tag body check) s = .next { s.transmit with link := { s.transmit.link with
      receiver := .receiving (chars ++ 0xA5 :: frame) } })

/-- R174, R175, R176 (the moment of the choice and of the ready mark's clearing is log entries 3 and 12): an IDLE
transmitter takes the head of the answer queue; with none it begins the notice of the link source if it is pending after
a reset, else of the first pending source after the pointer; else it stays IDLE. R173, R175 and section 10.9: the frame being
sent has the unit address, its kind, tag and check, and an answer's status before its data. R131, R156, R162, R176: the bodies
of the exposure, inspection, line and link notices stand as section 10.9 lays them out (fields that do not apply: log entry
24); the bay notice's is in ReadsAnswerAndChangeNothing. -/
def Obligations.TransmitterChoosesNextFrame : Prop :=
  (∀ s : State, ExposureNoticeReads s (s.noticeBody 8) ∧ InspectionNoticeReads s (s.noticeBody 9) ∧
    (s.lines.inputs.length = 8 → LinesNoticeReads s (s.noticeBody 10)) ∧ LinkNoticeReads s (s.noticeBody 11)) ∧
  (∀ s : State, (s.link.tx = .idle → s.wire = none) ∧
    (∀ a, s.link.tx = .answer a → ∃ code : Byte, statuses[code.toNat]? = some a.reply.status ∧
      s.wire = some (frameOn (s.link.unitAddr.setWidth 8) a.kind a.tag (code :: a.reply.data))) ∧
    (∀ n body due, n < 12 → s.link.tx = .notice n body due →
      s.wire = some (frameOn (s.link.unitAddr.setWidth 8) (BitVec.ofNat 8 (if n < 8 then 0x41 else 0x3A + n)) 0 body))) ∧
  ∀ s : State, s.link.tx = .idle →
    (∀ a rest, s.link.answers = a :: rest →
      s.transmit = { s with link := { s.link with tx := .answer a, answers := rest } }) ∧
    (∀ n, s.link.answers = [] → s.link.fullReset = none →
      (s.link.ready = true ∧ s.link.sources.getLsbD 11 = true ∧ n = 11 ∨
        ¬ (s.link.ready = true ∧ s.link.sources.getLsbD 11 = true) ∧
        ∃ d, d < 12 ∧ n = (s.link.pointer + 1 + d) % 12 ∧ s.link.sources.getLsbD n = true ∧
          ∀ e, e < d → s.link.sources.getLsbD ((s.link.pointer + 1 + e) % 12) = false) →
      s.transmit = { s with link := { s.link with
        sources := s.link.sources &&& ~~~(1#12 <<< n), pointer := n
        ready := s.link.ready && decide (n ≠ 11)
        tx := .notice n (s.noticeBody n) ((s.plate? n).any fun p => p.autoDue) } }) ∧
    (s.link.answers = [] → s.link.sources = 0 → s.transmit = s)

/-- R20, R173, R175: an answer sent frees its entry, and a notice sent lets the transmitter choose again; a notice begun
with the bay's due mark set frees the HELD bay, and one begun before the mark was set leaves the mark standing. -/
def Obligations.SentFramesFreeWhatTheyHold : Prop :=
  (∀ (a : Answer) (k : Nat) (s : State), s.link.tx = .answer a → a.slot = some k → s.link.fullReset ≠ some k →
      exec .answerSent s = .next (State.transmit { s with link := { s.link with
        tx := .idle, outstanding := s.link.outstanding.filter fun e => decide (e.slot ≠ k) } })) ∧
  (∀ (n : Nat) (body : List Byte) (p : Plate) (s : State), s.link.tx = .notice n body true → s.plate? n = some p →
    p.state = .held → p.autoDue = true →
    exec .noticeSent s = .next (State.transmit { s with
      bays := s.bays.set n none
      link := { s.link with tx := .idle, sources := s.link.sources ||| (1#12 <<< n) } })) ∧
  (∀ (n : Nat) (body : List Byte) (due : Bool) (s : State), s.link.tx = .notice n body due →
    (due = false ∨ ∀ p, s.plate? n = some p → p.autoDue = false) →
    exec .noticeSent s = .next (State.transmit { s with link := { s.link with tx := .idle } }))

/-- R177: CONFIGURE refuses a value not allowed, then a line not at rest; otherwise it replaces the seven settings,
remakes the bay table on a change of bay mode, and takes sources 4..7 out of the pending set on a change to 4 bays. -/
def Obligations.ConfigureReplacesSettings : Prop :=
  ∀ (addr tag : Byte) (body : List Byte) (s : State), Ready addr s → body.length = 9 →
    let allowed := (byteAt body 0 = 8 ∨ byteAt body 0 = 4) ∧ (byteAt body 5 = 8 ∨ byteAt body 5 = 16) ∧
      byteAt body 6 ≤ 1 ∧ byteAt body 8 ≤ 1
    let atRest := (∀ o ∈ s.bays, o = none) ∧ s.exposure.state = .idle ∧ s.inspection.work = .idle
    (¬ allowed → exec (.configure addr tag body) s = .next (answered 1 tag (only .badField) s)) ∧
    (allowed → ¬ atRest → exec (.configure addr tag body) s = .next (answered 1 tag (only .busy) s)) ∧
    (allowed → atRest → ∃ t, exec (.configure addr tag body) s = .next t ∧
      t.settings.bayMode.count = byteAt body 0 ∧ t.settings.zoneCode.toNat = u16At body 1 ∧
      t.settings.zoneMask.toNat = u16At body 3 ∧ t.settings.resolution.side = byteAt body 5 ∧
      (t.settings.mode = .auto ↔ byteAt body 6 = 1) ∧
      t.settings.pulseSteps = (if byteAt body 7 = 0 then 1 else byteAt body 7) ∧
      (t.settings.autoRelease = true ↔ byteAt body 8 = 1) ∧
      t.bays = (if t.settings.bayMode = s.settings.bayMode then s.bays
        else List.replicate t.settings.bayMode.count none) ∧
      (∀ n, n < 12 → t.link.sources.getLsbD n = (s.transmit.link.sources.getLsbD n &&
        !(decide (t.settings.bayMode = .four ∧ s.settings.bayMode = .eight ∧ 4 ≤ n ∧ n ≤ 7)))) ∧
      t = { answered 1 tag (only .done) s with
        settings := t.settings, bays := t.bays
        link := { (answered 1 tag (only .done) s).link with sources := t.link.sources } })

/-! ### Plates -/

/-- R5: the four checks of OPEN PLATE in order; the first that fails gives the answer and nothing else changes. -/
def Obligations.OpenPlateChecksInOrder : Prop :=
  ∀ (addr tag : Byte) (body : List Byte) (s : State), Ready addr s → body.length = 12 →
    let key := keyAt body 0
    let fits := u16At body 5 * u16At body 7 ≤ bayDots s.settings.bayMode
    let duplicate := ∃ n p, s.plate? n = some p ∧ p.key = key
    let stale := ∃ n p, s.plate? n = some p ∧ SamePage p.key key ∧ key.version < p.key.version
    (¬ OpenRanges body → exec (.openPlate addr tag body) s = .next (answered 4 tag (only .badField) s)) ∧
    (OpenRanges body → ¬ fits → exec (.openPlate addr tag body) s = .next (answered 4 tag (only .tooLarge) s)) ∧
    (OpenRanges body → fits → duplicate →
      exec (.openPlate addr tag body) s = .next (answered 4 tag (only .duplicatePlate) s)) ∧
    (OpenRanges body → fits → ¬ duplicate → stale →
      exec (.openPlate addr tag body) s = .next (answered 4 tag (only .staleVersion) s))

/-- R6, R7, R8: an open that withdraws nothing fills the lowest-numbered FREE bay and answers its number, with the
replate flag set exactly when the page-separation has a resident bay; with no bay FREE it is answered BAYS FULL. An open
whose one predecessor to withdraw is QUEUED frees that bay and takes it out of the approval queue, then takes the
lowest-numbered FREE bay, the freed one among them. A FILLING or APPROVING predecessor is let go as R8 says, its APPROVE
PLATE answered WITHDRAWN before the open is answered, and a fill that takes over asking its first burst at once (log entry 43). -/
def Obligations.OpenPlateTakesLowestFreeBay : Prop :=
  (∀ (addr tag : Byte) (body : List Byte) (s : State), Ready addr s → OpenPasses body s →
      (∀ n p, s.plate? n = some p → SamePage p.key (keyAt body 0) → ¬ Withdrawable p) →
      (∀ (n : Nat) (replate : Bool), n < s.bays.length → s.plate? n = none → (∀ m, m < n → s.plate? m ≠ none) →
        (replate = true ↔ ∃ m p, s.plate? m = some p ∧ SamePage p.key (keyAt body 0)) →
        exec (.openPlate addr tag body) s =
          .next { answered 4 tag { status := .done, data := [BitVec.ofNat 8 n] } s with
            bays := s.bays.set n (some (openedPlate body replate))
            link := { (answered 4 tag { status := .done, data := [BitVec.ofNat 8 n] } s).link with
              sources := s.transmit.link.sources ||| (1#12 <<< n) } }) ∧
      ((∀ n, n < s.bays.length → s.plate? n ≠ none) →
        exec (.openPlate addr tag body) s = .next (answered 4 tag (only .baysFull) s))) ∧
  (∀ (addr tag : Byte) (body : List Byte) (m n : Nat) (p : Plate) (s : State), Ready addr s → OpenPasses body s →
      s.plate? m = some p → SamePage p.key (keyAt body 0) → p.state = .queued →
      (∀ i q, s.plate? i = some q → SamePage q.key (keyAt body 0) → Withdrawable q → i = m) →
      n < s.bays.length → (s.plate? n = none ∨ n = m) → (∀ i, i < n → s.plate? i ≠ none ∧ i ≠ m) →
      exec (.openPlate addr tag body) s =
        .next { answered 4 tag { status := .done, data := [BitVec.ofNat 8 n] } s with
          bays := (s.bays.set m none).set n (some (openedPlate body true))
          approvalQueue := s.approvalQueue.filter fun i => decide (i ≠ m)
          link := { (answered 4 tag { status := .done, data := [BitVec.ofNat 8 n] } s).link with
            sources := s.transmit.link.sources ||| (1#12 <<< m) ||| (1#12 <<< n) } }) ∧
  (∀ (addr tag : Byte) (body : List Byte) (m n : Nat) (p : Plate) (s : State), Ready addr s → OpenPasses body s →
      s.plate? m = some p → SamePage p.key (keyAt body 0) → Withdrawable p → m < 8 →
      (∀ i q, s.plate? i = some q → SamePage q.key (keyAt body 0) → Withdrawable q → i = m) →
      n < s.bays.length → (s.plate? n = none ∨ n = m) → (∀ i, i < n → s.plate? i ≠ none ∧ i ≠ m) →
      ∃ t, exec (.openPlate addr tag body) s = .next t ∧
        t.bays = (s.bays.set m none).set n (some (openedPlate body true)) ∧
        LetGo m p (answerTo 4 tag { status := .done, data := [BitVec.ofNat 8 n] } s) s t ∧
        t.link.outstanding = (requested 4 tag s).link.outstanding ∧
        t.link.sources = s.transmit.link.sources ||| (1#12 <<< m) ||| (1#12 <<< n))

/-- R4: the plate requests check the bay number and the key's ranges, then the plate; a refused request changes no state
but its own entry and answer. READ STRIPS and READ DEFECTS make the same checks first (R44, R157). -/
def Obligations.PlateRequestsNameTheirPlate : Prop :=
  ∀ (kind addr tag : Byte) (body : List Byte) (s : State), Ready addr s →
    ((6 ≤ kind.toNat ∧ kind.toNat ≤ 10 ∨ kind.toNat = 12) ∧ body.length = 6 ∨ kind.toNat = 11 ∧ body.length = 10) →
    (s.settings.bayMode.count ≤ byteAt body 0 ∨ ¬ KeyOk (keyAt body 1) →
      exec (frameOf kind addr tag body) s = .next (answered kind tag (only .badField) s)) ∧
    (byteAt body 0 < s.settings.bayMode.count → KeyOk (keyAt body 1) →
      (∀ p, s.plate? (byteAt body 0) = some p → p.key ≠ keyAt body 1) →
      exec (frameOf kind addr tag body) s = .next (answered kind tag (only .noSuchPlate) s))

/-- R29 to R33: the six admission checks of a STRIP BLOCK at the unit address, in order, and its admission at the tail of
the Intake Queue. -/
def Obligations.StripBlockAdmissionInOrder : Prop :=
  ∀ (addr tag : Byte) (body : List Byte) (s : State), Ready addr s →
    let key := keyAt body 0
    let sound := 19 ≤ body.length ∧ crc16 (body.take 17) = BitVec.ofNat 16 (u16At body 17) ∧ byteAt body 7 ≤ 1
    let foreign := byteAt body 7 = 1 ∧
      (BitVec.ofNat 16 (u16At body 8) ^^^ s.settings.zoneCode) &&& s.settings.zoneMask ≠ 0
    let bare := fun (st : Status) => answered 5 tag (only st) s
    (¬ sound → exec (.stripBlock addr tag body) s = .next (bare .badBlock)) ∧
    (sound → foreign → (∀ n p, s.plate? n = some p → p.key ≠ key) →
      exec (.stripBlock addr tag body) s = .next (bare .notForZone)) ∧
    (∀ n p, sound → foreign → s.plate? n = some p → p.key = key →
      (∀ m q, s.plate? m = some q → q.key = key → m = n) →
      exec (.stripBlock addr tag body) s = .next { bare .notForZone with
        bays := s.bays.set n (some { p with zoneIgnored := min (p.zoneIgnored + 1) 65535 }) }) ∧
    (sound → ¬ foreign → (∀ n p, s.plate? n = some p → p.key ≠ key) →
      exec (.stripBlock addr tag body) s = .next (bare .noSuchPlate)) ∧
    (∀ n p, sound → ¬ foreign → s.plate? n = some p → p.key = key →
      (∀ m q, s.plate? m = some q → q.key = key → m = n) →
      (p.state ≠ .filling → exec (.stripBlock addr tag body) s = .next (bare .late)) ∧
      (p.state = .filling → p.strips.length ≤ u16At body 5 ∨ 16 < byteAt body 10 →
        exec (.stripBlock addr tag body) s = .next (bare .badField)) ∧
      (p.state = .filling → u16At body 5 < p.strips.length → byteAt body 10 ≤ 16 →
        (32 ≤ s.intake.queue.length ∨ 262144 < s.charged + (body.length - 19) →
          exec (.stripBlock addr tag body) s = .next (bare .queueFull)) ∧
        (s.intake.queue.length < 32 → s.charged + (body.length - 19) ≤ 262144 →
          exec (.stripBlock addr tag body) s = .next { bare .accepted with
            intake := { s.intake with queue := s.intake.queue ++
              [{ key := key, strip := u16At body 5, zone := if byteAt body 7 = 0 then .common else .variant,
                 zoneCode := BitVec.ofNat 16 (u16At body 8), windows := byteAt body 10,
                 codeLength := u16At body 11, bodyCheck := BitVec.ofNat 32 (u32At body 13),
                 headerCheck := BitVec.ofNat 16 (u16At body 17), body := body.drop 19 }] } })))

/-- R34, R87, R158, R170, R179: a STRIP BLOCK, LOAD SCREEN, LOAD CURVE or SET INSPECTION sent to the broadcast address has
the effect of the addressed one on every block but the link, and the link gives it no entry and no answer, a full table
making no difference. A broadcast RESET FULL resets the unit at once; a broadcast RESET PLATES clears the plate work and
answers it in the order of its entries (log entry 38), with no entry and no DONE of its own (the premise on a calibration that
has its 16 lines is log entry 32, the inspection source and weak count of one abandoned log entry 21); any other body of a
broadcast RESET does nothing. -/
def Obligations.BroadcastActsUnanswered : Prop :=
  (∀ (kind addr tag : Byte) (body : List Byte) (s : State), Ready addr s →
    (kind.toNat = 5 ∨ kind.toNat = 13 ∨ kind.toNat = 14 ∨ kind.toNat = 19) →
    ∃ t, exec (frameOf kind addr tag body) s = .next t ∧
      exec (frameOf kind 0x0F tag body) s = .next { t with link := s.transmit.link }) ∧
  (∀ (kind tag : Byte) (body : List Byte) (s : State), s.link.receiver = .hunting → s.link.fullReset = none →
    (kind.toNat = 5 ∨ kind.toNat = 13 ∨ kind.toNat = 14 ∨ kind.toNat = 19) →
    ∃ t, exec (frameOf kind s.link.addrByte tag body) { s with link := { s.link with outstanding := [] } } = .next t ∧
      exec (frameOf kind 0x0F tag body) s = .next { t with link := s.transmit.link }) ∧
  (∀ (tag : Byte) (s : State), s.link.receiver = .hunting → s.link.fullReset = none →
    ∃ t, exec (.resetFull 0x0F tag [0]) s = .next t ∧ LinkReset .full s.link.straps t ∧ BlocksReset s t) ∧
  (∀ (tag : Byte) (s : State), s.link.receiver = .hunting → s.link.fullReset = none → s.link.TablesFit →
    (∀ c, s.inspection.work = .calibrating c → c.lines < 16) →
    ∃ t, exec (.resetPlates 0x0F tag [1]) s = .next t ∧ PlatesCleared s t ∧
      t.link.outstanding = s.link.outstanding ∧
      t.link.answers = s.transmit.link.answers ++ plateWork s s.link.outstanding) ∧
  (∀ (tag : Byte) (body : List Byte) (s : State), s.link.receiver = .hunting → s.link.fullReset = none →
    body ≠ [0] → body ≠ [1] → exec (.resetFull 0x0F tag body) s = .next s.transmit)

/-- R9, R10: APPROVE PLATE refuses a bay not FILLING and a second held approval; with no write into the bay pending it
is judged at once: DAMAGE OPEN under HOLD with a strip not GOOD, the decoder going on with the bay's blocks; else QUEUED at
the head (replate) or the tail, the decoder abandoning a buffer BUILDING for the bay (R67), and in AUTO mode with the start
conditions true a start takes the head of the queue (R120). -/
def Obligations.ApprovePlateJudged : Prop :=
  ∀ (addr tag : Byte) (body : List Byte) (n : Nat) (p : Plate) (s : State), Ready addr s → body.length = 6 →
    Names body s n p →
    (p.state ≠ .filling → exec (.approvePlate addr tag body) s = .next (answered 6 tag (only .wrongState) s)) ∧
    (p.state = .filling → p.approvalHeld = true →
      exec (.approvePlate addr tag body) s = .next (answered 6 tag (only .busy) s)) ∧
    (p.state = .filling → p.approvalHeld = false → NoPendingWrite n s →
      (p.policy = .hold → (∃ r ∈ p.strips, r.state ≠ .good) →
        exec (.approvePlate addr tag body) s = .next (answered 6 tag (only .damageOpen) s)) ∧
      ((p.policy = .hold ∧ (∀ r ∈ p.strips, r.state = .good) ∨
          p.policy = .hatch ∧ ∀ r ∈ p.strips, r.state ≠ .absent) →
        EndsAuto (exec (.approvePlate addr tag body) s) { abandoned n (answered 6 tag (only .done) s) with
          bays := s.bays.set n (some { p with state := .queued })
          approvalQueue := if p.replate then n :: s.approvalQueue else s.approvalQueue ++ [n]
          link := { (answered 6 tag (only .done) s).link with
            sources := s.transmit.link.sources ||| (1#12 <<< n) } }))

/-- R9, R93, R94: an APPROVE PLATE under HATCH with an ABSENT strip makes the bay APPROVING and stays unanswered; the decoder
abandons a buffer BUILDING for the bay (R67), an IDLE filler begins at the lowest ABSENT strip, asking its first burst at once,
also while a burst of a fill it stopped is in service (the model's choice, log entry 43), and a busy one puts the bay at the end
of its list. A buffer WRITING into the bay, or with none WRITING one READY for it, holds the
approval instead, unanswered; in the second case the bay's buffer first in READY order is let through (R66; log entry 15). -/
def Obligations.ApprovePlateLeftUnanswered : Prop :=
  ∀ (addr tag : Byte) (body : List Byte) (n : Nat) (p : Plate) (s : State), Ready addr s → body.length = 6 →
    Names body s n p → p.state = .filling → p.approvalHeld = false →
    let heldBay := some { p with approvalHeld := true, approveEntry := some s.link.freeSlot }
    (NoPendingWrite n s → p.policy = .hatch → (∃ r ∈ p.strips, r.state = .absent) →
      ∃ t, exec (.approvePlate addr tag body) s = .next t ∧ HandedToFiller n p s t ∧
        t = { abandoned n (requested 6 tag s) with
          bays := s.bays.set n (some { p with state := .approving, approveEntry := some s.link.freeSlot })
          link := { (requested 6 tag s).link with sources := s.transmit.link.sources ||| (1#12 <<< n) }
          filler := t.filler, store := t.store } ∧ t.store.memory = s.store.memory) ∧
    ((∃ b ∈ s.decoder.buffers, b.forBay n = true ∧ b.isWriting = true) →
      exec (.approvePlate addr tag body) s = .next { requested 6 tag s with bays := s.bays.set n heldBay }) ∧
    (∀ (first rest : List Nat) (i : Nat) (ctx : StripContext) (lines : List Line) (through : Bool),
      (∀ b ∈ s.decoder.buffers, b.forBay n = true → b.isWriting = false) →
      s.decoder.readyOrder = first ++ i :: rest → s.decoder.buffers[i]? = some (.ready ctx lines through) → ctx.bay = n →
      (∀ j ∈ first, ∀ b, s.decoder.buffers[j]? = some b → b.forBay n = false) →
      exec (.approvePlate addr tag body) s = .next { requested 6 tag s with
        bays := s.bays.set n heldBay
        decoder := { s.decoder with buffers := s.decoder.buffers.set i (.ready ctx lines true) } })

/-- R21, R8: RELEASE PLATE frees a FILLING, APPROVING, QUEUED or HELD bay and is answered DONE; an EXPOSING, EXPOSED or
INSPECTING bay is answered BUSY with no effect. Freed, a FILLING bay has the decoder abandon
its buffers, the other bays' and the READY order staying (R67), the Screening Unit stop (R70) and the strip writer's burst
withdrawn (R109); a QUEUED one keeps no place in the approval queue; an APPROVE PLATE held or pending is answered WITHDRAWN, ahead of the release's DONE (log entry 35); the
fill of an APPROVING bay stops, and the filler goes on to the next bay of its list (R96), asking its first burst at once (log
entry 43). -/
def Obligations.ReleasePlateFreesBay : Prop :=
  ∀ (addr tag : Byte) (body : List Byte) (n : Nat) (p : Plate) (s : State), Ready addr s → body.length = 6 →
    Names body s n p → n < 8 →
    (p.state = .exposing ∨ p.state = .exposed ∨ p.state = .inspecting →
      exec (.releasePlate addr tag body) s = .next (answered 7 tag (only .busy) s)) ∧
    (p.state = .filling ∨ p.state = .approving ∨ p.state = .queued ∨ p.state = .held →
      ∃ t, exec (.releasePlate addr tag body) s = .next t ∧ t.bays = s.bays.set n none ∧
        LetGo n p (answerTo 7 tag (only .done) s) s t)

/-- R12: PRIORITY PLATE moves a QUEUED bay to the head of the approval queue and keeps the order of the others; a bay in
any other state is answered WRONG STATE. -/
def Obligations.PriorityPlateMovesToHead : Prop :=
  ∀ (addr tag : Byte) (body : List Byte) (n : Nat) (p : Plate) (s : State), Ready addr s → body.length = 6 →
    Names body s n p →
    (p.state = .queued → exec (.priorityPlate addr tag body) s = .next { answered 8 tag (only .done) s with
      approvalQueue := n :: s.approvalQueue.filter fun m => decide (m ≠ n) }) ∧
    (p.state ≠ .queued → exec (.priorityPlate addr tag body) s = .next (answered 8 tag (only .wrongState) s))

/-- R22: REEXPOSE PLATE of a HELD bay not superseded clears verdict, defects, untracked runs and due mark and queues the
bay at the tail, keeping outcome and count, and in AUTO mode with the start conditions true a start takes the head of the
queue (R120); superseded it is answered STALE VERSION, not HELD it is answered WRONG STATE. -/
def Obligations.ReexposePlateQueuesAgain : Prop :=
  ∀ (addr tag : Byte) (body : List Byte) (n : Nat) (p : Plate) (s : State), Ready addr s → body.length = 6 →
    Names body s n p →
    let superseded := ∃ m q, s.plate? m = some q ∧ SamePage q.key p.key ∧ p.key.version < q.key.version
    (p.state ≠ .held → exec (.reexposePlate addr tag body) s = .next (answered 9 tag (only .wrongState) s)) ∧
    (p.state = .held → superseded →
      exec (.reexposePlate addr tag body) s = .next (answered 9 tag (only .staleVersion) s)) ∧
    (p.state = .held → ¬ superseded →
      EndsAuto (exec (.reexposePlate addr tag body) s) { answered 9 tag (only .done) s with
        bays := s.bays.set n (some { p with
          state := .queued, verdict := .none, defects := [], untracked := 0, autoDue := false })
        approvalQueue := s.approvalQueue ++ [n]
        link := { (answered 9 tag (only .done) s).link with
          sources := s.transmit.link.sources ||| (1#12 <<< n) } })

/-- R23, R44, R45, R157, R164, R178 and section 10.9: the five reads answer DONE with their records as the state stands and
change nothing else. The plate record, the strip records, the defect list with its trailer, the status record and the lines
record stand whole as section 10.9 lays them out (fields that do not apply: log entry 24). R98 to R100: so does the damage
summary, which a bay notice reports after bay number and state, with the damage class worked out from them; a FREE bay's reads
zero or none. -/
def Obligations.ReadsAnswerAndChangeNothing : Prop :=
  ∀ (addr tag : Byte) (s : State), Ready addr s →
    exec (.readStatus addr tag []) s =
      .next (answered 2 tag { status := .done, data := (requested 2 tag s).statusRecord } s) ∧
    exec (.readLines addr tag []) s = .next (answered 21 tag { status := .done, data := s.linesRecord } s) ∧
    StatusReads (requested 2 tag s) (requested 2 tag s).statusRecord ∧
    (s.lines.inputs.length = 8 → LinesRead s s.linesRecord) ∧
    (∀ n, n < 8 → s.plate? n = none →
      s.noticeBody n = [BitVec.ofNat 8 n, 0] ++ List.replicate 16 0 ++ [0xFF, 0xFF] ++ List.replicate 15 0) ∧
    ∀ (body : List Byte) (n : Nat) (p : Plate), Names body s n p →
      PlateRecordReads n p (p.record n) ∧ SummaryReads p p.summary ∧
      (∃ code : Byte, plateStates[code.toNat]? = some (some p.state) ∧
        s.noticeBody n = [BitVec.ofNat 8 n, code] ++ p.summary) ∧
      (body.length = 6 → exec (.readPlate addr tag body) s =
        .next (answered 10 tag { status := .done, data := p.record n } s)) ∧
      (body.length = 6 → p.state = .held → exec (.readDefects addr tag body) s =
        .next (answered 12 tag { status := .done, data := p.defectRecords } s)) ∧ DefectsRead p p.defectRecords ∧
      (body.length = 6 → p.state ≠ .held → exec (.readDefects addr tag body) s =
        .next (answered 12 tag (only .wrongState) s)) ∧
      (body.length = 10 → (p.strips.length ≤ u16At body 6 ∨ u16At body 8 < 1 ∨ 768 < u16At body 8) →
        exec (.readStrips addr tag body) s = .next (answered 11 tag (only .badField) s)) ∧
      (body.length = 10 → u16At body 6 < p.strips.length → 1 ≤ u16At body 8 → u16At body 8 ≤ 768 →
        exec (.readStrips addr tag body) s =
          .next (answered 11 tag { status := .done, data := p.stripRecords (u16At body 6) (u16At body 8) } s) ∧
        StripsRead p (u16At body 6) (u16At body 8) (p.stripRecords (u16At body 6) (u16At body 8)))

/-! ### The Strip Decoder, the Screening Unit and the Hatch Filler -/

/-- R38, R41: a taken block whose plate is not resident, not FILLING or too short for its strip is dropped and counted;
one that R40 judges a duplicate or ignores is finished with and counted at its bay. Nothing else changes. R37: while a body
is being decoded, no buffer is FREE or a write of the same plate key and strip is in progress, the block stays in the queue,
and nothing changes. -/
def Obligations.BlockTakeDropsOrDiscards : Prop :=
  (∀ (b : Block) (rest : List Block) (s : State), s.intake.queue = b :: rest → ¬ MayTake b s →
    exec .blockTake s = .next s.transmit) ∧
  (∀ s : State, s.intake.queue = [] → exec .blockTake s = .next s.transmit) ∧
  ∀ (b : Block) (rest : List Block) (s : State), s.intake.queue = b :: rest → MayTake b s →
    ((∀ n p, s.plate? n = some p → p.key = b.key → p.state ≠ .filling ∨ p.strips.length ≤ b.strip) →
      exec .blockTake s = .next { s.transmit with
        intake := { queue := rest, dropped := min (s.intake.dropped + 1) 65535 } }) ∧
    (∀ n p r, s.plate? n = some p → p.key = b.key → (∀ m q, s.plate? m = some q → q.key = b.key → m = n) →
      p.state = .filling → p.strips[b.strip]? = some r →
      (r.state = .good ∧ ¬ (r.source = .common ∧ b.zone = .variant) ∨
        r.state = .damaged ∧ r.variantSeen = true ∧ b.zone = .common) →
      exec .blockTake s = .next { s.transmit with
        bays := s.bays.set n (some { p with duplicates := min (p.duplicates + 1) 65535 })
        intake := { s.intake with queue := rest } })

/-- R40, R50, R51, R55: a taken block that R40 decodes is bound to the lowest-numbered FREE buffer (log entry 16). That the
body check, the line art and the windows up to the first one applied all fall within BLOCK_TAKE is the model's choice (log
entry 22). A body that fails its check ends the decode at CHECK, and faulty line art with its fault and the lines that the
tokens before it wrote (R53). Sound line art goes on with the windows (R58 to R61): the first that fails a validation ends the
decode with WINDOW FORM, WINDOW SLOT or WINDOW DATA (a record not wholly within the body being WINDOW DATA first: log entry
13), the first that passes and reaches the plate is taken up by the Screening Unit, and with none left the decode has ended.
While the decoder may not take the block nothing changes (BlockTakeDropsOrDiscards). -/
def Obligations.BlockTakeDecodes : Prop :=
  ∀ (b : Block) (rest : List Block) (n i : Nat) (p : Plate) (r : StripRecord) (s : State),
    s.intake.queue = b :: rest → MayTake b s → s.plate? n = some p → p.key = b.key →
    (∀ m q, s.plate? m = some q → q.key = b.key → m = n) → p.state = .filling → p.strips[b.strip]? = some r →
    (r.state = .absent ∨ r.state = .good ∧ r.source = .common ∧ b.zone = .variant ∨
      r.state = .damaged ∧ (r.variantSeen = false ∨ b.zone = .variant)) →
    s.decoder.buffers[i]? = some .free → (∀ j, j < i → s.decoder.buffers[j]? ≠ some .free) →
    let ctx : StripContext :=
      { bay := n, key := b.key, strip := b.strip, zone := b.zone, w := p.w, screenSet := p.screenSet,
        curveSet := p.curveSet, content := .image, cause := .none }
    let bound := fun (lines : List Line) (cause : FaultCause) =>
      ({ s.transmit with
          intake := { s.intake with queue := rest }
          decoder := { s.decoder with
            buffers := s.decoder.buffers.set i (.building ctx b lines (.ended cause)) } } : State)
    (crc32 b.body ≠ b.bodyCheck → exec .blockTake s = .next (bound [] .check)) ∧
    (∀ cause lines, crc32 b.body = b.bodyCheck → lineArt p.w b.codeLength b.body = .error (cause, lines) →
      exec .blockTake s = .next (bound lines cause)) ∧
    (∀ lines, crc32 b.body = b.bodyCheck → lineArt p.w b.codeLength b.body = .ok lines →
      WindowsFrom (exec .blockTake s) i ctx b lines 0 { s.transmit with intake := { s.intake with queue := rest } })

/-- R53 to R57: line art is read from the first token of the code area, at line 0 and x 0 with a white reference line. WHITE,
BLACK, COPY and REST write their dots from x on and close a line that reaches W, REPEAT adds lines equal to the reference
line, and END at line 64 completes the line art; the first test of R56 that fails, or a code area at its end, gives the fault
and the lines as the tokens before it left them. Line art that reaches END is 64 whole lines, with no dot at or beyond W; with
a fault, the tokens before it wrote at most 64 lines, and no dot at or beyond W. -/
def Obligations.LineArtFillsTheStrip : Prop :=
  (∀ (w codeLength : Nat) (body : List Byte), lineArt w codeLength body =
    readArt w { done := [], cur := 0, x := 0, ref := 0 } (body.take codeLength)) ∧
  (∀ (w : Nat) (a : Art) (kind hi lo : Byte) (rest : List Byte), w ≤ 32768 → a.x < w →
    let n := hi.toNat * 256 + lo.toNat
    let read := readArt w a (kind :: hi :: lo :: rest)
    let written := if a.x = 0 then a.done else a.done ++ [a.cur]
    (tokenFault w kind.toNat n a ≠ .none → read = .error (tokenFault w kind.toNat n a, written)) ∧
    (tokenFault w kind.toNat n a = .none →
      (kind.toNat = 1 → ∃ a', Wrote w n (fun _ => false) a a' ∧ read = readArt w a' rest) ∧
      (kind.toNat = 2 → ∃ a', Wrote w n (fun _ => true) a a' ∧ read = readArt w a' rest) ∧
      (kind.toNat = 3 → ∃ a', Wrote w n a.ref.getLsbD a a' ∧ read = readArt w a' rest) ∧
      (kind.toNat = 4 → ∃ a', Wrote w (w - a.x) a.ref.getLsbD a a' ∧ read = readArt w a' rest) ∧
      (kind.toNat = 5 → read = readArt w { a with done := a.done ++ List.replicate n a.ref } rest) ∧
      (kind.toNat = 6 → read = .ok a.done)) ∧
    ∀ short : List Byte, short.length < 3 → readArt w a short = .error (.truncated, written)) ∧
  (∀ (w codeLength : Nat) (body : List Byte) (lines : List Line), 1 ≤ w → w ≤ 32768 →
    lineArt w codeLength body = .ok lines →
    lines.length = 64 ∧ ∀ l ∈ lines, ∀ x, w ≤ x → l.getLsbD x = false) ∧
  (∀ (w codeLength : Nat) (body : List Byte) (cause : FaultCause) (lines : List Line), 1 ≤ w → w ≤ 32768 →
    lineArt w codeLength body = .error (cause, lines) →
    cause ≠ .none ∧ lines.length ≤ 64 ∧ ∀ l ∈ lines, ∀ x, w ≤ x → l.getLsbD x = false)

/-- R63, R90: at the end of a decode the buffer is READY behind those already so, with its image, or with the hatch and
the fault as its cause; the hatch is black where (x + y) mod 32 is 0 or 1. -/
def Obligations.DecodeEndMakesReady : Prop :=
  (∀ (i : Nat) (ctx : StripContext) (b : Block) (lines : List Line) (cause : FaultCause) (s : State),
    s.decoder.buffers[i]? = some (.building ctx b lines (.ended cause)) →
    (∀ j, j < i → (s.decoder.buffers[j]?).map StripBuffer.isBuilding = some false) →
    exec .decodeEnd s = .next { s.transmit with decoder := {
      buffers := s.decoder.buffers.set i (if cause = .none then .ready ctx lines false
        else .ready { ctx with content := .hatch, cause := cause } (hatchLines ctx.w ctx.strip) false)
      readyOrder := s.decoder.readyOrder ++ [i] } }) ∧
  (∀ w strip line x, w ≤ 32768 → line < 64 → x < w →
    ((hatchLines w strip).getD line 0).getLsbD x = decide ((x + (64 * strip + line)) % 32 ≤ 1)) ∧
  (∀ w strip j p, 64 ≤ w → p < 64 →
    (hatchWord w strip j).getLsbD p =
      decide ((64 * (j % (w / 64)) + p + (64 * strip + j / (w / 64))) % 32 ≤ 1))

/-- R62, R69, R79: when a window is applied, every dot of its clipped area not yet set is the merge of the buffer's dot with
the photo dot, every other dot is as it was, the Screening Unit is IDLE, and the decoder goes on with the next window, the
last one ending the decode (R58 to R61; log entry 13 as in BlockTakeDecodes). That all these dots are set, and the next
windows judged, within WINDOW_APPLIED is the model's choice (log entry 22). -/
def Obligations.WindowAppliedMergesPhoto : Prop :=
  ∀ (c : WindowContext) (ctx : StripContext) (b : Block) (lines : List Line) (k : Nat) (sc : Screen) (s : State),
    s.screening.work = some c → s.decoder.buffers[c.buffer]? = some (.building ctx b lines (.applying k)) →
    s.screening.screens[c.window.screen]? = some (some sc) → k < b.windows → c.w ≤ 32768 →
    ∃ lines' : List Line,
      WindowsFrom (exec .windowApplied s) c.buffer ctx b lines' (k + 1)
        { s.transmit with screening := { s.screening with work := none } } ∧
      lines'.length = lines.length ∧
      ∀ line x, line < lines.length → x < c.w →
        (lines'.getD line 0).getLsbD x =
          if c.window.y0 ≤ line ∧ line < c.yEnd ∧ c.window.x0 ≤ x ∧ x < c.xEnd ∧ (x, line) ∉ c.dotsSet then
            (let photo := sc.black (tone (s.screening.curves.getD c.window.curve [])
                (sampleDensity b.body c.window
                  ((line - c.window.y0) / c.window.side * c.window.width + (x - c.window.x0) / c.window.side)))
                x (64 * c.strip + line)
             match c.window.merge with
             | .replace => photo
             | .union => (lines.getD line 0).getLsbD x || photo)
          else (lines.getD line 0).getLsbD x

/-- R64: with no buffer WRITING, the buffer first in READY order becomes WRITING and asks the strip's first burst, 8 words
from bay base + strip·W, at once, also while a burst of a write it abandoned is in service: the model's choice, R104 letting a
writer ask when its previous burst has been served (log entry 43). While a buffer is WRITING, and with none READY, nothing
starts. R66: a held approval holds back its
bay's buffers, and those behind them in READY order, but for the one let through (log entry 15). -/
def Obligations.StripWriteStartsInReadyOrder : Prop :=
  (∀ (i : Nat) (rest : List Nat) (ctx : StripContext) (lines : List Line) (through : Bool) (s : State),
    (∀ b ∈ s.decoder.buffers, b.isWriting = false) → s.decoder.readyOrder = i :: rest →
    s.decoder.buffers[i]? = some (.ready ctx lines through) →
    (through = true ∨ ∀ p, s.plate? ctx.bay = some p → p.approvalHeld = false) →
    ∃ ws : List StoreWord, exec .stripWriteStart s = .next { s.transmit with
        decoder := { buffers := s.decoder.buffers.set i (.writing ctx lines 0), readyOrder := rest }
        store := Store.grant { s.store with writer := s.store.writer ++
          [(.decoder, { addr := s.bayBase ctx.bay + ctx.strip * ctx.w, write := some ws })] } } ∧
      ws.length = 8 ∧ ∀ j, j < 8 → ws[j]? = some (stripWord lines ctx.w j)) ∧
  (∀ (i : Nat) (rest : List Nat) (ctx : StripContext) (lines : List Line) (p : Plate) (s : State),
    s.decoder.readyOrder = i :: rest → s.decoder.buffers[i]? = some (.ready ctx lines false) →
    s.plate? ctx.bay = some p → p.approvalHeld = true → exec .stripWriteStart s = .next s.transmit) ∧
  (∀ s : State, (∃ b ∈ s.decoder.buffers, b.isWriting = true) ∨ s.decoder.readyOrder = [] →
    exec .stripWriteStart s = .next s.transmit)

/-- R42, R65: when a strip write's last burst has been served, the strip record takes the result, the bay's source is set
and the buffer is FREE. R37, R38: the decoder's waiting take is then made, against that record, before a held approval of the
bay is judged or after it, as the operand of STRIP_WRITE_COMPLETE says (the model's, log entry 9). The approval is judged
against the strip table (R9, R66): DAMAGE OPEN, the bay's other buffer staying as it is; QUEUED with its answer DONE, or
APPROVING, unanswered and handed to the filler (R93; its burst's place: log entries 43, 44), that buffer being abandoned (R67),
with a block just taken. Where the approval came first and took the bay out of FILLING, a waiting block of its plate that the
decoder may take is dropped and counted (R38). -/
def Obligations.StripWriteRecordsItsResult : Prop :=
  ∀ (i : Nat) (ctx : StripContext) (lines : List Line) (served : Nat) (p : Plate) (r : StripRecord)
    (s : State), s.decoder.buffers[i]? = some (.writing ctx lines served) →
    (∀ j, j < i → (s.decoder.buffers[j]?).map StripBuffer.isWriting = some false) → ctx.w / 8 ≤ served →
    s.plate? ctx.bay = some p → p.strips[ctx.strip]? = some r →
    let strips := p.strips.set ctx.strip
      { state := if ctx.content = .image then .good else .damaged, source := ctx.zone,
        variantSeen := r.variantSeen || decide (ctx.zone = .variant),
        cause := if ctx.content = .image then .none else ctx.cause }
    let recorded : State := { s.transmit with
      bays := s.bays.set ctx.bay (some { p with strips := strips })
      decoder := { s.decoder with buffers := s.decoder.buffers.set i .free }
      link := { s.transmit.link with sources := s.transmit.link.sources ||| (1#12 <<< ctx.bay) } }
    (∀ takeFirst : Bool, p.approvalHeld = false →
      (∃ u, Takes recorded u ∧ exec (.stripWriteComplete takeFirst) s = .next u) ∧
      (s.intake.queue = [] → exec (.stripWriteComplete takeFirst) s = .next recorded)) ∧
    (∀ (takeFirst : Bool) (k : Nat) (e : Entry), p.approvalHeld = true → p.approveEntry = some k →
      s.link.outstanding.find? (fun x => decide (x.slot = k)) = some e →
      (∀ j b, j ≠ i → s.decoder.buffers[j]? = some b → b.isWriting = false) →
      ∃ (u : State) (duplicates : Nat), (if takeFirst then Takes recorded u else u = recorded) ∧
        u.plate? ctx.bay = some { p with strips := strips, duplicates := duplicates } ∧
        (s.intake.queue = [] → u = recorded) ∧
        let q : Plate := { p with
          strips := strips, duplicates := duplicates, approvalHeld := false, approveEntry := none }
        let judged := fun (q : Plate) (answers : List Answer) => ({ u with
          bays := u.bays.set ctx.bay (some q)
          link := { u.link with answers := u.link.answers ++ answers } } : State)
        let answer := fun (st : Status) =>
          ({ slot := some k, kind := kindOfAnswer e.kind, tag := e.tag, reply := only st } : Answer)
        (p.policy = .hold → (∃ x ∈ strips, x.state ≠ .good) →
          TakenLast takeFirst (exec (.stripWriteComplete takeFirst) s) (judged q [answer .damageOpen])) ∧
        ((p.policy = .hold ∧ (∀ x ∈ strips, x.state = .good) ∨ p.policy = .hatch ∧ ∀ x ∈ strips, x.state ≠ .absent) →
          ∀ w, AutoTaken
              { abandoned ctx.bay (judged { q with state := .queued } [answer .done]) with
                approvalQueue := if p.replate then ctx.bay :: s.approvalQueue else s.approvalQueue ++ [ctx.bay] } w →
            TakenLast takeFirst (exec (.stripWriteComplete takeFirst) s) w) ∧
        (p.policy = .hatch → (∃ x ∈ strips, x.state = .absent) →
          ∃ t : State, TakenLast takeFirst (exec (.stripWriteComplete takeFirst) s) t ∧ HandedToFiller ctx.bay q s t ∧
            t = { abandoned ctx.bay (judged { q with state := .approving, approveEntry := some k } []) with
              filler := t.filler, store := t.store } ∧ t.store.memory = s.store.memory) ∧
        (∀ b rest, takeFirst = false → p.policy = .hatch ∨ (∀ x ∈ strips, x.state = .good) →
          s.intake.queue = b :: rest → b.key = p.key → (∀ m q, s.plate? m = some q → q.key = p.key → m = ctx.bay) →
          (∀ j x, j ≠ i → s.decoder.buffers[j]? = some x → x = .free ∨ x.forBay ctx.bay = true) →
          ∃ t : State, exec (.stripWriteComplete takeFirst) s = .next t ∧
            t.intake = { queue := rest, dropped := min (s.intake.dropped + 1) 65535 }))

/-- R94, R95: a hatch strip whose last burst has been served is MISSING and sets its bay's source; with an ABSENT strip
above it the filler goes on there, asking that strip's first burst, and with none the fill is complete: the bay is QUEUED, its
APPROVE PLATE is answered DONE, and in AUTO mode with the start conditions true a start takes the head of the approval queue
(R120), its burst asked ahead of the filler's (log entry 45). Then the filler is IDLE with an empty fill list, and otherwise begins the bay at the head of the list. -/
def Obligations.HatchStripGoesOnOrCompletes : Prop :=
  ∀ (f : FillContext) (p : Plate) (s : State), s.filler.fill = some f → f.w / 8 ≤ f.served → s.plate? f.bay = some p →
    f.strip < p.strips.length → f.bay < 8 →
    let record : StripRecord := { state := .missing, source := .common, variantSeen := false, cause := .none }
    let strips := p.strips.set f.strip record
    (∀ i, f.strip < i → (p.strips[i]?).map StripRecord.state = some .absent →
      (∀ j, f.strip < j → j < i → (p.strips[j]?).map StripRecord.state ≠ some .absent) →
      ∃ ws : List StoreWord, exec .hatchStripComplete s = .next { s.transmit with
          bays := s.bays.set f.bay (some { p with strips := strips })
          filler := { s.filler with fill := (some { f with strip := i, requested := 1, served := 0 }) }
          link := { s.transmit.link with sources := s.transmit.link.sources ||| (1#12 <<< f.bay) }
          store := Store.grant { s.store with writer := s.store.writer ++
            [(.filler, { addr := s.bayBase f.bay + i * f.w, write := some ws })] } } ∧
        ws.length = 8 ∧ ∀ j, j < 8 → ws[j]? = some (hatchWord f.w i j)) ∧
    (∀ k e, (∀ i, f.strip < i → (p.strips[i]?).map StripRecord.state ≠ some .absent) → p.approveEntry = some k →
      s.link.outstanding.find? (fun x => decide (x.slot = k)) = some e →
      ∀ v, AutoTaken { s.transmit with
          bays := s.bays.set f.bay (some { p with strips := strips, state := .queued, approveEntry := none })
          approvalQueue := if p.replate then f.bay :: s.approvalQueue else s.approvalQueue ++ [f.bay]
          link := { s.transmit.link with
            sources := s.transmit.link.sources ||| (1#12 <<< f.bay)
            answers := s.transmit.link.answers ++
              [{ slot := some k, kind := kindOfAnswer e.kind, tag := e.tag, reply := only .done }] } } v →
        ∃ t, exec .hatchStripComplete s = .next t ∧ t = { v with filler := t.filler, store := t.store } ∧
          FillerGoesOn f.bay v.store s t)

/-- R101 to R103: the store word that a strip write puts a dot in is the one a pass fetch reads it from. -/
def Obligations.PassReadsTheDotWritten : Prop :=
  ∀ (ctx : StripContext) (lines : List Line) (key : PlateKey) (p : Plate) (line x : Nat) (s : State),
    64 ≤ ctx.w → ctx.w % 64 = 0 → ctx.w ≤ 32768 → line < 64 → x < ctx.w → s.plate? ctx.bay = some p → p.w = ctx.w →
    s.exposure.current = some (ctx.bay, key) →
    let y := 64 * ctx.strip + line
    let at_ := line * (ctx.w / 64) + x / 64
    let k := y % 32 * (ctx.w / 64) + x / 64
    (s.stripBurst ctx lines (at_ / 8)).addr + at_ % 8 = s.bayBase ctx.bay + y * (ctx.w / 64) + x / 64 ∧
    (s.passBurst (y / 32) (k / 8)).addr + k % 8 = s.bayBase ctx.bay + y * (ctx.w / 64) + x / 64 ∧
    (stripWord lines ctx.w at_).getLsbD (x % 64) = (lines.getD line 0).getLsbD x

/-- R71, R73, R74: a sample is its byte, or its two bytes most significant first, and its density is the segment expansion
of its code, rounded to nearest with halves up, or its value clamped. R76: a tone is the curve's point and the step toward the
next, floored. R78: a tile address is where the dot's exact coordinates lie in the tile, by remainders not negative. R79: the
dot is black where its tone exceeds the entry there. Densities lie in 0..4,095, a tone lies between the curve's two points, and
a tile address in the tile. -/
def Obligations.PhotoArithmeticStaysInRange : Prop :=
  (∀ c, c ≤ 255 → expandCompanded c ≤ 4095) ∧ (∀ v, expandLinear v ≤ 4095) ∧
  (∀ (curve : List Nat) (density : Nat),
    min (curve.getD (density / 64) 0 : Int) (curve.getD (density / 64 + 1) 0) ≤ tone curve density ∧
    tone curve density ≤ max (curve.getD (density / 64) 0 : Int) (curve.getD (density / 64 + 1) 0)) ∧
  (∀ (sc : Screen) (x y : Nat), 1 ≤ sc.side → (sc.address x y).1 < sc.side ∧ (sc.address x y).2 < sc.side) ∧
  (∀ segment mantissa, segment ≤ 7 → mantissa ≤ 31 →
    let v := mantissa * 2 ^ segment + 32 * (2 ^ segment - 1)
    let l := expandCompanded (32 * segment + mantissa)
    8032 * l ≤ 4095 * v + 4016 ∧ 4095 * v + 4016 < 8032 * (l + 1)) ∧
  (∀ v, (v ≤ 4095 → expandLinear v = v) ∧ (4095 < v → expandLinear v = 4095)) ∧
  (∀ (body : List Byte) (win : Window) (n : Nat) (b lo : Byte),
    (win.form = .companded8 → body[win.offset + n]? = some b → sampleDensity body win n = expandCompanded b.toNat) ∧
    (win.form = .linear12 → body[win.offset + 2 * n]? = some b → body[win.offset + 2 * n + 1]? = some lo →
      sampleDensity body win n = expandLinear (256 * b.toNat + lo.toNat))) ∧
  (∀ (curve : List Nat) (k f p q : Nat), f < 64 → curve[k]? = some p → curve[k + 1]? = some q →
    let d : Int := (q : Int) - p
    let step : Int := tone curve (64 * k + f) - p
    64 * step ≤ d * f + 32 ∧ d * f + 32 < 64 * (step + 1)) ∧
  (∀ (sc : Screen) (x y : Nat), 1 ≤ sc.side →
    let lies := fun (e : Int) (i : Nat) =>
      ∃ turns rest : Int, e = turns * (sc.side * 65536) + rest ∧ 0 ≤ rest ∧ rest < sc.side * 65536 ∧
        65536 * i ≤ rest ∧ rest < 65536 * (i + 1)
    lies (x * sc.ax + y * sc.bx) (sc.address x y).1 ∧ lies (x * sc.ay + y * sc.bY) (sc.address x y).2) ∧
  (∀ (sc : Screen) (t : Int) (x y threshold : Nat),
    sc.tile[(sc.address x y).2 * sc.side + (sc.address x y).1]? = some threshold →
    (sc.black t x y = true ↔ (threshold : Int) < t))

/-- R80 to R85: a LOAD SCREEN or LOAD CURVE of wrong form is answered BAD FIELD, one that names a slot a FILLING bay
declares is answered IN USE, and any other replaces its slot whole, clamped. -/
def Obligations.LoadsReplaceUnprotectedSlots : Prop :=
  ∀ (addr tag : Byte) (body : List Byte) (s : State), Ready addr s →
    let slot := byteAt body 0
    let side := byteAt body 1
    let small := fun (at_ : Nat) => (s32At body at_).natAbs < side * 65536
    let screenOk := 18 ≤ body.length ∧ slot ≤ 7 ∧ 4 ≤ side ∧ side ≤ 64 ∧ body.length = 18 + 2 * (side * side) ∧
      small 2 ∧ small 6 ∧ small 10 ∧ small 14
    let screenHeld := ∃ n p, s.plate? n = some p ∧ p.state = .filling ∧ p.screenSet.getLsbD slot = true
    let curveOk := body.length = 131 ∧ slot ≤ 3
    let curveHeld := ∃ n p, s.plate? n = some p ∧ p.state = .filling ∧ p.curveSet.getLsbD slot = true
    (¬ screenOk → exec (.loadScreen addr tag body) s = .next (answered 13 tag (only .badField) s)) ∧
    (screenOk → screenHeld → exec (.loadScreen addr tag body) s = .next (answered 13 tag (only .inUse) s)) ∧
    (screenOk → ¬ screenHeld → exec (.loadScreen addr tag body) s = .next { answered 13 tag (only .done) s with
      screening := { s.screening with screens := (s.screening.screens.set slot (some
        { side := side, ax := s32At body 2, ay := s32At body 6, bx := s32At body 10, bY := s32At body 14,
          tile := (List.range (side * side)).map fun n => min (u16At body (18 + 2 * n)) 4094 })) } }) ∧
    (¬ curveOk → exec (.loadCurve addr tag body) s = .next (answered 14 tag (only .badField) s)) ∧
    (curveOk → curveHeld → exec (.loadCurve addr tag body) s = .next (answered 14 tag (only .inUse) s)) ∧
    (curveOk → ¬ curveHeld → exec (.loadCurve addr tag body) s = .next { answered 14 tag (only .done) s with
      screening := { s.screening with curves := (s.screening.curves.set slot
        ((List.range 65).map fun k => min (u16At body (1 + 2 * k)) 4095)) } })

/-- R85: no slot that a FILLING bay declares changes its contents in any step, of one frame at most, that leaves that bay
FILLING, nor as any one character is received (several frames completed in one step are their characters one after another:
ReceiverCountsDiscardedFrames, log entry 4). -/
def Obligations.DeclaredSlotsKeepTheirContents : Prop :=
  (∀ s t : State, OneFrame s → step s = .next t → SlotsKept s t) ∧ ∀ (c : Byte) (s : State), SlotsKept s (s.takeCharacter c)

/-! ### The Store Controller -/

/-- R101, R107: a burst inside the band store completes: a written burst's words are in place and every other word as it
was; a read burst changes no word and hands its 8 words to the pass fetch or the inspection fetch, a word never written
being a free value (log entry 5); the decoder and the filler count a burst served. A requester with words left asks its
next burst (R64, R94, R106, R116, R142), before the next grant or after it as the command's operand says (log entry 9). At the
last burst of a range (pass, expected line, strip, hatch strip) nothing more is asked here, so that this grant never goes to
the requester's next range: the model's choice (log entry 41). The burst of a requester that has stopped completes all the
same (R109): a write is in place, the words of a read are discarded, it is reported to nobody, no burst is asked for it, and the
store, IDLE, makes its next grant (R67, R96). A burst that reaches past the last word faults (the model's stop; no run asks
one). -/
def Obligations.BurstCompletesIntoStore : Prop :=
  (∀ (g live : Bool) (a : Asker) (b : Burst) (ws : List StoreWord) (s : State),
    s.store.service = .burst a b live → b.write = some ws → b.addr + 8 ≤ 67108864 →
    ∃ t, exec (.burstComplete g) s = .next t ∧
      (∀ addr, Memory.read t.store.memory addr =
        if b.addr ≤ addr ∧ addr < b.addr + ws.length then ws[addr - b.addr]? else Memory.read s.store.memory addr) ∧
      t.bays = s.bays ∧ t.settings = s.settings ∧ t.exposure.emitters = s.exposure.emitters ∧ t.lines = s.lines ∧
      t.link = s.transmit.link ∧ t.store.owed = s.store.owed ∧ t.approvalQueue = s.approvalQueue ∧
      t.inspectionQueue = s.inspectionQueue ∧ t.intake = s.intake ∧ t.screening = s.screening) ∧
  (∀ (g : Bool) (b : Burst) (q q' : Nat) (have_ : List StoreWord) (s : State),
    s.store.service = .burst .prefetch b true → b.write = none → b.addr + 8 ≤ 67108864 →
    s.exposure.prefetchPass = some q → s.exposure.buffers[q % 2]? = some (.fetching q' have_) →
    ∃ t, exec (.burstComplete g) s = .next t ∧ t.store.memory = s.store.memory ∧
      t.exposure = { s.exposure with buffers := (s.exposure.buffers.set (q % 2) (.fetching q' (have_ ++
        (List.range 8).map fun i => (Memory.read s.store.memory (b.addr + i)).getD
          (Config.undefinedWord s.store.seed (b.addr + i))))) } ∧
      t.bays = s.bays ∧ t.link = s.transmit.link ∧ t.settings = s.settings ∧ t.approvalQueue = s.approvalQueue ∧
      t.inspectionQueue = s.inspectionQueue ∧ t.intake = s.intake ∧ t.decoder = s.decoder ∧
      t.screening = s.screening ∧ t.filler = s.filler ∧ t.inspection = s.inspection ∧ t.lines = s.lines ∧
      (∀ n key p, s.exposure.current = some (n, key) → s.plate? n = some p →
        t.store = granted g (fun st => if have_.length + 8 < p.w / 2 then { st with prefetch := (some
            { addr := s.bayBase n + q * (p.w / 2) + 8 * ((have_.length + 8) / 8), write := none }) } else st)
          { s.store with seed := s.store.seed + 1, service := .idle })) ∧
  (∀ (g : Bool) (b : Burst) (y : Nat) (sc : Scan) (p : Plate) (have_ : List StoreWord) (s : State),
    s.store.service = .burst .inspect b true → b.write = none → b.addr + 8 ≤ 67108864 →
    s.inspection.work = .scanning sc → sc.expected = .fetching y have_ → s.plate? sc.bay = some p →
    let lineWords := s.settings.resolution.side * (p.w / 64)
    exec (.burstComplete g) s = .next { s.transmit with
      inspection := { s.inspection with work := .scanning { sc with expected := .fetching y (have_ ++
        (List.range 8).map fun i => (Memory.read s.store.memory (b.addr + i)).getD
          (Config.undefinedWord s.store.seed (b.addr + i))) } }
      store := granted g (fun st => if have_.length + 8 < lineWords then { st with inspect := (some
            { addr := s.bayBase sc.bay + y * lineWords + 8 * ((have_.length + 8) / 8), write := none }) } else st)
          { s.store with seed := s.store.seed + 1, service := .idle } }) ∧
  (∀ (g : Bool) (b : Burst) (ws : List StoreWord) (i : Nat) (ctx : StripContext) (lines : List Line) (served : Nat)
    (s : State), s.store.service = .burst .decoder b true → b.write = some ws → b.addr + 8 ≤ 67108864 →
    s.decoder.buffers[i]? = some (.writing ctx lines served) →
    (∀ j, j < i → (s.decoder.buffers[j]?).map StripBuffer.isWriting = some false) →
    exec (.burstComplete g) s = .next { s.transmit with
      decoder := { s.decoder with buffers := s.decoder.buffers.set i (.writing ctx lines (served + 1)) }
      store := granted g (fun st => if served + 1 < ctx.w / 8 then { st with writer := st.writer ++ [(.decoder,
            { addr := s.bayBase ctx.bay + ctx.strip * ctx.w + 8 * (served + 1)
              write := some ((List.range 8).map fun j => stripWord lines ctx.w (8 * (served + 1) + j)) })] } else st)
          { s.store with memory := Memory.writeWords s.store.memory b.addr ws, service := .idle } }) ∧
  (∀ (g : Bool) (b : Burst) (ws : List StoreWord) (f : FillContext) (s : State),
    s.store.service = .burst .filler b true → b.write = some ws → b.addr + 8 ≤ 67108864 → s.filler.fill = some f →
    exec (.burstComplete g) s = .next { s.transmit with
      filler := { s.filler with fill := some { f with
        served := f.served + 1
        requested := if f.requested < f.w / 8 then f.requested + 1 else f.requested } }
      store := granted g (fun st => if f.requested < f.w / 8 then { st with writer := st.writer ++ [(.filler,
            { addr := s.bayBase f.bay + f.strip * f.w + 8 * f.requested
              write := some ((List.range 8).map fun j => hatchWord f.w f.strip (8 * f.requested + j)) })] } else st)
          { s.store with memory := Memory.writeWords s.store.memory b.addr ws, service := .idle } }) ∧
  (∀ (g : Bool) (a : Asker) (b : Burst) (s : State), s.store.service = .burst a b false → b.addr + 8 ≤ 67108864 →
    (∀ ws, b.write = some ws → exec (.burstComplete g) s = .next { s.transmit with store := Store.grant { s.store with
      memory := Memory.writeWords s.store.memory b.addr ws, service := .idle } }) ∧
    (b.write = none → exec (.burstComplete g) s = .next { s.transmit with store := Store.grant { s.store with
      seed := s.store.seed + 1, service := .idle } })) ∧
  (∀ (g live : Bool) (a : Asker) (b : Burst) (s : State), s.store.service = .burst a b live →
    67108864 < b.addr + 8 → exec (.burstComplete g) s = .fault .outsideStore)

/-- R105, R106, R108: the end of a refresh interval raises the owed count and stops the timer at 8, with a grant if the
store is IDLE; a refresh lowers the count and, from 8, starts the timer, and the next grant follows, by the order that
ArbiterKeepsItsOrder states. -/
def Obligations.RefreshesAreCounted : Prop :=
  (∀ s : State, s.store.timer = true → s.store.owed < 8 → Serving s →
    exec .refreshTimer s = .next { s.transmit with store := { s.store with
      owed := s.store.owed + 1, timer := decide (s.store.owed + 1 < 8) } }) ∧
  (∀ s : State, s.store.timer = true → s.store.service = .idle → s.store.owed = 0 → s.store.prefetch = none →
    s.store.inspect = none → s.store.writer = [] →
    exec .refreshTimer s = .next { s.transmit with store := { s.store with owed := 1, service := .refresh } }) ∧
  (∀ s : State, s.store.timer = true → s.store.owed < 8 → exec .refreshTimer s = .next { s.transmit with
    store := Store.grant { s.store with owed := s.store.owed + 1, timer := decide (s.store.owed + 1 < 8) } }) ∧
  (∀ s : State, s.store.timer = false → exec .refreshTimer s = .next s.transmit) ∧
  (∀ s : State, s.store.service = .refresh → 1 ≤ s.store.owed → s.store.owed ≤ 8 →
    exec .refreshComplete s = .next { s.transmit with store := Store.grant { s.store with
      owed := s.store.owed - 1, timer := s.store.timer || decide (s.store.owed = 8), service := .idle } }) ∧
  (∀ s : State, s.store.service ≠ .refresh → exec .refreshComplete s = .next s.transmit)

/-- R106: at a grant refresh wins with 8 owed; otherwise the first that asks of exposure prefetch, inspection fetch, strip
writer and refresh; with nothing asked or owed, or while SERVING, nothing is granted. R109: a requester that stops loses its bursts not
yet granted, and one in service completes for it in vain; the others keep theirs. -/
def Obligations.ArbiterKeepsItsOrder : Prop :=
  (∀ st : Store, st.service = .idle → 8 ≤ st.owed → st.grant = { st with service := .refresh }) ∧
  (∀ (b : Burst) (st : Store), st.service = .idle → st.owed < 8 → st.prefetch = some b →
    st.grant = { st with service := .burst .prefetch b true, prefetch := none }) ∧
  (∀ (b : Burst) (st : Store), st.service = .idle → st.owed < 8 → st.prefetch = none → st.inspect = some b →
    st.grant = { st with service := .burst .inspect b true, inspect := none }) ∧
  (∀ (a : Asker) (b : Burst) (rest : List (Asker × Burst)) (st : Store), st.service = .idle → st.owed < 8 →
    st.prefetch = none → st.inspect = none → st.writer = (a, b) :: rest →
    st.grant = { st with service := .burst a b true, writer := rest }) ∧
  (∀ st : Store, st.service = .idle → st.prefetch = none → st.inspect = none → st.writer = [] → 1 ≤ st.owed →
    st.grant = { st with service := .refresh }) ∧
  (∀ st : Store, st.service = .idle → st.prefetch = none → st.inspect = none → st.writer = [] → st.owed = 0 →
    st.grant = st) ∧
  (∀ st : Store, st.service ≠ .idle → st.grant = st) ∧
  (∀ (a : Asker) (st : Store), ∃ service, st.stop a = { st with
      prefetch := if a = .prefetch then none else st.prefetch
      inspect := if a = .inspect then none else st.inspect
      writer := st.writer.filter fun e => decide (e.1 ≠ a)
      service := service } ∧
    (∀ x b live, st.service = .burst x b live → service = .burst x b (live && decide (x ≠ a))) ∧
    ((∀ x b live, st.service ≠ .burst x b live) → service = st.service))

/-! ### The Exposure Controller -/

/-- R118, R119: START EXPOSURE tests the four conditions in order; when all hold, the head of the approval queue becomes
EXPOSING and the current bay, LOADING begins with the fetch of pass 0, and the answer carries bay and key. In AUTO mode a
rise of L1 that finds them true, with the auto hold clear, takes the same start unanswered, and otherwise none (R120). -/
def Obligations.StartExposureJudged : Prop :=
  (∀ (addr tag : Byte) (s : State), Ready addr s →
    let ready := s.asserted 0 = true ∧ s.asserted 1 = true ∧ s.asserted 2 = true ∧ s.exposure.spent = false
    (s.exposure.state ≠ .idle →
      exec (.startExposure addr tag []) s = .next (answered 16 tag (only .busy) s)) ∧
    (s.exposure.state = .idle → s.approvalQueue = [] →
      exec (.startExposure addr tag []) s = .next (answered 16 tag (only .noPlate) s)) ∧
    (s.exposure.state = .idle → s.approvalQueue ≠ [] → 4 ≤ s.inspectionQueue.length →
      exec (.startExposure addr tag []) s = .next (answered 16 tag (only .processorFull) s)) ∧
    (s.exposure.state = .idle → s.approvalQueue ≠ [] → s.inspectionQueue.length < 4 → ¬ ready →
      exec (.startExposure addr tag []) s = .next (answered 16 tag (only .interlock) s)) ∧
    (∀ n rest p, s.exposure.state = .idle → s.approvalQueue = n :: rest → s.inspectionQueue.length < 4 → ready →
      s.plate? n = some p → 32 ≤ p.h → n < 8 →
      ∃ t, exec (.startExposure addr tag []) s = .next t ∧
        t.bays = s.bays.set n (some { p with state := .exposing }) ∧ t.approvalQueue = rest ∧
        t.inspectionQueue = s.inspectionQueue ∧ OffDrum s t ∧ t.lines = s.lines ∧
        t.exposure = { s.exposure with
          state := .loading, current := some (n, p.key), passCount := p.h / 32,
          passLength := p.w + s.exposure.skews.foldl max 0, passCounter := 0, position := 0, passOpen := false,
          prefetchPass := some 0, nextFetch := 1, buffers := [.fetching 0 [], .empty], autoHold := false } ∧
        t.store = Store.grant { s.store with prefetch := some { addr := s.bayBase n, write := none } } ∧
        t.link = { (answered 16 tag { status := .done, data := [BitVec.ofNat 8 n] ++ beKey p.key } s).link with
          sources := s.transmit.link.sources ||| (1#12 <<< n) ||| (1#12 <<< 8) })) ∧
  (∀ (l : InputLine) (s : State), s.lines.inputs[1]? = some l → l.edgeDue = true → l.raw = true → l.debounced = false →
    let u : State := { s with lines := { s.lines with inputs := s.lines.inputs.set 1 { l with debounced := true } } }
    (¬ AutoReady u ∨ s.approvalQueue = [] →
      ∃ t, exec (.inputEdge 1) s = .next t ∧ t.exposure = s.exposure ∧ t.bays = s.bays ∧
        t.approvalQueue = s.approvalQueue ∧ t.store = s.store ∧ t.inspectionQueue = s.inspectionQueue) ∧
    (∀ m rest q, AutoReady u → s.approvalQueue = m :: rest → s.plate? m = some q → 32 ≤ q.h →
      ∃ t, exec (.inputEdge 1) s = .next t ∧ t.exposure = startedExposure m q s.exposure ∧
        t.bays = s.bays.set m (some { q with state := .exposing }) ∧ t.approvalQueue = rest ∧
        t.store = Store.grant { s.store with prefetch := some { addr := s.bayBase m, write := none } } ∧
        t.inspectionQueue = s.inspectionQueue))

/-- R122, R129, R130: ABORT EXPOSURE refuses a bad field, then an exposure it does not name; otherwise it is answered
DONE, sets the auto hold and aborts with cause REQUESTED: in WRITING the plate is spoiled; before the first pass the bay goes
back to the head of the approval queue, or is freed if it is superseded (R8, R16). -/
def Obligations.AbortExposureJudged : Prop :=
  ∀ (addr tag : Byte) (body : List Byte) (s : State), Ready addr s → body.length = 6 →
    let n := byteAt body 0
    let key := keyAt body 1
    let ok := n < s.settings.bayMode.count ∧ KeyOk key
    (¬ ok → exec (.abortExposure addr tag body) s = .next (answered 17 tag (only .badField) s)) ∧
    (ok → (s.exposure.state = .idle ∨ s.exposure.current ≠ some (n, key)) →
      exec (.abortExposure addr tag body) s = .next (answered 17 tag (only .wrongState) s)) ∧
    (∀ p, ok → WritingBay s n p → p.key = key →
      ∃ t, exec (.abortExposure addr tag body) s = .next t ∧ AbortedWriting .requested n p s t ∧
        t.exposure.autoHold = true ∧
        t.link.answers = s.transmit.link.answers ++ [answerTo 17 tag (only .done) s]) ∧
    (∀ p, ok → EarlyBay s n p → p.key = key →
      ∃ t, exec (.abortExposure addr tag body) s = .next t ∧ AbortedEarly .requested n p s t ∧
        t.exposure.spent = s.exposure.spent ∧ t.exposure.autoHold = true ∧ t.lines = s.lines ∧
        t.link.answers = s.transmit.link.answers ++ [answerTo 17 tag (only .done) s])

/-- R132: SET SKEW refuses a wrong length, then an exposure in progress; otherwise all 32 skews are replaced, each above
255 as 255, and the exposure source is set. At the broadcast address it is ignored. -/
def Obligations.SetSkewReplacesSkews : Prop :=
  (∀ (addr tag : Byte) (body : List Byte) (s : State), Ready addr s →
    (body.length ≠ 64 → exec (.setSkew addr tag body) s = .next (answered 15 tag (only .badField) s)) ∧
    (body.length = 64 → s.exposure.state ≠ .idle →
      exec (.setSkew addr tag body) s = .next (answered 15 tag (only .busy) s)) ∧
    (body.length = 64 → s.exposure.state = .idle →
      exec (.setSkew addr tag body) s = .next { answered 15 tag (only .done) s with
        exposure := { s.exposure with skews := (List.range 32).map fun k => min (u16At body (2 * k)) 255 }
        link := { (answered 15 tag (only .done) s).link with
          sources := s.transmit.link.sources ||| (1#12 <<< 8) } })) ∧
  (∀ (tag : Byte) (body : List Byte) (s : State), s.link.receiver = .hunting →
    exec (.setSkew 0x0F tag body) s = .next s.transmit)

/-- R116, R123: the last burst of pass 0's fetch makes buffer 0 FULL and LOADING WAITING, sets the exposure source and
begins the fetch of pass 1; before the last burst nothing happens. R116, R117: in WAITING and WRITING the last burst of pass
q's fetch makes its buffer FULL, and the fetch of pass q + 1 begins at once if there is such a pass and the other buffer is
EMPTY, and not otherwise. -/
def Obligations.PassFetchCompletesToWaiting : Prop :=
  (∀ (n : Nat) (key : PlateKey) (p : Plate) (words : List StoreWord) (s : State),
    s.exposure.state = .loading → s.exposure.current = some (n, key) → s.plate? n = some p →
    s.exposure.prefetchPass = some 0 → s.exposure.nextFetch = 1 → 2 ≤ s.exposure.passCount →
    s.exposure.buffers = [.fetching 0 words, .empty] → p.w / 2 ≤ words.length →
    exec .passFetchComplete s = .next { s.transmit with
      exposure := { s.exposure with
        state := .waiting, prefetchPass := some 1, nextFetch := 2, buffers := [.full 0 words, .fetching 1 []] }
      store := Store.grant { s.store with prefetch := some { addr := s.bayBase n + p.w / 2, write := none } }
      link := { s.transmit.link with sources := s.transmit.link.sources ||| (1#12 <<< 8) } }) ∧
  (∀ (n q : Nat) (key : PlateKey) (p : Plate) (words : List StoreWord) (other : PassBuffer) (s : State),
    s.exposure.state ≠ .loading → s.exposure.current = some (n, key) → s.plate? n = some p →
    s.exposure.prefetchPass = some q → s.exposure.nextFetch = q + 1 → p.w / 2 ≤ words.length →
    s.exposure.buffers[q % 2]? = some (.fetching q words) → s.exposure.buffers[(q + 1) % 2]? = some other →
    (q + 1 < s.exposure.passCount ∧ other = .empty →
      exec .passFetchComplete s = .next { s.transmit with
        exposure := { s.exposure with
          prefetchPass := some (q + 1), nextFetch := q + 2
          buffers := (s.exposure.buffers.set (q % 2) (.full q words)).set ((q + 1) % 2) (.fetching (q + 1) []) }
        store := Store.grant { s.store with
          prefetch := some { addr := s.bayBase n + (q + 1) * (p.w / 2), write := none } } }) ∧
    (s.exposure.passCount ≤ q + 1 ∨ other ≠ .empty →
      exec .passFetchComplete s = .next { s.transmit with exposure := { s.exposure with
        prefetchPass := none, buffers := s.exposure.buffers.set (q % 2) (.full q words) } })) ∧
  (∀ (n q q' : Nat) (key : PlateKey) (p : Plate) (words : List StoreWord) (s : State),
    s.exposure.current = some (n, key) → s.plate? n = some p → s.exposure.prefetchPass = some q →
    s.exposure.buffers[q % 2]? = some (.fetching q' words) → words.length < p.w / 2 →
    exec .passFetchComplete s = .next s.transmit)

/-- R123, R124, R126: a drum index is ignored in IDLE and LOADING, begins pass 0 in WAITING and, in WRITING, begins the
next pass if its buffer is FULL; it aborts with OVERLAP over an open pass with positions left, and with UNDERRUN over a
buffer not FULL. Over an open pass with all its positions shown, the pass closes first and the index is judged after it; over
the last pass it ends the exposure and is ignored (R125; log entry 33). -/
def Obligations.DrumIndexBeginsOrAborts : Prop :=
  (∀ s : State, s.exposure.state = .idle ∨ s.exposure.state = .loading →
    exec .drumIndex s = .next s.transmit) ∧
  (∀ (q : Nat) (words : List StoreWord) (s : State), s.exposure.state = .waiting →
    s.exposure.buffers[0]? = some (.full q words) →
    exec .drumIndex s = .next { s.transmit with
      exposure := { s.exposure with
        state := .writing, passCounter := 0, position := 0, passOpen := true
        buffers := s.exposure.buffers.set 0 (.emitting 0 words) }
      link := { s.transmit.link with sources := s.transmit.link.sources ||| (1#12 <<< 8) } }) ∧
  (∀ (words : List StoreWord) (s : State), s.exposure.state = .writing → s.exposure.passOpen = false →
    s.exposure.buffers[(s.exposure.passCounter + 1) % 2]? = some (.full (s.exposure.passCounter + 1) words) →
    exec .drumIndex s = .next { s.transmit with
      exposure := { s.exposure with
        passCounter := s.exposure.passCounter + 1, position := 0, passOpen := true
        buffers := (s.exposure.buffers.set ((s.exposure.passCounter + 1) % 2)
          (.emitting (s.exposure.passCounter + 1) words)) } }) ∧
  (∀ (n : Nat) (p : Plate) (s : State), WritingBay s n p → s.exposure.passOpen = true →
    s.exposure.position < s.exposure.passLength →
    ∃ t, exec .drumIndex s = .next t ∧ AbortedWriting .overlap n p s t) ∧
  (∀ (n : Nat) (p : Plate) (s : State), WritingBay s n p → s.exposure.passOpen = false →
    (∀ words, s.exposure.buffers[(s.exposure.passCounter + 1) % 2]? ≠
      some (.full (s.exposure.passCounter + 1) words)) →
    ∃ t, exec .drumIndex s = .next t ∧ AbortedWriting .underrun n p s t) ∧
  (∀ s : State, s.exposure.state = .writing → s.exposure.passOpen = true → s.exposure.passLength ≤ s.exposure.position →
    (s.exposure.passCounter + 1 ≠ s.exposure.passCount →
      ∃ u, exec .passClose s = .next u ∧ u.exposure.state = .writing ∧ u.exposure.passOpen = false ∧
        exec .drumIndex s = exec .drumIndex u) ∧
    (s.exposure.passCounter + 1 = s.exposure.passCount → s.exposure.current ≠ none →
      exec .drumIndex s = exec .passClose s))

/-- R114, R125: in WRITING with a pass open, a dot clock lights emitter k exactly when its dot at x - skew(k) lies on the
plate and is black in the pass buffer and the three interlock lines are asserted, and x rises by one; at any other time
the pulse is ignored, as it is over an
open pass with all its positions shown (log entry 33). -/
def Obligations.DotClockEmitsPosition : Prop :=
  (∀ (n q : Nat) (key : PlateKey) (p : Plate) (words : List StoreWord) (s : State),
    s.exposure.state = .writing → s.exposure.passOpen = true → s.exposure.position < s.exposure.passLength →
    s.exposure.current = some (n, key) → s.plate? n = some p →
    s.exposure.buffers[s.exposure.passCounter % 2]? = some (.emitting q words) →
    ∃ lit : BitVec 32, exec .dotClockPulse s = .next { s.transmit with exposure := { s.exposure with
        emitters := lit, position := s.exposure.position + 1 } } ∧
      ∀ k, k < 32 → (lit.getLsbD k = true ↔
        s.asserted 0 = true ∧ s.asserted 1 = true ∧ s.asserted 2 = true ∧
        s.exposure.skews.getD k 0 ≤ s.exposure.position ∧
        s.exposure.position - s.exposure.skews.getD k 0 < p.w ∧
        (words.getD (k * (p.w / 64) + (s.exposure.position - s.exposure.skews.getD k 0) / 64) 0).getLsbD
          ((s.exposure.position - s.exposure.skews.getD k 0) % 64) = true)) ∧
  (∀ s : State, s.exposure.state ≠ .writing ∨ s.exposure.passOpen = false ∨
      s.exposure.passLength ≤ s.exposure.position →
    exec .dotClockPulse s = .next s.transmit)

/-- R14, R117, R125, R127: the open pass, all positions shown, closes dark with its buffer EMPTY; with a pass
left and no fetch under way, the fetch of the pass two above begins into that buffer (R116); the last pass completes the
exposure: the bay is EXPOSED with outcome COMPLETE and its entry queued, the plate is spent and the controller IDLE. -/
def Obligations.PassCloseEndsPassOrExposure : Prop :=
  (∀ s : State, s.exposure.state = .writing → s.exposure.passOpen = true →
    s.exposure.passLength ≤ s.exposure.position → s.exposure.passCounter + 1 ≠ s.exposure.passCount →
    s.exposure.passCount ≤ s.exposure.nextFetch ∨ s.exposure.prefetchPass ≠ none →
    exec .passClose s = .next { s.transmit with exposure := { s.exposure with
      emitters := 0, passOpen := false
      buffers := s.exposure.buffers.set (s.exposure.passCounter % 2) .empty } }) ∧
  (∀ (n : Nat) (key : PlateKey) (p : Plate) (s : State), s.exposure.state = .writing → s.exposure.passOpen = true →
    s.exposure.passLength ≤ s.exposure.position → s.exposure.current = some (n, key) → s.plate? n = some p →
    s.exposure.nextFetch = s.exposure.passCounter + 2 → s.exposure.nextFetch < s.exposure.passCount →
    s.exposure.prefetchPass = none →
    exec .passClose s = .next { s.transmit with
      exposure := { s.exposure with
        emitters := 0, passOpen := false, prefetchPass := some s.exposure.nextFetch
        nextFetch := s.exposure.nextFetch + 1
        buffers := s.exposure.buffers.set (s.exposure.passCounter % 2) (.fetching s.exposure.nextFetch []) }
      store := Store.grant { s.store with
        prefetch := some { addr := s.bayBase n + s.exposure.nextFetch * (p.w / 2), write := none } } }) ∧
  (∀ (n : Nat) (p : Plate) (s : State), WritingBay s n p → s.exposure.passOpen = true →
    s.exposure.passLength ≤ s.exposure.position → s.exposure.passCounter + 1 = s.exposure.passCount →
    ∃ t, exec .passClose s = .next t ∧ t.exposure.state = .idle ∧ t.exposure.current = none ∧
      t.exposure.emitters = 0 ∧ t.exposure.passOpen = false ∧ t.exposure.buffers = [.empty, .empty] ∧
      t.exposure.spent = true ∧ t.exposure.last = .complete n p.key ∧
      t.bays = s.bays.set n (some { p with
        state := .exposed, outcome := .complete, exposures := min (p.exposures + 1) 255 }) ∧
      t.inspectionQueue = s.inspectionQueue ++ [.bay n] ∧ t.approvalQueue = s.approvalQueue ∧ OffDrum s t ∧
      t.lines = s.lines ∧
      t.link.sources.getLsbD 8 = true ∧ t.link.sources.getLsbD n = true) ∧
  (∀ s : State, s.exposure.passOpen = false ∨ s.exposure.position < s.exposure.passLength →
    exec .passClose s = .next s.transmit)

/-! ### The Inspection Unit -/

/-- R137, R138, R139: CALIBRATE SCANNER refuses a phase byte above 1, then a unit not IDLE or a processor not empty;
otherwise the unit is CALIBRATING with zero sums and the request stays unanswered. A phase with its 16 lines completes:
DARK replaces the dark table by the sixteenths of the sums; WHITE replaces gains and weak set when at most 64 elements
are weak, and otherwise fails and keeps them. Either leaves the unit IDLE, answers the request and sets the inspection
source. -/
def Obligations.CalibrationRunsAPhase : Prop :=
  (∀ (addr tag b : Byte) (s : State), Ready addr s →
      let free := s.inspection.work = .idle ∧ s.inspectionQueue = []
      (1 < b.toNat → exec (.calibrateScanner addr tag [b]) s = .next (answered 18 tag (only .badField) s)) ∧
      (b.toNat ≤ 1 → ¬ free → exec (.calibrateScanner addr tag [b]) s = .next (answered 18 tag (only .busy) s)) ∧
      (b.toNat ≤ 1 → free → exec (.calibrateScanner addr tag [b]) s = .next { requested 18 tag s with
        inspection := { s.inspection with work := (.calibrating
          { phase := if b.toNat = 0 then .dark else .white, lines := 0, sums := List.replicate 2048 0,
            entry := some s.link.freeSlot }) }
        link := { (requested 18 tag s).link with sources := s.transmit.link.sources ||| (1#12 <<< 9) } })) ∧
  (∀ (c : Calibration) (k : Nat) (e : Entry) (s : State), s.inspection.work = .calibrating c → 16 ≤ c.lines →
      c.entry = some k → s.link.outstanding.find? (fun x => decide (x.slot = k)) = some e →
      let ended := fun (i : Inspection) (outcome : CalibrationOutcome) (weak : Nat) (r : Reply) =>
        ({ s.transmit with
            inspection := { i with
              work := .idle, lastCalibration := some { phase := c.phase, outcome := outcome, weak := weak } }
            link := { s.transmit.link with
              sources := s.transmit.link.sources ||| (1#12 <<< 9)
              answers := s.transmit.link.answers ++
                [{ slot := some k, kind := kindOfAnswer e.kind, tag := e.tag, reply := r }] } } : State)
      let gains := List.zipWith (fun sum dark => 4193280 / max (sum / 16 - dark) 1) c.sums s.inspection.dark
      let weak := (List.range gains.length).filter fun i => decide (4095 < gains.getD i 0)
      (c.phase = .dark → exec .darkCalibrationDone s =
        .next (ended { s.inspection with dark := c.sums.map fun sum => sum / 16 } .done s.inspection.weak.length
          (only .done))) ∧
      (c.phase = .white → weak.length ≤ 64 → exec .whiteCalibrationDone s =
        .next (ended { s.inspection with gain := gains.map fun g => min g 4095, weak := weak } .done weak.length
          { status := .done, data := be16 weak.length })) ∧
      (c.phase = .white → 64 < weak.length → exec .whiteCalibrationDone s =
        .next (ended s.inspection .failed weak.length { status := .calibrationFailed, data := be16 weak.length })))

/-- R135, R137, R144, R145: a scan line is discarded in IDLE, adds to each element's sum in CALIBRATING, joins the FIFO in
SCANNING while no comparison is due, and with the FIFO full marks the scan lagged, empties it and stops the fetch. With its
expected line FULL it is compared at once, and the last comparison ends the scan with its verdict; a lagged scan counts its
lines and ends UNCHECKED with the last; past the last line it is discarded. A rise of L4 with lines still to come ends the
scan early with cause EARLY CLEAR (R152 to R155); that a lagged scan ended so has this cause too, and not LAGGED, is the
model's choice (log entry 26). -/
def Obligations.ScanLinesAreTaken : Prop :=
  (∀ (line : ScanLine) (s : State), s.inspection.work = .idle → exec (.scanLine line) s = .next s.transmit) ∧
  (∀ (line : ScanLine) (c : Calibration) (s : State), s.inspection.work = .calibrating c → c.lines < 16 →
    ∃ sums : List Nat, exec (.scanLine line) s = .next { s.transmit with inspection := { s.inspection with
        work := .calibrating { c with lines := c.lines + 1, sums := sums } } } ∧
      sums.length = c.sums.length ∧
      ∀ e, e < c.sums.length → sums.getD e 0 = c.sums.getD e 0 + (line.getD e 0).toNat) ∧
  (∀ (line : ScanLine) (sc : Scan) (p : Plate) (s : State), s.inspection.work = .scanning sc →
    s.plate? sc.bay = some p → sc.received < p.h / s.settings.resolution.side → sc.lagged = false →
    (sc.fifo.length < 4 → (∀ y cov, sc.expected ≠ .full y cov) →
      exec (.scanLine line) s = .next { s.transmit with inspection := { s.inspection with
        work := .scanning { sc with received := sc.received + 1, fifo := sc.fifo ++ [line] } } }) ∧
    (sc.fifo.length = 4 → sc.received + 1 < p.h / s.settings.resolution.side →
      exec (.scanLine line) s = .next { s.transmit with
        inspection := { s.inspection with work := .scanning { sc with
          received := sc.received + 1, lagged := true, fifo := [], expected := .empty, openDefects := [] } }
        store := s.store.stop .inspect
        link := { s.transmit.link with sources := s.transmit.link.sources ||| (1#12 <<< 9) } }) ∧
    (sc.fifo.length = 4 → sc.received + 1 = p.h / s.settings.resolution.side →
      ∃ t, exec (.scanLine line) s = .next t ∧ ScanEnded .unchecked .lagged sc p s t) ∧
    (∀ cov, sc.fifo = [] → sc.expected = .full sc.next cov →
      ∃ t, exec (.scanLine line) s = .next t ∧
        Compared { sc with received := sc.received + 1 } p cov line [] s t)) ∧
  (∀ (line : ScanLine) (sc : Scan) (p : Plate) (s : State), s.inspection.work = .scanning sc →
    s.plate? sc.bay = some p → sc.received < p.h / s.settings.resolution.side → sc.lagged = true →
    (sc.received + 1 < p.h / s.settings.resolution.side →
      exec (.scanLine line) s = .next { s.transmit with inspection := { s.inspection with
        work := .scanning { sc with received := sc.received + 1 } } }) ∧
    (sc.received + 1 = p.h / s.settings.resolution.side →
      ∃ t, exec (.scanLine line) s = .next t ∧ ScanEnded .unchecked .lagged sc p s t)) ∧
  (∀ (line : ScanLine) (sc : Scan) (p : Plate) (s : State), s.inspection.work = .scanning sc →
    s.plate? sc.bay = some p → p.h / s.settings.resolution.side ≤ sc.received →
    exec (.scanLine line) s = .next s.transmit) ∧
  (∀ (l : InputLine) (sc : Scan) (p : Plate) (s : State), s.lines.inputs[4]? = some l → l.edgeDue = true →
    l.raw = true → l.debounced = false → s.inspection.work = .scanning sc → s.plate? sc.bay = some p →
    sc.received < p.h / s.settings.resolution.side →
    ∃ t, exec (.inputEdge 4) s = .next t ∧ ScanEnded .unchecked .earlyClear sc p s t)

/-- R142: the last burst of an expected line's range makes it FULL with the coverage of every examined element. With no line
waiting nothing else happens; a waiting line of its number is compared (R144, R152). R141, R143: an element's deviation is
its measured coverage less the expected one, none for a weak element; it is flagged when, less the drift of the last eight
unflagged deviations to its left, it exceeds thr. -/
def Obligations.ExpectedLineCountsSquares : Prop :=
  (∀ (sc : Scan) (p : Plate) (y : Nat) (words : List StoreWord) (s : State), s.inspection.work = .scanning sc →
    sc.expected = .fetching y words → s.plate? sc.bay = some p →
    s.settings.resolution.side * (p.w / 64) ≤ words.length →
    ∃ cov : List Nat, CountsSquares s.settings.resolution.side p.w words cov ∧
      (sc.fifo = [] → exec .expectedLineFull s = .next { s.transmit with inspection := { s.inspection with
        work := .scanning { sc with expected := .full y cov } } }) ∧
      (∀ line rest, sc.fifo = line :: rest → y = sc.next →
        ∃ t, exec .expectedLineFull s = .next t ∧ Compared sc p cov line rest s t)) ∧
  (∀ (dark gain weak cov : List Nat) (line : ScanLine) (e : Nat), e < cov.length →
    let bright := min (((line.getD e 0).toNat - dark.getD e 0) * gain.getD e 1024 / 1024) 4095
    (deviations dark gain weak cov line)[e]? = some (if e ∈ weak then none
      else some ((((4095 - bright) * 64 + 2047) / 4095 : Nat) - (cov.getD e 0 : Int)))) ∧
  (∀ (thr i : Nat) (ds : List (Option Int)), i < ds.length →
    let flags := (flagElements thr ds []).1
    let sound := (List.range i).filterMap fun j => if flags.getD j none = none then ds.getD j none else none
    let drift := (sound.drop (sound.length - 8)).sum / 8
    flags[i]? = some ((ds.getD i none).bind fun d => if thr < (d - drift).natAbs then some (d - drift) else none))

/-- R18, R150, R167: a rise of L3 with the unit IDLE binds the scan to a bay entry at the head of the inspection queue, or
diverts to the reject bin for an ABORTED entry and for an empty queue. With the unit SCANNING the scan in progress ends first,
UNCHECKED with cause OVERLAP and a pulse to the accept bin (R151, R155; a lagged scan too: log entry 26). With the unit
CALIBRATING and fewer than 16 lines taken, the calibration is abandoned first and answered ABORTED (R140; its weak count: log
entry 21). In AUTO mode the entry that leaves the queue, with the start conditions true, starts the exposure of the approval
queue's head as well (R17, R120; its burst asked behind the scan's: log entry 36), and otherwise no start is taken. The line's
own edge is recorded (R162). -/
def Obligations.ScanStartBindsQueueHead : Prop :=
  ∀ (l : InputLine) (s : State), s.lines.inputs[3]? = some l → l.edgeDue = true → l.raw = true → l.debounced = false →
    let o := exec (.inputEdge 3) s
    let base : State := { s.transmit with
      lines := { s.lines with inputs := s.lines.inputs.set 3 (afterEdge l) }
      link := { s.transmit.link with sources :=
        (if edgeHits l && !l.masked then s.transmit.link.sources ||| (1#12 <<< 10) else s.transmit.link.sources) } }
    (s.inspection.work = .idle → ScanStartJudged base o) ∧
    (∀ sc p, s.inspection.work = .scanning sc → s.plate? sc.bay = some p →
      ScanStartJudged { base with
        bays := s.bays.set sc.bay (some { p with state := .held, verdict := .unchecked, autoDue := false })
        inspection := { s.inspection with work := .idle, lastScan := .verdict .unchecked .overlap sc.bay sc.key }
        store := s.store.stop .inspect
        lines := { base.lines with pulse := (some { reject := false, timeLeft := 10 * s.settings.pulseSteps }) }
        link := { base.link with
          sources := base.link.sources ||| (1#12 <<< sc.bay) ||| (1#12 <<< 9), tx := dueForgotten sc.bay base.link.tx } } o) ∧
    (∀ c k e, s.inspection.work = .calibrating c → c.lines < 16 → c.entry = some k →
      s.link.outstanding.find? (fun x => decide (x.slot = k)) = some e →
      ScanStartJudged { base with
        inspection := { s.inspection with
          work := .idle, lastCalibration := some { phase := c.phase, outcome := .aborted, weak := 0 } }
        link := { base.link with
          sources := base.link.sources ||| (1#12 <<< 9)
          answers := base.link.answers ++
            [{ slot := some k, kind := kindOfAnswer e.kind, tag := e.tag, reply := only .aborted }] } } o)

/-- R147 to R149: matching a scan line's runs neither makes nor loses a defect record, never opens more than 32, and keeps
the numbering. R146: the runs cover the kept raw runs extended and clipped, stand apart, and carry the deviations of the kept
elements in them. R148 (a current range in several pieces: log entry 14): where no run joins two open defects, each open defect takes the runs that join it and every other run
opens a defect or is untracked; one run that joins open defects, among runs that join none, merges them into the oldest, and
the records it frees serve the runs to its right. Open defects that no run joins are closed. -/
def Obligations.MatchingConservesDefectPool : Prop :=
  (∀ (y : Nat) (t : Tracker) (runs : List Run), t.opens.length ≤ 32 →
    let t' := t.matchLine y runs
    t'.list.length + t'.free = t.list.length + t.free ∧ t'.opens.length ≤ 32) ∧
  (∀ (y : Nat) (t : Tracker) (runs : List Run), TrackerFits y t → TrackerFits (y + 1) (t.matchLine y runs)) ∧
  (∀ (set : InspectionSettings) (flags : List (Option Int)), 1 ≤ set.q →
    let runs := formRuns set flags
    runs.Pairwise (fun r r' => r.last + 1 < r'.first) ∧
    (∀ e, (∃ r ∈ runs, r.first ≤ e ∧ e ≤ r.last) ↔
      e < flags.length ∧ ∃ a b, KeptRaw set.q flags a b ∧ a ≤ e + set.pre ∧ e ≤ b + set.post) ∧
    ∀ r ∈ runs, r.first ≤ r.last ∧
      (∃ es : List Nat, es.Pairwise (· < ·) ∧
        (∀ e, e ∈ es ↔ r.first ≤ e ∧ e ≤ r.last ∧ ∃ a b, KeptRaw set.q flags a b ∧ a ≤ e ∧ e ≤ b) ∧
        r.devs = es.filterMap fun e => flags.getD e none) ∧
      r.area = r.devs.length ∧
      r.sign = (if ∀ d ∈ r.devs, 0 < d then .excess else if ∀ d ∈ r.devs, d < 0 then .loss else .mixed) ∧
      (∀ d ∈ r.devs, d.natAbs ≤ r.peak) ∧ ∃ d ∈ r.devs, r.peak = d.natAbs) ∧
  (∀ (y : Nat) (t : Tracker) (runs : List Run), TrackerFits y t →
    (∀ r ∈ runs, ∀ o ∈ t.opens, ∀ o' ∈ t.opens, shares r o = true → shares r o' = true → o = o') →
    let u := opened y { t with list := t.list.map fun d => grown y d [] (joining t.opens runs d.number) }
      (runs.filter (loose t.opens))
    t.matchLine y runs = { u with
      opens := (t.opens.filterMap fun o =>
          if joining t.opens runs o.number = [] then none
          else some { o with ranges := (joining t.opens runs o.number).map fun r => (r.first, r.last) }) ++
        u.opens.drop t.opens.length }) ∧
  (∀ (y oldest : Nat) (t : Tracker) (left right : List Run) (r : Run), TrackerFits y t →
    (∀ x ∈ left ++ right, loose t.opens x = true) →
    let numbers := (t.opens.filter (shares r)).map OpenDefect.number
    oldest ∈ numbers → (∀ n ∈ numbers, oldest ≤ n) →
    let u := opened y (merged y (opened y t left) numbers oldest r) right
    t.matchLine y (left ++ r :: right) = { u with
      opens := u.opens.filter fun o => decide (o.number = oldest) || decide (t.nextNumber ≤ o.number) })

/-- R158: SET INSPECTION refuses a wrong length and a zero area; otherwise the six settings are replaced, clamped, and
nothing else, a scan under way included. At the broadcast address it is judged the same way and not answered. -/
def Obligations.SetInspectionReplacesSettings : Prop :=
  ∀ (addr tag : Byte) (body : List Byte) (s : State),
    let ok := body.length = 12 ∧ u16At body 8 ≠ 0 ∧ u16At body 10 ≠ 0
    let replaced : Inspection := { s.inspection with settings :=
      { thr := max 1 (min (u16At body 0) 63), q := max 1 (min (u16At body 2) 4), pre := min (u16At body 4) 3,
        post := min (u16At body 6) 3, minArea := u16At body 8, rejectArea := u16At body 10 } }
    (Ready addr s →
      (¬ ok → exec (.setInspection addr tag body) s = .next (answered 19 tag (only .badField) s)) ∧
      (ok → exec (.setInspection addr tag body) s =
        .next { answered 19 tag (only .done) s with inspection := replaced })) ∧
    (s.link.receiver = .hunting → s.link.fullReset = none →
      (¬ ok → exec (.setInspection 0x0F tag body) s = .next s.transmit) ∧
      (ok → exec (.setInspection 0x0F tag body) s = .next { s.transmit with inspection := replaced }))

/-! ### The Line Monitor -/

/-- R161, R162: at a tick an input at its debounced level loses its count, and one that differs gains one, its edge
falling due at the setting (taken by INPUT_EDGE, log entry 10); a level change at a debounced pin changes the raw level
alone, and one at a pin of debounce 0 is that line's edge at once (its count: log entry 39). An edge of any line moves its
debounced level and, when it matches the edge setting, sets its flag, latches the level if the flag was clear, and sets the
line source unless masked. That is all an edge does that no block acts on (R163): of L5 to L7, a rise of L0 or L2, a fall of L3
or L4, and a rise of L4 without a scan or with all its lines received (R152). A tick that finds edges due, and a level change of
a line whose edge is due, take these first, the lowest line's edge before the next (log entry 10). -/
def Obligations.InputsDebounceAndFlag : Prop :=
  (∀ s : State, (∀ l ∈ s.lines.inputs, l.edgeDue = false) →
      exec .lineTick s = .next { s.transmit with lines := { s.lines with inputs := s.lines.inputs.map ticked } } ∧
      (∀ (n : Fin 8) (l : InputLine) (level : Bool), s.lines.inputs[n.val]? = some l → 0 < l.debounce →
        exec (.rawLevelChange n level) s = .next { s.transmit with
          lines := { s.lines with inputs := s.lines.inputs.set n.val { l with raw := level } } })) ∧
  (∀ (n : Fin 8) (l : InputLine) (s v : State), s.lines.inputs[n.val]? = some l → l.edgeDue = true →
      exec (.inputEdge n) s = .next v →
      ((∀ m l', s.lines.inputs[m]? = some l' → l'.edgeDue = true → n.val ≤ m) → s.transmit.link.tx ≠ .idle →
        exec .lineTick s = exec .lineTick v) ∧
      ((∀ m l', s.lines.inputs[m]? = some l' → l'.edgeDue = true → m = n.val) →
        exec .lineTick s = .next { v with lines := { v.lines with inputs := v.lines.inputs.map ticked } }) ∧
      ∀ level : Bool,
        (s.transmit.link.tx ≠ .idle → exec (.rawLevelChange n level) s = exec (.rawLevelChange n level) v) ∧
        ∀ l', v.lines.inputs[n.val]? = some l' → (0 < l'.debounce ∨ level = l'.debounced) →
          exec (.rawLevelChange n level) s = .next { v with
            lines := { v.lines with inputs := v.lines.inputs.set n.val { l' with raw := level } } }) ∧
  (∀ (n : Fin 8) (l : InputLine) (level : Bool) (s : State), s.lines.inputs[n.val]? = some l → l.debounce = 0 →
      l.edgeDue = false →
      (level = l.debounced → exec (.rawLevelChange n level) s = .next { s.transmit with
        lines := { s.lines with inputs := s.lines.inputs.set n.val { l with raw := level } } }) ∧
      (level ≠ l.debounced → exec (.rawLevelChange n level) s = exec (.inputEdge n) { s with
        lines := { s.lines with inputs := s.lines.inputs.set n.val { l with raw := level, edgeDue := true } } })) ∧
  (∀ (n : Fin 8) (l : InputLine) (s : State), s.lines.inputs[n.val]? = some l → l.edgeDue = true →
      l.raw ≠ l.debounced →
      (∃ t, exec (.inputEdge n) s = .next t ∧ t.lines.inputs = s.lines.inputs.set n.val (afterEdge l) ∧
        (edgeHits l = true → l.masked = false → t.link.sources.getLsbD 10 = true)) ∧
      (5 ≤ n.val ∨ (n.val = 0 ∨ n.val = 2) ∧ l.raw = true ∨ (n.val = 3 ∨ n.val = 4) ∧ l.raw = false ∨
          n.val = 4 ∧ (∀ sc p, s.inspection.work = .scanning sc → s.plate? sc.bay = some p →
            p.h / s.settings.resolution.side ≤ sc.received) →
        exec (.inputEdge n) s = .next { s.transmit with
          lines := { s.lines with inputs := s.lines.inputs.set n.val (afterEdge l) }
          link := { s.transmit.link with sources :=
            (if edgeHits l && !l.masked then s.transmit.link.sources ||| (1#12 <<< 10)
            else s.transmit.link.sources) } }))

/-- R121, R128, R130, R163: a fall of L0, L1 or L2 aborts the exposure with cause DOOR, PLATE LOST or HEAD: in WRITING the
plate is spoiled, in LOADING and WAITING the bay goes back to the head of the approval queue or, superseded, is freed (R8,
R16), and in IDLE nothing is aborted. A fall of L1 clears a set plate-spent mark and sets the exposure source. -/
def Obligations.InterlockFallAbortsWriting : Prop :=
  ∀ (i : Fin 8) (l : InputLine) (cause : AbortCause) (s : State),
    (i.val = 0 ∧ cause = .door ∨ i.val = 1 ∧ cause = .plateLost ∨ i.val = 2 ∧ cause = .head) →
    s.lines.inputs[i.val]? = some l → l.edgeDue = true → l.raw = false → l.debounced = true →
    (∀ n p, WritingBay s n p →
      ∃ t, exec (.inputEdge i) s = .next t ∧ AbortedWriting cause n p s t ∧ t.asserted i.val = false) ∧
    (∀ n p, EarlyBay s n p →
      ∃ t, exec (.inputEdge i) s = .next t ∧ AbortedEarly cause n p s t ∧ t.asserted i.val = false ∧
        t.exposure.spent = (s.exposure.spent && decide (i.val ≠ 1)) ∧ t.exposure.autoHold = s.exposure.autoHold) ∧
    (s.exposure.state = .idle →
      ∃ t, exec (.inputEdge i) s = .next t ∧ t.asserted i.val = false ∧
        t.exposure = { s.exposure with spent := s.exposure.spent && decide (i.val ≠ 1) } ∧ OffDrum s t ∧
        t.store = s.store ∧ t.bays = s.bays ∧ t.approvalQueue = s.approvalQueue ∧
        t.inspectionQueue = s.inspectionQueue ∧
        t.link.sources.getLsbD 8 =
          (s.transmit.link.sources.getLsbD 8 || decide (i.val = 1 ∧ s.exposure.spent = true)))

/-- R164, R165, R166, R167: SET LINES refuses a bad body and otherwise replaces every setting, leaving levels, pending
counts, flags and latches (no edge being due). A line given a debounce of 0 with its levels apart takes its edge at once
(R161; its count: log entry 39): any number of lines reported to no block, and one line of any kind, whose reports go ahead of
the DONE (log entry 42; of several the order is log entry 11). CLEAR LINE EVENTS clears the flags named; the end of a pulse
ends it; and outputs follow setting or source. -/
def Obligations.LineSettingsEventsAndOutputs : Prop :=
  (∀ (addr tag : Byte) (body : List Byte) (s : State), Ready addr s →
    let ok := body.length = 35 ∧ (∀ n, n < 8 → byteAt body (4 * n + 1) ≤ 2 ∧ byteAt body (4 * n + 2) ≤ 1 ∧
      byteAt body (4 * n + 3) ≤ 1) ∧ byteAt body 32 ≤ 2 ∧ byteAt body 33 ≤ 2 ∧ byteAt body 34 ≤ 2
    let out : Nat → OutputSetting := fun c => if c = 0 then .low else if c = 1 then .high else .auto
    (¬ ok → exec (.setLines addr tag body) s = .next (answered 20 tag (only .badField) s)) ∧
    let settings := fun (inputs : List InputLine) =>
      ({ s.lines with inputs := inputs, o1 := out (byteAt body 32), o2 := out (byteAt body 33), o3 := out (byteAt body 34) } :
        Lines)
    (ok → s.lines.inputs.length = 8 → (∀ l ∈ s.lines.inputs, l.edgeDue = false) →
      ((∀ n l, s.lines.inputs[n]? = some l → letsThrough body n l = true → 5 ≤ n) →
        exec (.setLines addr tag body) s = .next { answered 20 tag (only .done) s with
          lines := settings (s.lines.inputs.mapIdx fun n l =>
            if letsThrough body n l then afterEdge (withSetting body n l) else withSetting body n l)
          link := { (answered 20 tag (only .done) s).link with sources :=
            (if s.lines.inputs.zipIdx.any fun x => letsThrough body x.2 x.1 && edgeHits (withSetting body x.2 x.1) &&
                !(withSetting body x.2 x.1).masked then s.transmit.link.sources ||| (1#12 <<< 10)
            else s.transmit.link.sources) } }) ∧
      (∀ (m : Fin 8) (v : State), (∀ n l, s.lines.inputs[n]? = some l → (letsThrough body n l = true ↔ n = m.val)) →
        exec (.inputEdge m) { requested 20 tag s with lines := settings (s.lines.inputs.mapIdx fun n l =>
          { withSetting body n l with edgeDue := decide (n = m.val) }) } = .next v →
        exec (.setLines addr tag body) s = .next { v with link := { v.link with
          answers := v.link.answers ++ [answerTo 20 tag (only .done) s] } }))) ∧
  (∀ (addr tag b : Byte) (s : State), Ready addr s →
    ∃ inputs : List InputLine, exec (.clearLineEvents addr tag [b]) s = .next { answered 22 tag (only .done) s with
        lines := { s.lines with inputs := inputs } } ∧ inputs.length = s.lines.inputs.length ∧
      ∀ (n : Nat) (l : InputLine), s.lines.inputs[n]? = some l →
        inputs[n]? = some { l with flag := l.flag && !(b.getLsbD n) }) ∧
  (∀ s : State, exec .diverterPulseEnd s = .next { s.transmit with lines := { s.lines with pulse := none } }) ∧
  (∀ s : State, (s.outputLevel 0 = true ↔ s.exposure.state = .writing) ∧
    (s.lines.o1 = .low → s.outputLevel 1 = false) ∧ (s.lines.o1 = .high → s.outputLevel 1 = true) ∧
    (s.lines.o1 = .auto → (s.outputLevel 1 = true ↔ ∃ ms, s.lines.pulse = some { reject := true, timeLeft := ms })) ∧
    (s.lines.o2 = .low → s.outputLevel 2 = false) ∧ (s.lines.o2 = .high → s.outputLevel 2 = true) ∧
    (s.lines.o2 = .auto → (s.outputLevel 2 = true ↔ ∃ ms, s.lines.pulse = some { reject := false, timeLeft := ms })) ∧
    (s.lines.o3 = .low → s.outputLevel 3 = false) ∧ (s.lines.o3 = .high → s.outputLevel 3 = true) ∧
    (s.lines.o3 = .auto → (s.outputLevel 3 = true ↔ ∃ n p, s.plate? n = some p ∧ p.state = .held ∧
      (p.verdict = .reject ∨ p.verdict = .unchecked ∨ ∃ c q, p.outcome = .aborted c q))))

/-! ### The whole machine -/

/-- No command is refused, and none stops but a BURST_COMPLETE whose burst passes the band store's last word (the model's
one fault). -/
def Obligations.EveryCommandGoesOn : Prop :=
  (∀ (c : Instr) (s : State), s.BurstInside → ∃ t, exec c s = .next t) ∧
  (∀ (c : Instr) (s : State) (r : Refusal), exec c s ≠ .refused r) ∧
  (∀ (c : Instr) (s : State) (f : Fault), exec c s = .fault f → ∃ g, c = .burstComplete g)

/-- The state after a hardware reset meets every condition that the statements below say each step keeps. -/
def Obligations.ResetMeetsEveryInvariant : Prop :=
  State.reset.LightInterlocked ∧ State.reset.store.Tended ∧ State.reset.store.Sound ∧ State.reset.ProcessorRoom ∧
  State.reset.BayTableFits ∧ State.reset.link.TablesFit ∧ State.reset.IntakeFits ∧ State.reset.ScanFits ∧
  State.reset.PoolFits ∧ State.reset.PlatesAgree

/-- R114, R125, R128, R130: in no step does an emitter come to be, or stay, lit outside an open pass in WRITING with door
closed, plate loaded and head ready. -/
def Obligations.LightStaysInterlocked : Prop := Kept State.LightInterlocked

/-- R101, R104, R105, R106, R108: every step leaves at most 8 refreshes owed, the timer running exactly below 8, and the
store IDLE only with nothing asked and nothing owed; and every step keeps the band store's canonical form (the model's,
log entry 6) and every burst asked or in service that writes at exactly 8 words. -/
def Obligations.StoreStaysTendedAndSound : Prop :=
  Kept (fun s => s.store.Tended) ∧ Kept (fun s => s.store.Sound)

/-- R1, R17, R171, R172, R173: every step keeps one bay record per bay of the mode, the outstanding table and busy list
within their sizes with distinct slots and a busy-list place for each LINK BUSY answer not yet sent, and the inspection
queue within its 4 entries, with room for the exposure in progress. R33, R36, R37: and the Intake Queue within its 32 blocks and
262,144 bytes charged, the body being decoded among them. R144, R147, R148: and a scan's line FIFO within 4 lines, its
open-defect table within 32, and all defect lists within the pool's 512 records. R3, R11, R13, R17, R18, R93: and the laws
between the bays and those who work on them: no two resident bays with one plate key, at most one bay of a page-separation
FILLING, APPROVING or QUEUED, and that one its newest; the approval queue holding exactly the QUEUED bays, each once; one bay
EXPOSING exactly while the Exposure Controller is not IDLE, its current bay; the inspection queue's bay entries exactly the
EXPOSED bays; one bay INSPECTING exactly while a scan is on, the scan's; the APPROVING bays exactly the filler's; and the
strip buffers, held approvals and due marks only where a bay's state allows them. (The strip writer's list of R104 is not
stated here.) -/
def Obligations.TablesKeepTheirSizes : Prop :=
  Kept (fun s => s.BayTableFits ∧ s.link.TablesFit) ∧ Kept State.ProcessorRoom ∧ Kept State.IntakeFits ∧
  Kept State.ScanFits ∧ Kept State.PoolFits ∧ Kept State.PlatesAgree

/-- R39: while a plate stays in its bay, no strip of it goes back to ABSENT in any step of one frame at most, nor as any one
character is received (several frames completed in one step are their characters one after another:
ReceiverCountsDiscardedFrames, log entry 4). -/
def Obligations.StripsNeverReturnToAbsent : Prop :=
  (∀ s t : State, OneFrame s → step s = .next t → StripsKept s t) ∧
  ∀ (c : Byte) (s : State), StripsKept s (s.takeCharacter c)
end

