-- ==== Sys2Proof/Laws/Bits.lean ====
section
/-! SUPPORT. Dots and words: the bit at a place of a word or a line built from a dot function is that dot. -/

namespace Sys2Proof.Machine

/-- Bit i of the number built from a bit function. -/
theorem testBit_dotBits (f : Nat → Bool) (n i : Nat) : (dotBits f n).testBit i = (decide (i < n) && f i) := by
  induction n with
  | zero => simp [dotBits]
  | succ n ih =>
    have hone : (1 <<< n).testBit i = decide (n = i) := by
      rw [Nat.one_shiftLeft, Nat.testBit_two_pow]
    unfold dotBits
    rw [Nat.testBit_or, ih]
    by_cases hi : i = n
    · subst hi
      cases h : f i <;> simp [hone]
    · have hne : ¬ n = i := fun h => hi h.symm
      have hlt : (i < n + 1) = (i < n) := by
        apply propext; omega
      cases h : f n <;> simp [hone, hne, hlt]

/-- A store word's place p. -/
theorem getLsbD_ofDots (f : Nat → Bool) (p : Nat) : (StoreWord.ofDots f).getLsbD p = (decide (p < 64) && f p) := by
  unfold StoreWord.ofDots
  rw [BitVec.getLsbD_ofNat, testBit_dotBits]
  cases decide (p < 64) <;> simp

/-- A line's dot x. -/
theorem getLsbD_lineOfDots (w : Nat) (f : Nat → Bool) (x : Nat) (hw : w ≤ 32768) :
    (Line.ofDots w f).getLsbD x = (decide (x < w) && f x) := by
  unfold Line.ofDots
  rw [BitVec.getLsbD_ofNat, testBit_dotBits]
  by_cases hx : x < w
  · have : x < 32768 := by omega
    simp [hx, this]
  · simp [hx]

end Sys2Proof.Machine
end

