-- ==== Sys2Proof/Laws/State.lean ====
section
/-! SUPPORT. What each named update of State leaves in each field: one lemma per field per update, each true by rfl. -/

namespace Sys2Proof.Machine

variable (s : State)

/-! ### State.setSource -/

@[simp] theorem State.setSource_settings (n : Nat) :
    (State.setSource n s).settings = s.settings := rfl
@[simp] theorem State.setSource_bays (n : Nat) :
    (State.setSource n s).bays = s.bays := rfl
@[simp] theorem State.setSource_approvalQueue (n : Nat) :
    (State.setSource n s).approvalQueue = s.approvalQueue := rfl
@[simp] theorem State.setSource_inspectionQueue (n : Nat) :
    (State.setSource n s).inspectionQueue = s.inspectionQueue := rfl
@[simp] theorem State.setSource_intake (n : Nat) :
    (State.setSource n s).intake = s.intake := rfl
@[simp] theorem State.setSource_decoder (n : Nat) :
    (State.setSource n s).decoder = s.decoder := rfl
@[simp] theorem State.setSource_screening (n : Nat) :
    (State.setSource n s).screening = s.screening := rfl
@[simp] theorem State.setSource_filler (n : Nat) :
    (State.setSource n s).filler = s.filler := rfl
@[simp] theorem State.setSource_store (n : Nat) :
    (State.setSource n s).store = s.store := rfl
@[simp] theorem State.setSource_exposure (n : Nat) :
    (State.setSource n s).exposure = s.exposure := rfl
@[simp] theorem State.setSource_inspection (n : Nat) :
    (State.setSource n s).inspection = s.inspection := rfl
@[simp] theorem State.setSource_lines (n : Nat) :
    (State.setSource n s).lines = s.lines := rfl
@[simp] theorem State.setSource_link (n : Nat) :
    (State.setSource n s).link = { s.link with sources := s.link.sources ||| (1#12 <<< n) } := rfl
@[simp] theorem State.setSource_pending (n : Nat) :
    (State.setSource n s).pending = s.pending := rfl

/-! ### State.setBay -/

@[simp] theorem State.setBay_settings (n : Nat) (o : Option Plate) :
    (State.setBay n o s).settings = s.settings := rfl
@[simp] theorem State.setBay_bays (n : Nat) (o : Option Plate) :
    (State.setBay n o s).bays = s.bays.set n o := rfl
@[simp] theorem State.setBay_approvalQueue (n : Nat) (o : Option Plate) :
    (State.setBay n o s).approvalQueue = s.approvalQueue := rfl
@[simp] theorem State.setBay_inspectionQueue (n : Nat) (o : Option Plate) :
    (State.setBay n o s).inspectionQueue = s.inspectionQueue := rfl
@[simp] theorem State.setBay_intake (n : Nat) (o : Option Plate) :
    (State.setBay n o s).intake = s.intake := rfl
@[simp] theorem State.setBay_decoder (n : Nat) (o : Option Plate) :
    (State.setBay n o s).decoder = s.decoder := rfl
@[simp] theorem State.setBay_screening (n : Nat) (o : Option Plate) :
    (State.setBay n o s).screening = s.screening := rfl
@[simp] theorem State.setBay_filler (n : Nat) (o : Option Plate) :
    (State.setBay n o s).filler = s.filler := rfl
@[simp] theorem State.setBay_store (n : Nat) (o : Option Plate) :
    (State.setBay n o s).store = s.store := rfl
@[simp] theorem State.setBay_exposure (n : Nat) (o : Option Plate) :
    (State.setBay n o s).exposure = s.exposure := rfl
@[simp] theorem State.setBay_inspection (n : Nat) (o : Option Plate) :
    (State.setBay n o s).inspection = s.inspection := rfl
@[simp] theorem State.setBay_lines (n : Nat) (o : Option Plate) :
    (State.setBay n o s).lines = s.lines := rfl
@[simp] theorem State.setBay_link (n : Nat) (o : Option Plate) :
    (State.setBay n o s).link = s.link := rfl
@[simp] theorem State.setBay_pending (n : Nat) (o : Option Plate) :
    (State.setBay n o s).pending = s.pending := rfl

/-! ### State.setBuffer -/

@[simp] theorem State.setBuffer_settings (i : Nat) (b : StripBuffer) :
    (State.setBuffer i b s).settings = s.settings := rfl
@[simp] theorem State.setBuffer_bays (i : Nat) (b : StripBuffer) :
    (State.setBuffer i b s).bays = s.bays := rfl
@[simp] theorem State.setBuffer_approvalQueue (i : Nat) (b : StripBuffer) :
    (State.setBuffer i b s).approvalQueue = s.approvalQueue := rfl
@[simp] theorem State.setBuffer_inspectionQueue (i : Nat) (b : StripBuffer) :
    (State.setBuffer i b s).inspectionQueue = s.inspectionQueue := rfl
@[simp] theorem State.setBuffer_intake (i : Nat) (b : StripBuffer) :
    (State.setBuffer i b s).intake = s.intake := rfl
@[simp] theorem State.setBuffer_decoder (i : Nat) (b : StripBuffer) :
    (State.setBuffer i b s).decoder = { s.decoder with buffers := s.decoder.buffers.set i b } := rfl
@[simp] theorem State.setBuffer_screening (i : Nat) (b : StripBuffer) :
    (State.setBuffer i b s).screening = s.screening := rfl
@[simp] theorem State.setBuffer_filler (i : Nat) (b : StripBuffer) :
    (State.setBuffer i b s).filler = s.filler := rfl
@[simp] theorem State.setBuffer_store (i : Nat) (b : StripBuffer) :
    (State.setBuffer i b s).store = s.store := rfl
@[simp] theorem State.setBuffer_exposure (i : Nat) (b : StripBuffer) :
    (State.setBuffer i b s).exposure = s.exposure := rfl
@[simp] theorem State.setBuffer_inspection (i : Nat) (b : StripBuffer) :
    (State.setBuffer i b s).inspection = s.inspection := rfl
@[simp] theorem State.setBuffer_lines (i : Nat) (b : StripBuffer) :
    (State.setBuffer i b s).lines = s.lines := rfl
@[simp] theorem State.setBuffer_link (i : Nat) (b : StripBuffer) :
    (State.setBuffer i b s).link = s.link := rfl
@[simp] theorem State.setBuffer_pending (i : Nat) (b : StripBuffer) :
    (State.setBuffer i b s).pending = s.pending := rfl

/-! ### State.setWork -/

@[simp] theorem State.setWork_settings (w : InspectionUnit) :
    (State.setWork w s).settings = s.settings := rfl
@[simp] theorem State.setWork_bays (w : InspectionUnit) :
    (State.setWork w s).bays = s.bays := rfl
@[simp] theorem State.setWork_approvalQueue (w : InspectionUnit) :
    (State.setWork w s).approvalQueue = s.approvalQueue := rfl
@[simp] theorem State.setWork_inspectionQueue (w : InspectionUnit) :
    (State.setWork w s).inspectionQueue = s.inspectionQueue := rfl
@[simp] theorem State.setWork_intake (w : InspectionUnit) :
    (State.setWork w s).intake = s.intake := rfl
@[simp] theorem State.setWork_decoder (w : InspectionUnit) :
    (State.setWork w s).decoder = s.decoder := rfl
@[simp] theorem State.setWork_screening (w : InspectionUnit) :
    (State.setWork w s).screening = s.screening := rfl
@[simp] theorem State.setWork_filler (w : InspectionUnit) :
    (State.setWork w s).filler = s.filler := rfl
@[simp] theorem State.setWork_store (w : InspectionUnit) :
    (State.setWork w s).store = s.store := rfl
@[simp] theorem State.setWork_exposure (w : InspectionUnit) :
    (State.setWork w s).exposure = s.exposure := rfl
@[simp] theorem State.setWork_inspection (w : InspectionUnit) :
    (State.setWork w s).inspection = { s.inspection with work := w } := rfl
@[simp] theorem State.setWork_lines (w : InspectionUnit) :
    (State.setWork w s).lines = s.lines := rfl
@[simp] theorem State.setWork_link (w : InspectionUnit) :
    (State.setWork w s).link = s.link := rfl
@[simp] theorem State.setWork_pending (w : InspectionUnit) :
    (State.setWork w s).pending = s.pending := rfl

/-! ### State.onExposure -/

@[simp] theorem State.onExposure_settings (f : Exposure → Exposure) :
    (State.onExposure f s).settings = s.settings := rfl
@[simp] theorem State.onExposure_bays (f : Exposure → Exposure) :
    (State.onExposure f s).bays = s.bays := rfl
@[simp] theorem State.onExposure_approvalQueue (f : Exposure → Exposure) :
    (State.onExposure f s).approvalQueue = s.approvalQueue := rfl
@[simp] theorem State.onExposure_inspectionQueue (f : Exposure → Exposure) :
    (State.onExposure f s).inspectionQueue = s.inspectionQueue := rfl
@[simp] theorem State.onExposure_intake (f : Exposure → Exposure) :
    (State.onExposure f s).intake = s.intake := rfl
@[simp] theorem State.onExposure_decoder (f : Exposure → Exposure) :
    (State.onExposure f s).decoder = s.decoder := rfl
@[simp] theorem State.onExposure_screening (f : Exposure → Exposure) :
    (State.onExposure f s).screening = s.screening := rfl
@[simp] theorem State.onExposure_filler (f : Exposure → Exposure) :
    (State.onExposure f s).filler = s.filler := rfl
@[simp] theorem State.onExposure_store (f : Exposure → Exposure) :
    (State.onExposure f s).store = s.store := rfl
@[simp] theorem State.onExposure_exposure (f : Exposure → Exposure) :
    (State.onExposure f s).exposure = f s.exposure := rfl
@[simp] theorem State.onExposure_inspection (f : Exposure → Exposure) :
    (State.onExposure f s).inspection = s.inspection := rfl
@[simp] theorem State.onExposure_lines (f : Exposure → Exposure) :
    (State.onExposure f s).lines = s.lines := rfl
@[simp] theorem State.onExposure_link (f : Exposure → Exposure) :
    (State.onExposure f s).link = s.link := rfl
@[simp] theorem State.onExposure_pending (f : Exposure → Exposure) :
    (State.onExposure f s).pending = s.pending := rfl

/-! ### State.onInspection -/

@[simp] theorem State.onInspection_settings (f : Inspection → Inspection) :
    (State.onInspection f s).settings = s.settings := rfl
@[simp] theorem State.onInspection_bays (f : Inspection → Inspection) :
    (State.onInspection f s).bays = s.bays := rfl
@[simp] theorem State.onInspection_approvalQueue (f : Inspection → Inspection) :
    (State.onInspection f s).approvalQueue = s.approvalQueue := rfl
@[simp] theorem State.onInspection_inspectionQueue (f : Inspection → Inspection) :
    (State.onInspection f s).inspectionQueue = s.inspectionQueue := rfl
@[simp] theorem State.onInspection_intake (f : Inspection → Inspection) :
    (State.onInspection f s).intake = s.intake := rfl
@[simp] theorem State.onInspection_decoder (f : Inspection → Inspection) :
    (State.onInspection f s).decoder = s.decoder := rfl
@[simp] theorem State.onInspection_screening (f : Inspection → Inspection) :
    (State.onInspection f s).screening = s.screening := rfl
@[simp] theorem State.onInspection_filler (f : Inspection → Inspection) :
    (State.onInspection f s).filler = s.filler := rfl
@[simp] theorem State.onInspection_store (f : Inspection → Inspection) :
    (State.onInspection f s).store = s.store := rfl
@[simp] theorem State.onInspection_exposure (f : Inspection → Inspection) :
    (State.onInspection f s).exposure = s.exposure := rfl
@[simp] theorem State.onInspection_inspection (f : Inspection → Inspection) :
    (State.onInspection f s).inspection = f s.inspection := rfl
@[simp] theorem State.onInspection_lines (f : Inspection → Inspection) :
    (State.onInspection f s).lines = s.lines := rfl
@[simp] theorem State.onInspection_link (f : Inspection → Inspection) :
    (State.onInspection f s).link = s.link := rfl
@[simp] theorem State.onInspection_pending (f : Inspection → Inspection) :
    (State.onInspection f s).pending = s.pending := rfl

/-! ### State.onStore -/

@[simp] theorem State.onStore_settings (f : Store → Store) :
    (State.onStore f s).settings = s.settings := rfl
@[simp] theorem State.onStore_bays (f : Store → Store) :
    (State.onStore f s).bays = s.bays := rfl
@[simp] theorem State.onStore_approvalQueue (f : Store → Store) :
    (State.onStore f s).approvalQueue = s.approvalQueue := rfl
@[simp] theorem State.onStore_inspectionQueue (f : Store → Store) :
    (State.onStore f s).inspectionQueue = s.inspectionQueue := rfl
@[simp] theorem State.onStore_intake (f : Store → Store) :
    (State.onStore f s).intake = s.intake := rfl
@[simp] theorem State.onStore_decoder (f : Store → Store) :
    (State.onStore f s).decoder = s.decoder := rfl
@[simp] theorem State.onStore_screening (f : Store → Store) :
    (State.onStore f s).screening = s.screening := rfl
@[simp] theorem State.onStore_filler (f : Store → Store) :
    (State.onStore f s).filler = s.filler := rfl
@[simp] theorem State.onStore_store (f : Store → Store) :
    (State.onStore f s).store = f s.store := rfl
@[simp] theorem State.onStore_exposure (f : Store → Store) :
    (State.onStore f s).exposure = s.exposure := rfl
@[simp] theorem State.onStore_inspection (f : Store → Store) :
    (State.onStore f s).inspection = s.inspection := rfl
@[simp] theorem State.onStore_lines (f : Store → Store) :
    (State.onStore f s).lines = s.lines := rfl
@[simp] theorem State.onStore_link (f : Store → Store) :
    (State.onStore f s).link = s.link := rfl
@[simp] theorem State.onStore_pending (f : Store → Store) :
    (State.onStore f s).pending = s.pending := rfl

/-! ### State.setInput -/

@[simp] theorem State.setInput_settings (n : Nat) (l : InputLine) :
    (State.setInput n l s).settings = s.settings := rfl
@[simp] theorem State.setInput_bays (n : Nat) (l : InputLine) :
    (State.setInput n l s).bays = s.bays := rfl
@[simp] theorem State.setInput_approvalQueue (n : Nat) (l : InputLine) :
    (State.setInput n l s).approvalQueue = s.approvalQueue := rfl
@[simp] theorem State.setInput_inspectionQueue (n : Nat) (l : InputLine) :
    (State.setInput n l s).inspectionQueue = s.inspectionQueue := rfl
@[simp] theorem State.setInput_intake (n : Nat) (l : InputLine) :
    (State.setInput n l s).intake = s.intake := rfl
@[simp] theorem State.setInput_decoder (n : Nat) (l : InputLine) :
    (State.setInput n l s).decoder = s.decoder := rfl
@[simp] theorem State.setInput_screening (n : Nat) (l : InputLine) :
    (State.setInput n l s).screening = s.screening := rfl
@[simp] theorem State.setInput_filler (n : Nat) (l : InputLine) :
    (State.setInput n l s).filler = s.filler := rfl
@[simp] theorem State.setInput_store (n : Nat) (l : InputLine) :
    (State.setInput n l s).store = s.store := rfl
@[simp] theorem State.setInput_exposure (n : Nat) (l : InputLine) :
    (State.setInput n l s).exposure = s.exposure := rfl
@[simp] theorem State.setInput_inspection (n : Nat) (l : InputLine) :
    (State.setInput n l s).inspection = s.inspection := rfl
@[simp] theorem State.setInput_lines (n : Nat) (l : InputLine) :
    (State.setInput n l s).lines = { s.lines with inputs := s.lines.inputs.set n l } := rfl
@[simp] theorem State.setInput_link (n : Nat) (l : InputLine) :
    (State.setInput n l s).link = s.link := rfl
@[simp] theorem State.setInput_pending (n : Nat) (l : InputLine) :
    (State.setInput n l s).pending = s.pending := rfl

/-! ### State.hunt -/

@[simp] theorem State.hunt_settings :
    (State.hunt s).settings = s.settings := rfl
@[simp] theorem State.hunt_bays :
    (State.hunt s).bays = s.bays := rfl
@[simp] theorem State.hunt_approvalQueue :
    (State.hunt s).approvalQueue = s.approvalQueue := rfl
@[simp] theorem State.hunt_inspectionQueue :
    (State.hunt s).inspectionQueue = s.inspectionQueue := rfl
@[simp] theorem State.hunt_intake :
    (State.hunt s).intake = s.intake := rfl
@[simp] theorem State.hunt_decoder :
    (State.hunt s).decoder = s.decoder := rfl
@[simp] theorem State.hunt_screening :
    (State.hunt s).screening = s.screening := rfl
@[simp] theorem State.hunt_filler :
    (State.hunt s).filler = s.filler := rfl
@[simp] theorem State.hunt_store :
    (State.hunt s).store = s.store := rfl
@[simp] theorem State.hunt_exposure :
    (State.hunt s).exposure = s.exposure := rfl
@[simp] theorem State.hunt_inspection :
    (State.hunt s).inspection = s.inspection := rfl
@[simp] theorem State.hunt_lines :
    (State.hunt s).lines = s.lines := rfl
@[simp] theorem State.hunt_link :
    (State.hunt s).link = { s.link with receiver := .hunting } := rfl
@[simp] theorem State.hunt_pending :
    (State.hunt s).pending = s.pending := rfl

/-! ### State.requestPulse -/

@[simp] theorem State.requestPulse_settings (r : Bool) :
    (State.requestPulse r s).settings = s.settings := rfl
@[simp] theorem State.requestPulse_bays (r : Bool) :
    (State.requestPulse r s).bays = s.bays := rfl
@[simp] theorem State.requestPulse_approvalQueue (r : Bool) :
    (State.requestPulse r s).approvalQueue = s.approvalQueue := rfl
@[simp] theorem State.requestPulse_inspectionQueue (r : Bool) :
    (State.requestPulse r s).inspectionQueue = s.inspectionQueue := rfl
@[simp] theorem State.requestPulse_intake (r : Bool) :
    (State.requestPulse r s).intake = s.intake := rfl
@[simp] theorem State.requestPulse_decoder (r : Bool) :
    (State.requestPulse r s).decoder = s.decoder := rfl
@[simp] theorem State.requestPulse_screening (r : Bool) :
    (State.requestPulse r s).screening = s.screening := rfl
@[simp] theorem State.requestPulse_filler (r : Bool) :
    (State.requestPulse r s).filler = s.filler := rfl
@[simp] theorem State.requestPulse_store (r : Bool) :
    (State.requestPulse r s).store = s.store := rfl
@[simp] theorem State.requestPulse_exposure (r : Bool) :
    (State.requestPulse r s).exposure = s.exposure := rfl
@[simp] theorem State.requestPulse_inspection (r : Bool) :
    (State.requestPulse r s).inspection = s.inspection := rfl
@[simp] theorem State.requestPulse_lines (r : Bool) :
    (State.requestPulse r s).lines = { s.lines with pulse := some { reject := r, timeLeft := 10 * s.settings.pulseSteps } } := rfl
@[simp] theorem State.requestPulse_link (r : Bool) :
    (State.requestPulse r s).link = s.link := rfl
@[simp] theorem State.requestPulse_pending (r : Bool) :
    (State.requestPulse r s).pending = s.pending := rfl

/-! ### State.diverterPulseEnd -/

@[simp] theorem State.diverterPulseEnd_settings :
    (State.diverterPulseEnd s).settings = s.settings := rfl
@[simp] theorem State.diverterPulseEnd_bays :
    (State.diverterPulseEnd s).bays = s.bays := rfl
@[simp] theorem State.diverterPulseEnd_approvalQueue :
    (State.diverterPulseEnd s).approvalQueue = s.approvalQueue := rfl
@[simp] theorem State.diverterPulseEnd_inspectionQueue :
    (State.diverterPulseEnd s).inspectionQueue = s.inspectionQueue := rfl
@[simp] theorem State.diverterPulseEnd_intake :
    (State.diverterPulseEnd s).intake = s.intake := rfl
@[simp] theorem State.diverterPulseEnd_decoder :
    (State.diverterPulseEnd s).decoder = s.decoder := rfl
@[simp] theorem State.diverterPulseEnd_screening :
    (State.diverterPulseEnd s).screening = s.screening := rfl
@[simp] theorem State.diverterPulseEnd_filler :
    (State.diverterPulseEnd s).filler = s.filler := rfl
@[simp] theorem State.diverterPulseEnd_store :
    (State.diverterPulseEnd s).store = s.store := rfl
@[simp] theorem State.diverterPulseEnd_exposure :
    (State.diverterPulseEnd s).exposure = s.exposure := rfl
@[simp] theorem State.diverterPulseEnd_inspection :
    (State.diverterPulseEnd s).inspection = s.inspection := rfl
@[simp] theorem State.diverterPulseEnd_lines :
    (State.diverterPulseEnd s).lines = { s.lines with pulse := none } := rfl
@[simp] theorem State.diverterPulseEnd_link :
    (State.diverterPulseEnd s).link = s.link := rfl
@[simp] theorem State.diverterPulseEnd_pending :
    (State.diverterPulseEnd s).pending = s.pending := rfl

end Sys2Proof.Machine
end

