-- ==== Sys2Proof/Laws/Link.lean ====
section
/-! SUPPORT. The link's shared operations: the transmitter's choice touches the link alone, a request with room takes a
slot no entry holds, and an answer joins the tail of the answer queue (R171 to R176). -/

namespace Sys2Proof.Machine

/-! ### The transmitter's choice -/

/-- All that the transmitter's choice can do: nothing, an answer taken from the queue's head, or a notice begun. -/
theorem State.transmit_cases (s : State) :
    s.transmit = s ∨
    (∃ a rest, s.link.tx = .idle ∧ s.link.answers = a :: rest ∧
      s.transmit = { s with link := { s.link with tx := .answer a, answers := rest } }) ∨
    (∃ src, s.link.tx = .idle ∧ s.link.answers = [] ∧ s.link.fullReset = none ∧ s.link.chooseSource = some src ∧
      s.transmit = s.beginNotice src) := by
  unfold State.transmit
  split
  · rename_i htx
    split
    · rename_i a rest hq
      exact .inr (.inl ⟨a, rest, htx, hq, rfl⟩)
    · rename_i hq
      split
      · exact .inl rfl
      · rename_i hf
        split
        · rename_i src hsrc
          exact .inr (.inr ⟨src, htx, hq, by simpa using hf, hsrc, rfl⟩)
        · exact .inl rfl
  · exact .inl rfl

/-- The choice changes no block but the Link Controller. -/
theorem State.transmit_frame (s : State) : s.transmit = { s with link := s.transmit.link } := by
  rcases s.transmit_cases with h | ⟨a, rest, -, -, h⟩ | ⟨src, -, -, -, -, h⟩
  · rw [h]
  · rw [h]
  · rw [h]; rfl

@[simp] theorem State.transmit_settings (s : State) : s.transmit.settings = s.settings := by rw [s.transmit_frame]
@[simp] theorem State.transmit_bays (s : State) : s.transmit.bays = s.bays := by rw [s.transmit_frame]
@[simp] theorem State.transmit_approvalQueue (s : State) : s.transmit.approvalQueue = s.approvalQueue := by
  rw [s.transmit_frame]
@[simp] theorem State.transmit_inspectionQueue (s : State) : s.transmit.inspectionQueue = s.inspectionQueue := by
  rw [s.transmit_frame]
@[simp] theorem State.transmit_intake (s : State) : s.transmit.intake = s.intake := by rw [s.transmit_frame]
@[simp] theorem State.transmit_decoder (s : State) : s.transmit.decoder = s.decoder := by rw [s.transmit_frame]
@[simp] theorem State.transmit_screening (s : State) : s.transmit.screening = s.screening := by rw [s.transmit_frame]
@[simp] theorem State.transmit_filler (s : State) : s.transmit.filler = s.filler := by rw [s.transmit_frame]
@[simp] theorem State.transmit_store (s : State) : s.transmit.store = s.store := by rw [s.transmit_frame]
@[simp] theorem State.transmit_exposure (s : State) : s.transmit.exposure = s.exposure := by rw [s.transmit_frame]
@[simp] theorem State.transmit_inspection (s : State) : s.transmit.inspection = s.inspection := by rw [s.transmit_frame]
@[simp] theorem State.transmit_lines (s : State) : s.transmit.lines = s.lines := by rw [s.transmit_frame]
@[simp] theorem State.transmit_pending (s : State) : s.transmit.pending = s.pending := by rw [s.transmit_frame]

/-- Within the Link Controller the choice changes at most the transmitter, the answer queue, the pending set, the
rotation pointer and the ready mark. -/
theorem State.transmit_link (s : State) :
    s.transmit.link.receiver = s.link.receiver ∧ s.transmit.link.straps = s.link.straps ∧
    s.transmit.link.unitAddr = s.link.unitAddr ∧ s.transmit.link.outstanding = s.link.outstanding ∧
    s.transmit.link.busy = s.link.busy ∧ s.transmit.link.resetKind = s.link.resetKind ∧
    s.transmit.link.badCheck = s.link.badCheck ∧ s.transmit.link.timeouts = s.link.timeouts ∧
    s.transmit.link.linkBusy = s.link.linkBusy ∧ s.transmit.link.dropped = s.link.dropped ∧
    s.transmit.link.fullReset = s.link.fullReset := by
  rcases s.transmit_cases with h | ⟨a, rest, -, -, h⟩ | ⟨src, -, -, -, -, h⟩ <;>
    (rw [h]; exact ⟨rfl, rfl, rfl, rfl, rfl, rfl, rfl, rfl, rfl, rfl, rfl⟩)

@[simp] theorem State.transmit_receiver (s : State) : s.transmit.link.receiver = s.link.receiver :=
  s.transmit_link.1
@[simp] theorem State.transmit_straps (s : State) : s.transmit.link.straps = s.link.straps := s.transmit_link.2.1
@[simp] theorem State.transmit_unitAddr (s : State) : s.transmit.link.unitAddr = s.link.unitAddr :=
  s.transmit_link.2.2.1
@[simp] theorem State.transmit_outstanding (s : State) : s.transmit.link.outstanding = s.link.outstanding :=
  s.transmit_link.2.2.2.1
@[simp] theorem State.transmit_busy (s : State) : s.transmit.link.busy = s.link.busy := s.transmit_link.2.2.2.2.1
@[simp] theorem State.transmit_fullReset (s : State) : s.transmit.link.fullReset = s.link.fullReset :=
  s.transmit_link.2.2.2.2.2.2.2.2.2.2
@[simp] theorem State.transmit_addrByte (s : State) : s.transmit.link.addrByte = s.link.addrByte := by
  simp [Link.addrByte]
@[simp] theorem State.transmit_freeSlot (s : State) : s.transmit.link.freeSlot = s.link.freeSlot := by
  simp [Link.freeSlot]

/-- A SENDING transmitter chooses nothing. -/
theorem State.transmit_sending (s : State) (h : s.link.tx ≠ .idle) : s.transmit = s := by
  rcases s.transmit_cases with h' | ⟨_, _, htx, _⟩ | ⟨_, htx, _⟩
  · exact h'
  · exact absurd htx h
  · exact absurd htx h

/-! ### Entries and answers -/

/-- With fewer than 16 entries, the free slot is below 16 and held by none. -/
theorem Link.freeSlot_spec (l : Link) (h : l.outstanding.length < Config.outstandingMax) :
    l.freeSlot < Config.outstandingMax ∧ ∀ e ∈ l.outstanding, e.slot ≠ l.freeSlot := by
  unfold Link.freeSlot
  cases hf : (List.range Config.outstandingMax).find? fun n => l.outstanding.all fun e => decide (e.slot ≠ n) with
  | some n =>
    have hmem := List.mem_of_find?_eq_some hf
    have hp := List.find?_some hf
    simp only [List.all_eq_true, decide_eq_true_eq] at hp
    exact ⟨by simpa using hmem, hp⟩
  | none =>
    exfalso
    have hall : ∀ n ∈ List.range Config.outstandingMax, n ∈ l.outstanding.map Entry.slot := by
      intro n hn
      have hall := List.find?_eq_none.1 hf n hn
      simp only [List.all_eq_true, decide_eq_true_eq, not_forall, not_not] at hall
      obtain ⟨e, he, hslot⟩ := hall
      exact List.mem_map.2 ⟨e, he, hslot⟩
    have hsub := (List.nodup_range (n := Config.outstandingMax)).subperm hall
    have hlen := hsub.length_le
    rw [List.length_range, List.length_map] at hlen
    omega

/-- The answer of a slot that only the newest entry holds. -/
theorem State.answer_newest (s : State) (es : List Entry) (e : Entry) (r : Reply) (ho : s.link.outstanding = es ++ [e])
    (hnew : ∀ x ∈ es, x.slot ≠ e.slot) :
    s.answer e.slot r = { s with link := { s.link with
      answers := s.link.answers ++ [{ slot := some e.slot, kind := answerKind e.kind, tag := e.tag, reply := r }] } } := by
  have hfind : s.link.outstanding.find? (fun x => decide (x.slot = e.slot)) = some e := by
    rw [ho, List.find?_append]
    have hn : es.find? (fun x => decide (x.slot = e.slot)) = none := by
      rw [List.find?_eq_none]; intro x hx; simpa using hnew x hx
    simp [hn]
  unfold State.answer
  rw [hfind]

/-- An answer touches only the answer queue, and only by appending. -/
theorem State.answer_spec (slot : Nat) (r : Reply) (s : State) :
    ∃ more, s.answer slot r = { s with link := { s.link with answers := s.link.answers ++ more } } ∧
      more.length ≤ 1 ∧ ∀ a ∈ more, a.slot = some slot ∧ a.reply = r := by
  unfold State.answer
  split
  · exact ⟨[_], rfl, by simp, by simp⟩
  · exact ⟨[], by simp, by simp, by simp⟩

/-- The same for an owner that may hold no entry. -/
theorem State.answer?_spec (slot : Option Nat) (r : Reply) (s : State) :
    ∃ more, s.answer? slot r = { s with link := { s.link with answers := s.link.answers ++ more } } ∧
      more.length ≤ 1 ∧ ∀ a ∈ more, a.slot = slot ∧ a.reply = r := by
  cases slot with
  | none => exact ⟨[], by simp [State.answer?], by simp, by simp⟩
  | some k => exact s.answer_spec k r

/-! ### Requests -/

/-- The meaning of a command that always goes on. -/
theorem run_next (f : State → State) (s : State) : run f s = .next (f s.transmit) := rfl

/-- A frame that completes in HUNTING at the unit address, with no RESET FULL waiting, is a request. -/
theorem State.receive_addressed (addr kind tag : Byte) (body : List Byte) (owner : Owner) (s : State)
    (hr : s.link.receiver = .hunting) (hf : s.link.fullReset = none) (ha : addr = s.link.addrByte) :
    s.receive addr kind tag body owner = s.hunt.request kind tag owner := by
  have ha' : addr = s.hunt.link.addrByte := ha
  simp [State.receive, hr, Receiver.admits, hf, State.takeFrame, ha']

/-- A request that its owner answers at once: the owner's change, the entry taken, and the answer at the queue's tail. The
owner leaves the outstanding table alone. -/
theorem State.request_answered (kind tag : Byte) (owner : Owner) (s s' : State) (r : Reply)
    (hroom : s.link.outstanding.length < Config.outstandingMax)
    (howner : owner (some s.link.freeSlot)
        { s with link := { s.link with
            outstanding := s.link.outstanding ++ [{ slot := s.link.freeSlot, tag, kind }] } } = (s', some r))
    (hkeep : s'.link.outstanding = s.link.outstanding ++ [{ slot := s.link.freeSlot, tag, kind }]) :
    s.request kind tag owner = { s' with link := { s'.link with
      answers := s'.link.answers ++
        [{ slot := some s.link.freeSlot, kind := answerKind kind, tag, reply := r }] } } := by
  unfold State.request
  rw [if_pos hroom, howner]
  exact State.answer_newest s' _ { slot := s.link.freeSlot, tag, kind } r hkeep (s.link.freeSlot_spec hroom).2

/-- A request that finds 16 entries is refused LINK BUSY (R172). -/
theorem State.request_full (kind tag : Byte) (owner : Owner) (s : State)
    (hfull : Config.outstandingMax ≤ s.link.outstanding.length) : s.request kind tag owner = s.refuseBusy kind tag := by
  unfold State.request
  rw [if_neg (by omega)]

/-! ### Plate work answered (R181) -/

/-- The entry of a slot, slots being distinct. -/
theorem find?_slot {es : List Entry} {e : Entry} (hn : (es.map Entry.slot).Nodup) (he : e ∈ es) :
    es.find? (fun x => decide (x.slot = e.slot)) = some e := by
  induction es with
  | nil => simp at he
  | cons x xs ih =>
    simp only [List.map_cons, List.nodup_cons, List.mem_map, not_exists, not_and] at hn
    rcases List.mem_cons.1 he with rfl | h
    · simp
    · rw [List.find?_cons_of_neg (by simpa using fun hx => hn.1 e h hx.symm)]
      exact ih hn.2 h

/-- The answer of an outstanding entry. -/
theorem State.answer_entry (s : State) (e : Entry) (r : Reply) (hn : (s.link.outstanding.map Entry.slot).Nodup)
    (he : e ∈ s.link.outstanding) :
    s.answer e.slot r = { s with link := { s.link with
      answers := s.link.answers ++ [{ slot := some e.slot, kind := answerKind e.kind, tag := e.tag, reply := r }] } } := by
  unfold State.answer
  rw [find?_slot hn he]

/-- What RESET PLATES answers for an entry, if anything (R27, R140). -/
def plateWorkAnswer (approvals : List Nat) (calibration : Option Nat) (e : Entry) : Option Answer :=
  if e.slot ∈ approvals then
    some { slot := some e.slot, kind := answerKind e.kind, tag := e.tag, reply := Reply.bare .withdrawn }
  else if calibration = some e.slot then
    some { slot := some e.slot, kind := answerKind e.kind, tag := e.tag, reply := Reply.bare .aborted }
  else none

/-- All that answering the plate work does: the answers of its entries, in entry order, join the answer queue. -/
theorem State.answerPlateWork_eq (approvals : List Nat) (calibration : Option Nat) (s : State)
    (hn : (s.link.outstanding.map Entry.slot).Nodup) :
    s.answerPlateWork approvals calibration = { s with link := { s.link with
      answers := s.link.answers ++ s.link.outstanding.filterMap (plateWorkAnswer approvals calibration) } } := by
  suffices h : ∀ (es : List Entry) (u : State), (∀ e ∈ es, e ∈ u.link.outstanding) →
      (u.link.outstanding.map Entry.slot).Nodup →
      es.foldl (fun s e =>
        if approvals.contains e.slot then s.answer e.slot (Reply.bare .withdrawn)
        else if calibration = some e.slot then s.answer e.slot (Reply.bare .aborted)
        else s) u = { u with link := { u.link with
          answers := u.link.answers ++ es.filterMap (plateWorkAnswer approvals calibration) } } from
    h s.link.outstanding s (fun _ h => h) hn
  intro es
  induction es with
  | nil => intro u _ _; simp
  | cons e es ih =>
    intro u hs hn
    have hrest : ∀ x ∈ es, x ∈ u.link.outstanding := fun x hx => hs x (List.mem_cons_of_mem _ hx)
    rw [List.foldl_cons]
    by_cases ha : e.slot ∈ approvals
    · rw [if_pos (by simpa using ha), u.answer_entry e _ hn (hs e (by simp)), ih _ (by exact hrest) (by exact hn)]
      simp [plateWorkAnswer, ha]
    · rw [if_neg (by simpa using ha)]
      by_cases hc : calibration = some e.slot
      · rw [if_pos hc, u.answer_entry e _ hn (hs e (by simp)), ih _ (by exact hrest) (by exact hn)]
        simp [plateWorkAnswer, ha, hc]
      · rw [if_neg hc, ih _ hrest hn]
        simp [plateWorkAnswer, ha, hc]

/-! ### Characters (R169) -/

@[simp] theorem State.takeCharacters_nil (s : State) : s.takeCharacters [] = s := rfl

@[simp] theorem State.takeCharacters_cons (c : Byte) (rest : List Byte) (s : State) :
    s.takeCharacters (c :: rest) = (s.takeCharacter c).takeCharacters rest := rfl

theorem State.takeCharacters_append (a b : List Byte) (s : State) :
    s.takeCharacters (a ++ b) = (s.takeCharacters a).takeCharacters b := List.foldl_append

/-- HUNTING, every character other than A5h is ignored. -/
theorem State.takeCharacters_hunting (chars : List Byte) (s : State) (h : s.link.receiver = .hunting)
    (hc : (0xA5 : Byte) ∉ chars) : s.takeCharacters chars = s := by
  induction chars with
  | nil => rfl
  | cons c rest ih =>
    simp only [List.mem_cons, not_or] at hc
    have h1 : s.takeCharacter c = s := by
      rw [State.takeCharacter, h]
      exact if_neg (Ne.symm hc.1)
    rw [State.takeCharacters_cons, h1, ih hc.2]

/-- A character in RECEIVING joins the assembler, and completes its frame or does not. -/
theorem State.takeCharacter_receiving (c : Byte) (chars : List Byte) (s : State)
    (h : s.link.receiver = .receiving chars) : s.takeCharacter c = s.joinCharacter chars c := by
  rw [State.takeCharacter, h]

/-- Characters none of which completes a frame all join the assembler. -/
theorem State.takeCharacters_partial (rest chars : List Byte) (s : State) (h : s.link.receiver = .receiving chars)
    (hk : ∀ k, chars.length < k → k ≤ chars.length + rest.length → assemblerComplete ((chars ++ rest).take k) = false) :
    s.takeCharacters rest = { s with link := { s.link with receiver := .receiving (chars ++ rest) } } := by
  induction rest generalizing chars s with
  | nil => simp [← h]
  | cons c rest ih =>
    have h1 : assemblerComplete (chars ++ [c]) = false := by
      simpa [List.take_append, List.take_of_length_le] using hk (chars.length + 1) (by omega) (by simp)
    rw [State.takeCharacters_cons, State.takeCharacter_receiving c chars s h, State.joinCharacter, h1]
    rw [if_neg (by simp), ih (chars ++ [c]) _ rfl]
    · simp
    · intro k h2 h3
      have := hk k (by simp at h2; omega) (by simp at h3 ⊢; omega)
      simpa using this

end Sys2Proof.Machine
end

