-- ==== Sys2Proof/Laws/Frames.lean ====
section
/-! SUPPORT. What each shared operation and each step leaves alone, field by field: the frames of the operations of
Machine/. A field with no lemma here is one the operation can change. -/

namespace Sys2Proof.Machine

variable (s : State)

/-! State.modPlate -/

@[simp] theorem State.modPlate_settings (n : Nat) (f : Plate → Plate) :
    (State.modPlate n f s).settings = s.settings := by
  unfold State.modPlate; (repeat' split) <;> simp
@[simp] theorem State.modPlate_approvalQueue (n : Nat) (f : Plate → Plate) :
    (State.modPlate n f s).approvalQueue = s.approvalQueue := by
  unfold State.modPlate; (repeat' split) <;> simp
@[simp] theorem State.modPlate_inspectionQueue (n : Nat) (f : Plate → Plate) :
    (State.modPlate n f s).inspectionQueue = s.inspectionQueue := by
  unfold State.modPlate; (repeat' split) <;> simp
@[simp] theorem State.modPlate_intake (n : Nat) (f : Plate → Plate) : (State.modPlate n f s).intake = s.intake := by
  unfold State.modPlate; (repeat' split) <;> simp
@[simp] theorem State.modPlate_decoder (n : Nat) (f : Plate → Plate) :
    (State.modPlate n f s).decoder = s.decoder := by
  unfold State.modPlate; (repeat' split) <;> simp
@[simp] theorem State.modPlate_screening (n : Nat) (f : Plate → Plate) :
    (State.modPlate n f s).screening = s.screening := by
  unfold State.modPlate; (repeat' split) <;> simp
@[simp] theorem State.modPlate_filler (n : Nat) (f : Plate → Plate) : (State.modPlate n f s).filler = s.filler := by
  unfold State.modPlate; (repeat' split) <;> simp
@[simp] theorem State.modPlate_store (n : Nat) (f : Plate → Plate) : (State.modPlate n f s).store = s.store := by
  unfold State.modPlate; (repeat' split) <;> simp
@[simp] theorem State.modPlate_exposure (n : Nat) (f : Plate → Plate) :
    (State.modPlate n f s).exposure = s.exposure := by
  unfold State.modPlate; (repeat' split) <;> simp
@[simp] theorem State.modPlate_inspection (n : Nat) (f : Plate → Plate) :
    (State.modPlate n f s).inspection = s.inspection := by
  unfold State.modPlate; (repeat' split) <;> simp
@[simp] theorem State.modPlate_lines (n : Nat) (f : Plate → Plate) : (State.modPlate n f s).lines = s.lines := by
  unfold State.modPlate; (repeat' split) <;> simp
@[simp] theorem State.modPlate_link (n : Nat) (f : Plate → Plate) : (State.modPlate n f s).link = s.link := by
  unfold State.modPlate; (repeat' split) <;> simp
@[simp] theorem State.modPlate_pending (n : Nat) (f : Plate → Plate) :
    (State.modPlate n f s).pending = s.pending := by
  unfold State.modPlate; (repeat' split) <;> simp

/-! State.answer -/

@[simp] theorem State.answer_settings (k : Nat) (r : Reply) : (State.answer k r s).settings = s.settings := by
  unfold State.answer; (repeat' split) <;> simp
@[simp] theorem State.answer_bays (k : Nat) (r : Reply) : (State.answer k r s).bays = s.bays := by
  unfold State.answer; (repeat' split) <;> simp
@[simp] theorem State.answer_approvalQueue (k : Nat) (r : Reply) :
    (State.answer k r s).approvalQueue = s.approvalQueue := by
  unfold State.answer; (repeat' split) <;> simp
@[simp] theorem State.answer_inspectionQueue (k : Nat) (r : Reply) :
    (State.answer k r s).inspectionQueue = s.inspectionQueue := by
  unfold State.answer; (repeat' split) <;> simp
@[simp] theorem State.answer_intake (k : Nat) (r : Reply) : (State.answer k r s).intake = s.intake := by
  unfold State.answer; (repeat' split) <;> simp
@[simp] theorem State.answer_decoder (k : Nat) (r : Reply) : (State.answer k r s).decoder = s.decoder := by
  unfold State.answer; (repeat' split) <;> simp
@[simp] theorem State.answer_screening (k : Nat) (r : Reply) : (State.answer k r s).screening = s.screening := by
  unfold State.answer; (repeat' split) <;> simp
@[simp] theorem State.answer_filler (k : Nat) (r : Reply) : (State.answer k r s).filler = s.filler := by
  unfold State.answer; (repeat' split) <;> simp
@[simp] theorem State.answer_store (k : Nat) (r : Reply) : (State.answer k r s).store = s.store := by
  unfold State.answer; (repeat' split) <;> simp
@[simp] theorem State.answer_exposure (k : Nat) (r : Reply) : (State.answer k r s).exposure = s.exposure := by
  unfold State.answer; (repeat' split) <;> simp
@[simp] theorem State.answer_inspection (k : Nat) (r : Reply) : (State.answer k r s).inspection = s.inspection := by
  unfold State.answer; (repeat' split) <;> simp
@[simp] theorem State.answer_lines (k : Nat) (r : Reply) : (State.answer k r s).lines = s.lines := by
  unfold State.answer; (repeat' split) <;> simp
@[simp] theorem State.answer_pending (k : Nat) (r : Reply) : (State.answer k r s).pending = s.pending := by
  unfold State.answer; (repeat' split) <;> simp

/-! State.answer? -/

@[simp] theorem State.answer?_settings (k : Option Nat) (r : Reply) :
    (State.answer? k r s).settings = s.settings := by
  unfold State.answer?; (repeat' split) <;> simp
@[simp] theorem State.answer?_bays (k : Option Nat) (r : Reply) : (State.answer? k r s).bays = s.bays := by
  unfold State.answer?; (repeat' split) <;> simp
@[simp] theorem State.answer?_approvalQueue (k : Option Nat) (r : Reply) :
    (State.answer? k r s).approvalQueue = s.approvalQueue := by
  unfold State.answer?; (repeat' split) <;> simp
@[simp] theorem State.answer?_inspectionQueue (k : Option Nat) (r : Reply) :
    (State.answer? k r s).inspectionQueue = s.inspectionQueue := by
  unfold State.answer?; (repeat' split) <;> simp
@[simp] theorem State.answer?_intake (k : Option Nat) (r : Reply) : (State.answer? k r s).intake = s.intake := by
  unfold State.answer?; (repeat' split) <;> simp
@[simp] theorem State.answer?_decoder (k : Option Nat) (r : Reply) : (State.answer? k r s).decoder = s.decoder := by
  unfold State.answer?; (repeat' split) <;> simp
@[simp] theorem State.answer?_screening (k : Option Nat) (r : Reply) :
    (State.answer? k r s).screening = s.screening := by
  unfold State.answer?; (repeat' split) <;> simp
@[simp] theorem State.answer?_filler (k : Option Nat) (r : Reply) : (State.answer? k r s).filler = s.filler := by
  unfold State.answer?; (repeat' split) <;> simp
@[simp] theorem State.answer?_store (k : Option Nat) (r : Reply) : (State.answer? k r s).store = s.store := by
  unfold State.answer?; (repeat' split) <;> simp
@[simp] theorem State.answer?_exposure (k : Option Nat) (r : Reply) :
    (State.answer? k r s).exposure = s.exposure := by
  unfold State.answer?; (repeat' split) <;> simp
@[simp] theorem State.answer?_inspection (k : Option Nat) (r : Reply) :
    (State.answer? k r s).inspection = s.inspection := by
  unfold State.answer?; (repeat' split) <;> simp
@[simp] theorem State.answer?_lines (k : Option Nat) (r : Reply) : (State.answer? k r s).lines = s.lines := by
  unfold State.answer?; (repeat' split) <;> simp
@[simp] theorem State.answer?_pending (k : Option Nat) (r : Reply) : (State.answer? k r s).pending = s.pending := by
  unfold State.answer?; (repeat' split) <;> simp

/-! State.forgetDue -/

@[simp] theorem State.forgetDue_settings (n : Nat) : (State.forgetDue n s).settings = s.settings := by
  unfold State.forgetDue; (repeat' split) <;> simp
@[simp] theorem State.forgetDue_bays (n : Nat) : (State.forgetDue n s).bays = s.bays := by
  unfold State.forgetDue; (repeat' split) <;> simp
@[simp] theorem State.forgetDue_approvalQueue (n : Nat) :
    (State.forgetDue n s).approvalQueue = s.approvalQueue := by
  unfold State.forgetDue; (repeat' split) <;> simp
@[simp] theorem State.forgetDue_inspectionQueue (n : Nat) :
    (State.forgetDue n s).inspectionQueue = s.inspectionQueue := by
  unfold State.forgetDue; (repeat' split) <;> simp
@[simp] theorem State.forgetDue_intake (n : Nat) : (State.forgetDue n s).intake = s.intake := by
  unfold State.forgetDue; (repeat' split) <;> simp
@[simp] theorem State.forgetDue_decoder (n : Nat) : (State.forgetDue n s).decoder = s.decoder := by
  unfold State.forgetDue; (repeat' split) <;> simp
@[simp] theorem State.forgetDue_screening (n : Nat) : (State.forgetDue n s).screening = s.screening := by
  unfold State.forgetDue; (repeat' split) <;> simp
@[simp] theorem State.forgetDue_filler (n : Nat) : (State.forgetDue n s).filler = s.filler := by
  unfold State.forgetDue; (repeat' split) <;> simp
@[simp] theorem State.forgetDue_store (n : Nat) : (State.forgetDue n s).store = s.store := by
  unfold State.forgetDue; (repeat' split) <;> simp
@[simp] theorem State.forgetDue_exposure (n : Nat) : (State.forgetDue n s).exposure = s.exposure := by
  unfold State.forgetDue; (repeat' split) <;> simp
@[simp] theorem State.forgetDue_inspection (n : Nat) : (State.forgetDue n s).inspection = s.inspection := by
  unfold State.forgetDue; (repeat' split) <;> simp
@[simp] theorem State.forgetDue_lines (n : Nat) : (State.forgetDue n s).lines = s.lines := by
  unfold State.forgetDue; (repeat' split) <;> simp
@[simp] theorem State.forgetDue_pending (n : Nat) : (State.forgetDue n s).pending = s.pending := by
  unfold State.forgetDue; (repeat' split) <;> simp

/-! State.beginFetch -/

@[simp] theorem State.beginFetch_settings : (State.beginFetch s).settings = s.settings := by
  unfold State.beginFetch; dsimp only; (repeat' split) <;> simp
@[simp] theorem State.beginFetch_bays : (State.beginFetch s).bays = s.bays := by
  unfold State.beginFetch; dsimp only; (repeat' split) <;> simp
@[simp] theorem State.beginFetch_approvalQueue : (State.beginFetch s).approvalQueue = s.approvalQueue := by
  unfold State.beginFetch; dsimp only; (repeat' split) <;> simp
@[simp] theorem State.beginFetch_inspectionQueue : (State.beginFetch s).inspectionQueue = s.inspectionQueue := by
  unfold State.beginFetch; dsimp only; (repeat' split) <;> simp
@[simp] theorem State.beginFetch_intake : (State.beginFetch s).intake = s.intake := by
  unfold State.beginFetch; dsimp only; (repeat' split) <;> simp
@[simp] theorem State.beginFetch_decoder : (State.beginFetch s).decoder = s.decoder := by
  unfold State.beginFetch; dsimp only; (repeat' split) <;> simp
@[simp] theorem State.beginFetch_screening : (State.beginFetch s).screening = s.screening := by
  unfold State.beginFetch; dsimp only; (repeat' split) <;> simp
@[simp] theorem State.beginFetch_filler : (State.beginFetch s).filler = s.filler := by
  unfold State.beginFetch; dsimp only; (repeat' split) <;> simp
@[simp] theorem State.beginFetch_inspection : (State.beginFetch s).inspection = s.inspection := by
  unfold State.beginFetch; dsimp only; (repeat' split) <;> simp
@[simp] theorem State.beginFetch_lines : (State.beginFetch s).lines = s.lines := by
  unfold State.beginFetch; dsimp only; (repeat' split) <;> simp
@[simp] theorem State.beginFetch_link : (State.beginFetch s).link = s.link := by
  unfold State.beginFetch; dsimp only; (repeat' split) <;> simp
@[simp] theorem State.beginFetch_pending : (State.beginFetch s).pending = s.pending := by
  unfold State.beginFetch; dsimp only; (repeat' split) <;> simp

/-! State.takeStart -/

@[simp] theorem State.takeStart_settings : (State.takeStart s).settings = s.settings := by
  unfold State.takeStart; (repeat' split) <;> simp
@[simp] theorem State.takeStart_inspectionQueue : (State.takeStart s).inspectionQueue = s.inspectionQueue := by
  unfold State.takeStart; (repeat' split) <;> simp
@[simp] theorem State.takeStart_intake : (State.takeStart s).intake = s.intake := by
  unfold State.takeStart; (repeat' split) <;> simp
@[simp] theorem State.takeStart_decoder : (State.takeStart s).decoder = s.decoder := by
  unfold State.takeStart; (repeat' split) <;> simp
@[simp] theorem State.takeStart_screening : (State.takeStart s).screening = s.screening := by
  unfold State.takeStart; (repeat' split) <;> simp
@[simp] theorem State.takeStart_filler : (State.takeStart s).filler = s.filler := by
  unfold State.takeStart; (repeat' split) <;> simp
@[simp] theorem State.takeStart_inspection : (State.takeStart s).inspection = s.inspection := by
  unfold State.takeStart; (repeat' split) <;> simp
@[simp] theorem State.takeStart_lines : (State.takeStart s).lines = s.lines := by
  unfold State.takeStart; (repeat' split) <;> simp
@[simp] theorem State.takeStart_pending : (State.takeStart s).pending = s.pending := by
  unfold State.takeStart; (repeat' split) <;> simp

/-! State.autoEvent -/

@[simp] theorem State.autoEvent_settings : (State.autoEvent s).settings = s.settings := by
  unfold State.autoEvent; (repeat' split) <;> simp
@[simp] theorem State.autoEvent_inspectionQueue : (State.autoEvent s).inspectionQueue = s.inspectionQueue := by
  unfold State.autoEvent; (repeat' split) <;> simp
@[simp] theorem State.autoEvent_intake : (State.autoEvent s).intake = s.intake := by
  unfold State.autoEvent; (repeat' split) <;> simp
@[simp] theorem State.autoEvent_decoder : (State.autoEvent s).decoder = s.decoder := by
  unfold State.autoEvent; (repeat' split) <;> simp
@[simp] theorem State.autoEvent_screening : (State.autoEvent s).screening = s.screening := by
  unfold State.autoEvent; (repeat' split) <;> simp
@[simp] theorem State.autoEvent_filler : (State.autoEvent s).filler = s.filler := by
  unfold State.autoEvent; (repeat' split) <;> simp
@[simp] theorem State.autoEvent_inspection : (State.autoEvent s).inspection = s.inspection := by
  unfold State.autoEvent; (repeat' split) <;> simp
@[simp] theorem State.autoEvent_lines : (State.autoEvent s).lines = s.lines := by
  unfold State.autoEvent; (repeat' split) <;> simp
@[simp] theorem State.autoEvent_pending : (State.autoEvent s).pending = s.pending := by
  unfold State.autoEvent; (repeat' split) <;> simp

/-! State.becomeQueued -/

@[simp] theorem State.becomeQueued_settings (n : Nat) (h : Bool) :
    (State.becomeQueued n h s).settings = s.settings := by
  unfold State.becomeQueued; (repeat' split) <;> simp
@[simp] theorem State.becomeQueued_inspectionQueue (n : Nat) (h : Bool) :
    (State.becomeQueued n h s).inspectionQueue = s.inspectionQueue := by
  unfold State.becomeQueued; (repeat' split) <;> simp
@[simp] theorem State.becomeQueued_intake (n : Nat) (h : Bool) : (State.becomeQueued n h s).intake = s.intake := by
  unfold State.becomeQueued; (repeat' split) <;> simp
@[simp] theorem State.becomeQueued_decoder (n : Nat) (h : Bool) :
    (State.becomeQueued n h s).decoder = s.decoder := by
  unfold State.becomeQueued; (repeat' split) <;> simp
@[simp] theorem State.becomeQueued_screening (n : Nat) (h : Bool) :
    (State.becomeQueued n h s).screening = s.screening := by
  unfold State.becomeQueued; (repeat' split) <;> simp
@[simp] theorem State.becomeQueued_filler (n : Nat) (h : Bool) : (State.becomeQueued n h s).filler = s.filler := by
  unfold State.becomeQueued; (repeat' split) <;> simp
@[simp] theorem State.becomeQueued_inspection (n : Nat) (h : Bool) :
    (State.becomeQueued n h s).inspection = s.inspection := by
  unfold State.becomeQueued; (repeat' split) <;> simp
@[simp] theorem State.becomeQueued_lines (n : Nat) (h : Bool) : (State.becomeQueued n h s).lines = s.lines := by
  unfold State.becomeQueued; (repeat' split) <;> simp
@[simp] theorem State.becomeQueued_pending (n : Nat) (h : Bool) :
    (State.becomeQueued n h s).pending = s.pending := by
  unfold State.becomeQueued; (repeat' split) <;> simp

/-! State.abandonBay -/

@[simp] theorem State.abandonBay_settings (n : Nat) : (State.abandonBay n s).settings = s.settings := rfl
@[simp] theorem State.abandonBay_bays (n : Nat) : (State.abandonBay n s).bays = s.bays := rfl
@[simp] theorem State.abandonBay_approvalQueue (n : Nat) :
    (State.abandonBay n s).approvalQueue = s.approvalQueue := rfl
@[simp] theorem State.abandonBay_inspectionQueue (n : Nat) :
    (State.abandonBay n s).inspectionQueue = s.inspectionQueue := rfl
@[simp] theorem State.abandonBay_intake (n : Nat) : (State.abandonBay n s).intake = s.intake := rfl
@[simp] theorem State.abandonBay_filler (n : Nat) : (State.abandonBay n s).filler = s.filler := rfl
@[simp] theorem State.abandonBay_exposure (n : Nat) : (State.abandonBay n s).exposure = s.exposure := rfl
@[simp] theorem State.abandonBay_inspection (n : Nat) : (State.abandonBay n s).inspection = s.inspection := rfl
@[simp] theorem State.abandonBay_lines (n : Nat) : (State.abandonBay n s).lines = s.lines := rfl
@[simp] theorem State.abandonBay_link (n : Nat) : (State.abandonBay n s).link = s.link := rfl
@[simp] theorem State.abandonBay_pending (n : Nat) : (State.abandonBay n s).pending = s.pending := rfl

/-! State.askFill -/

@[simp] theorem State.askFill_settings : (State.askFill s).settings = s.settings := by
  unfold State.askFill; (repeat' split) <;> simp
@[simp] theorem State.askFill_bays : (State.askFill s).bays = s.bays := by
  unfold State.askFill; (repeat' split) <;> simp
@[simp] theorem State.askFill_approvalQueue : (State.askFill s).approvalQueue = s.approvalQueue := by
  unfold State.askFill; (repeat' split) <;> simp
@[simp] theorem State.askFill_inspectionQueue : (State.askFill s).inspectionQueue = s.inspectionQueue := by
  unfold State.askFill; (repeat' split) <;> simp
@[simp] theorem State.askFill_intake : (State.askFill s).intake = s.intake := by
  unfold State.askFill; (repeat' split) <;> simp
@[simp] theorem State.askFill_decoder : (State.askFill s).decoder = s.decoder := by
  unfold State.askFill; (repeat' split) <;> simp
@[simp] theorem State.askFill_screening : (State.askFill s).screening = s.screening := by
  unfold State.askFill; (repeat' split) <;> simp
@[simp] theorem State.askFill_exposure : (State.askFill s).exposure = s.exposure := by
  unfold State.askFill; (repeat' split) <;> simp
@[simp] theorem State.askFill_inspection : (State.askFill s).inspection = s.inspection := by
  unfold State.askFill; (repeat' split) <;> simp
@[simp] theorem State.askFill_lines : (State.askFill s).lines = s.lines := by
  unfold State.askFill; (repeat' split) <;> simp
@[simp] theorem State.askFill_link : (State.askFill s).link = s.link := by
  unfold State.askFill; (repeat' split) <;> simp
@[simp] theorem State.askFill_pending : (State.askFill s).pending = s.pending := by
  unfold State.askFill; (repeat' split) <;> simp

/-! State.startFill -/

@[simp] theorem State.startFill_settings (n : Nat) : (State.startFill n s).settings = s.settings := by
  unfold State.startFill; (repeat' split) <;> simp
@[simp] theorem State.startFill_bays (n : Nat) : (State.startFill n s).bays = s.bays := by
  unfold State.startFill; (repeat' split) <;> simp
@[simp] theorem State.startFill_approvalQueue (n : Nat) :
    (State.startFill n s).approvalQueue = s.approvalQueue := by
  unfold State.startFill; (repeat' split) <;> simp
@[simp] theorem State.startFill_inspectionQueue (n : Nat) :
    (State.startFill n s).inspectionQueue = s.inspectionQueue := by
  unfold State.startFill; (repeat' split) <;> simp
@[simp] theorem State.startFill_intake (n : Nat) : (State.startFill n s).intake = s.intake := by
  unfold State.startFill; (repeat' split) <;> simp
@[simp] theorem State.startFill_decoder (n : Nat) : (State.startFill n s).decoder = s.decoder := by
  unfold State.startFill; (repeat' split) <;> simp
@[simp] theorem State.startFill_screening (n : Nat) : (State.startFill n s).screening = s.screening := by
  unfold State.startFill; (repeat' split) <;> simp
@[simp] theorem State.startFill_exposure (n : Nat) : (State.startFill n s).exposure = s.exposure := by
  unfold State.startFill; (repeat' split) <;> simp
@[simp] theorem State.startFill_inspection (n : Nat) : (State.startFill n s).inspection = s.inspection := by
  unfold State.startFill; (repeat' split) <;> simp
@[simp] theorem State.startFill_lines (n : Nat) : (State.startFill n s).lines = s.lines := by
  unfold State.startFill; (repeat' split) <;> simp
@[simp] theorem State.startFill_link (n : Nat) : (State.startFill n s).link = s.link := by
  unfold State.startFill; (repeat' split) <;> simp
@[simp] theorem State.startFill_pending (n : Nat) : (State.startFill n s).pending = s.pending := by
  unfold State.startFill; (repeat' split) <;> simp

/-! State.handToFiller -/

@[simp] theorem State.handToFiller_settings (n : Nat) : (State.handToFiller n s).settings = s.settings := by
  unfold State.handToFiller; (repeat' split) <;> simp
@[simp] theorem State.handToFiller_bays (n : Nat) : (State.handToFiller n s).bays = s.bays := by
  unfold State.handToFiller; (repeat' split) <;> simp
@[simp] theorem State.handToFiller_approvalQueue (n : Nat) :
    (State.handToFiller n s).approvalQueue = s.approvalQueue := by
  unfold State.handToFiller; (repeat' split) <;> simp
@[simp] theorem State.handToFiller_inspectionQueue (n : Nat) :
    (State.handToFiller n s).inspectionQueue = s.inspectionQueue := by
  unfold State.handToFiller; (repeat' split) <;> simp
@[simp] theorem State.handToFiller_intake (n : Nat) : (State.handToFiller n s).intake = s.intake := by
  unfold State.handToFiller; (repeat' split) <;> simp
@[simp] theorem State.handToFiller_decoder (n : Nat) : (State.handToFiller n s).decoder = s.decoder := by
  unfold State.handToFiller; (repeat' split) <;> simp
@[simp] theorem State.handToFiller_screening (n : Nat) : (State.handToFiller n s).screening = s.screening := by
  unfold State.handToFiller; (repeat' split) <;> simp
@[simp] theorem State.handToFiller_exposure (n : Nat) : (State.handToFiller n s).exposure = s.exposure := by
  unfold State.handToFiller; (repeat' split) <;> simp
@[simp] theorem State.handToFiller_inspection (n : Nat) : (State.handToFiller n s).inspection = s.inspection := by
  unfold State.handToFiller; (repeat' split) <;> simp
@[simp] theorem State.handToFiller_lines (n : Nat) : (State.handToFiller n s).lines = s.lines := by
  unfold State.handToFiller; (repeat' split) <;> simp
@[simp] theorem State.handToFiller_link (n : Nat) : (State.handToFiller n s).link = s.link := by
  unfold State.handToFiller; (repeat' split) <;> simp
@[simp] theorem State.handToFiller_pending (n : Nat) : (State.handToFiller n s).pending = s.pending := by
  unfold State.handToFiller; (repeat' split) <;> simp

/-! State.nextFill -/

@[simp] theorem State.nextFill_settings : (State.nextFill s).settings = s.settings := by
  unfold State.nextFill; (repeat' split) <;> simp
@[simp] theorem State.nextFill_bays : (State.nextFill s).bays = s.bays := by
  unfold State.nextFill; (repeat' split) <;> simp
@[simp] theorem State.nextFill_approvalQueue : (State.nextFill s).approvalQueue = s.approvalQueue := by
  unfold State.nextFill; (repeat' split) <;> simp
@[simp] theorem State.nextFill_inspectionQueue : (State.nextFill s).inspectionQueue = s.inspectionQueue := by
  unfold State.nextFill; (repeat' split) <;> simp
@[simp] theorem State.nextFill_intake : (State.nextFill s).intake = s.intake := by
  unfold State.nextFill; (repeat' split) <;> simp
@[simp] theorem State.nextFill_decoder : (State.nextFill s).decoder = s.decoder := by
  unfold State.nextFill; (repeat' split) <;> simp
@[simp] theorem State.nextFill_screening : (State.nextFill s).screening = s.screening := by
  unfold State.nextFill; (repeat' split) <;> simp
@[simp] theorem State.nextFill_exposure : (State.nextFill s).exposure = s.exposure := by
  unfold State.nextFill; (repeat' split) <;> simp
@[simp] theorem State.nextFill_inspection : (State.nextFill s).inspection = s.inspection := by
  unfold State.nextFill; (repeat' split) <;> simp
@[simp] theorem State.nextFill_lines : (State.nextFill s).lines = s.lines := by
  unfold State.nextFill; (repeat' split) <;> simp
@[simp] theorem State.nextFill_link : (State.nextFill s).link = s.link := by
  unfold State.nextFill; (repeat' split) <;> simp
@[simp] theorem State.nextFill_pending : (State.nextFill s).pending = s.pending := by
  unfold State.nextFill; (repeat' split) <;> simp

/-! State.stopFill -/

@[simp] theorem State.stopFill_settings (n : Nat) : (State.stopFill n s).settings = s.settings := by
  unfold State.stopFill; (repeat' split) <;> simp
@[simp] theorem State.stopFill_bays (n : Nat) : (State.stopFill n s).bays = s.bays := by
  unfold State.stopFill; (repeat' split) <;> simp
@[simp] theorem State.stopFill_approvalQueue (n : Nat) : (State.stopFill n s).approvalQueue = s.approvalQueue := by
  unfold State.stopFill; (repeat' split) <;> simp
@[simp] theorem State.stopFill_inspectionQueue (n : Nat) :
    (State.stopFill n s).inspectionQueue = s.inspectionQueue := by
  unfold State.stopFill; (repeat' split) <;> simp
@[simp] theorem State.stopFill_intake (n : Nat) : (State.stopFill n s).intake = s.intake := by
  unfold State.stopFill; (repeat' split) <;> simp
@[simp] theorem State.stopFill_decoder (n : Nat) : (State.stopFill n s).decoder = s.decoder := by
  unfold State.stopFill; (repeat' split) <;> simp
@[simp] theorem State.stopFill_screening (n : Nat) : (State.stopFill n s).screening = s.screening := by
  unfold State.stopFill; (repeat' split) <;> simp
@[simp] theorem State.stopFill_exposure (n : Nat) : (State.stopFill n s).exposure = s.exposure := by
  unfold State.stopFill; (repeat' split) <;> simp
@[simp] theorem State.stopFill_inspection (n : Nat) : (State.stopFill n s).inspection = s.inspection := by
  unfold State.stopFill; (repeat' split) <;> simp
@[simp] theorem State.stopFill_lines (n : Nat) : (State.stopFill n s).lines = s.lines := by
  unfold State.stopFill; (repeat' split) <;> simp
@[simp] theorem State.stopFill_link (n : Nat) : (State.stopFill n s).link = s.link := by
  unfold State.stopFill; (repeat' split) <;> simp
@[simp] theorem State.stopFill_pending (n : Nat) : (State.stopFill n s).pending = s.pending := by
  unfold State.stopFill; (repeat' split) <;> simp

/-! State.letGo -/

@[simp] theorem State.letGo_settings (n : Nat) (p : Plate) : (State.letGo n p s).settings = s.settings := by
  unfold State.letGo; (repeat' split) <;> simp
@[simp] theorem State.letGo_bays (n : Nat) (p : Plate) : (State.letGo n p s).bays = s.bays := by
  unfold State.letGo; (repeat' split) <;> simp
@[simp] theorem State.letGo_inspectionQueue (n : Nat) (p : Plate) :
    (State.letGo n p s).inspectionQueue = s.inspectionQueue := by
  unfold State.letGo; (repeat' split) <;> simp
@[simp] theorem State.letGo_intake (n : Nat) (p : Plate) : (State.letGo n p s).intake = s.intake := by
  unfold State.letGo; (repeat' split) <;> simp
@[simp] theorem State.letGo_exposure (n : Nat) (p : Plate) : (State.letGo n p s).exposure = s.exposure := by
  unfold State.letGo; (repeat' split) <;> simp
@[simp] theorem State.letGo_inspection (n : Nat) (p : Plate) : (State.letGo n p s).inspection = s.inspection := by
  unfold State.letGo; (repeat' split) <;> simp
@[simp] theorem State.letGo_lines (n : Nat) (p : Plate) : (State.letGo n p s).lines = s.lines := by
  unfold State.letGo; (repeat' split) <;> simp
@[simp] theorem State.letGo_pending (n : Nat) (p : Plate) : (State.letGo n p s).pending = s.pending := by
  unfold State.letGo; (repeat' split) <;> simp

/-! State.freeBay -/

@[simp] theorem State.freeBay_settings (n : Nat) : (State.freeBay n s).settings = s.settings := by
  unfold State.freeBay; (repeat' split) <;> simp
@[simp] theorem State.freeBay_inspectionQueue (n : Nat) :
    (State.freeBay n s).inspectionQueue = s.inspectionQueue := by
  unfold State.freeBay; (repeat' split) <;> simp
@[simp] theorem State.freeBay_intake (n : Nat) : (State.freeBay n s).intake = s.intake := by
  unfold State.freeBay; (repeat' split) <;> simp
@[simp] theorem State.freeBay_exposure (n : Nat) : (State.freeBay n s).exposure = s.exposure := by
  unfold State.freeBay; (repeat' split) <;> simp
@[simp] theorem State.freeBay_inspection (n : Nat) : (State.freeBay n s).inspection = s.inspection := by
  unfold State.freeBay; (repeat' split) <;> simp
@[simp] theorem State.freeBay_lines (n : Nat) : (State.freeBay n s).lines = s.lines := by
  unfold State.freeBay; (repeat' split) <;> simp
@[simp] theorem State.freeBay_pending (n : Nat) : (State.freeBay n s).pending = s.pending := by
  unfold State.freeBay; (repeat' split) <;> simp

/-! State.stopExposing -/

@[simp] theorem State.stopExposing_settings : (State.stopExposing s).settings = s.settings := rfl
@[simp] theorem State.stopExposing_bays : (State.stopExposing s).bays = s.bays := rfl
@[simp] theorem State.stopExposing_approvalQueue : (State.stopExposing s).approvalQueue = s.approvalQueue := rfl
@[simp] theorem State.stopExposing_inspectionQueue :
    (State.stopExposing s).inspectionQueue = s.inspectionQueue := rfl
@[simp] theorem State.stopExposing_intake : (State.stopExposing s).intake = s.intake := rfl
@[simp] theorem State.stopExposing_decoder : (State.stopExposing s).decoder = s.decoder := rfl
@[simp] theorem State.stopExposing_screening : (State.stopExposing s).screening = s.screening := rfl
@[simp] theorem State.stopExposing_filler : (State.stopExposing s).filler = s.filler := rfl
@[simp] theorem State.stopExposing_inspection : (State.stopExposing s).inspection = s.inspection := rfl
@[simp] theorem State.stopExposing_lines : (State.stopExposing s).lines = s.lines := rfl
@[simp] theorem State.stopExposing_link : (State.stopExposing s).link = s.link := rfl
@[simp] theorem State.stopExposing_pending : (State.stopExposing s).pending = s.pending := rfl

/-! State.becomeIdle -/

@[simp] theorem State.becomeIdle_settings : (State.becomeIdle s).settings = s.settings := by
  unfold State.becomeIdle; simp
@[simp] theorem State.becomeIdle_inspectionQueue : (State.becomeIdle s).inspectionQueue = s.inspectionQueue := by
  unfold State.becomeIdle; simp
@[simp] theorem State.becomeIdle_intake : (State.becomeIdle s).intake = s.intake := by
  unfold State.becomeIdle; simp
@[simp] theorem State.becomeIdle_decoder : (State.becomeIdle s).decoder = s.decoder := by
  unfold State.becomeIdle; simp
@[simp] theorem State.becomeIdle_screening : (State.becomeIdle s).screening = s.screening := by
  unfold State.becomeIdle; simp
@[simp] theorem State.becomeIdle_filler : (State.becomeIdle s).filler = s.filler := by
  unfold State.becomeIdle; simp
@[simp] theorem State.becomeIdle_inspection : (State.becomeIdle s).inspection = s.inspection := by
  unfold State.becomeIdle; simp
@[simp] theorem State.becomeIdle_lines : (State.becomeIdle s).lines = s.lines := by
  unfold State.becomeIdle; simp
@[simp] theorem State.becomeIdle_pending : (State.becomeIdle s).pending = s.pending := by
  unfold State.becomeIdle; simp

/-! State.bayCompleted -/

@[simp] theorem State.bayCompleted_settings (n : Nat) : (State.bayCompleted n s).settings = s.settings := by
  unfold State.bayCompleted; simp
@[simp] theorem State.bayCompleted_approvalQueue (n : Nat) :
    (State.bayCompleted n s).approvalQueue = s.approvalQueue := by
  unfold State.bayCompleted; simp
@[simp] theorem State.bayCompleted_intake (n : Nat) : (State.bayCompleted n s).intake = s.intake := by
  unfold State.bayCompleted; simp
@[simp] theorem State.bayCompleted_decoder (n : Nat) : (State.bayCompleted n s).decoder = s.decoder := by
  unfold State.bayCompleted; simp
@[simp] theorem State.bayCompleted_screening (n : Nat) : (State.bayCompleted n s).screening = s.screening := by
  unfold State.bayCompleted; simp
@[simp] theorem State.bayCompleted_filler (n : Nat) : (State.bayCompleted n s).filler = s.filler := by
  unfold State.bayCompleted; simp
@[simp] theorem State.bayCompleted_store (n : Nat) : (State.bayCompleted n s).store = s.store := by
  unfold State.bayCompleted; simp
@[simp] theorem State.bayCompleted_exposure (n : Nat) : (State.bayCompleted n s).exposure = s.exposure := by
  unfold State.bayCompleted; simp
@[simp] theorem State.bayCompleted_inspection (n : Nat) : (State.bayCompleted n s).inspection = s.inspection := by
  unfold State.bayCompleted; simp
@[simp] theorem State.bayCompleted_lines (n : Nat) : (State.bayCompleted n s).lines = s.lines := by
  unfold State.bayCompleted; simp
@[simp] theorem State.bayCompleted_pending (n : Nat) : (State.bayCompleted n s).pending = s.pending := by
  unfold State.bayCompleted; simp

/-! State.baySpoiled -/

@[simp] theorem State.baySpoiled_settings (n : Nat) (k : PlateKey) (c : AbortCause) (q : Nat) :
    (State.baySpoiled n k c q s).settings = s.settings := by
  unfold State.baySpoiled; simp
@[simp] theorem State.baySpoiled_approvalQueue (n : Nat) (k : PlateKey) (c : AbortCause) (q : Nat) :
    (State.baySpoiled n k c q s).approvalQueue = s.approvalQueue := by
  unfold State.baySpoiled; simp
@[simp] theorem State.baySpoiled_intake (n : Nat) (k : PlateKey) (c : AbortCause) (q : Nat) :
    (State.baySpoiled n k c q s).intake = s.intake := by
  unfold State.baySpoiled; simp
@[simp] theorem State.baySpoiled_decoder (n : Nat) (k : PlateKey) (c : AbortCause) (q : Nat) :
    (State.baySpoiled n k c q s).decoder = s.decoder := by
  unfold State.baySpoiled; simp
@[simp] theorem State.baySpoiled_screening (n : Nat) (k : PlateKey) (c : AbortCause) (q : Nat) :
    (State.baySpoiled n k c q s).screening = s.screening := by
  unfold State.baySpoiled; simp
@[simp] theorem State.baySpoiled_filler (n : Nat) (k : PlateKey) (c : AbortCause) (q : Nat) :
    (State.baySpoiled n k c q s).filler = s.filler := by
  unfold State.baySpoiled; simp
@[simp] theorem State.baySpoiled_store (n : Nat) (k : PlateKey) (c : AbortCause) (q : Nat) :
    (State.baySpoiled n k c q s).store = s.store := by
  unfold State.baySpoiled; simp
@[simp] theorem State.baySpoiled_exposure (n : Nat) (k : PlateKey) (c : AbortCause) (q : Nat) :
    (State.baySpoiled n k c q s).exposure = s.exposure := by
  unfold State.baySpoiled; simp
@[simp] theorem State.baySpoiled_inspection (n : Nat) (k : PlateKey) (c : AbortCause) (q : Nat) :
    (State.baySpoiled n k c q s).inspection = s.inspection := by
  unfold State.baySpoiled; simp
@[simp] theorem State.baySpoiled_lines (n : Nat) (k : PlateKey) (c : AbortCause) (q : Nat) :
    (State.baySpoiled n k c q s).lines = s.lines := by
  unfold State.baySpoiled; simp
@[simp] theorem State.baySpoiled_pending (n : Nat) (k : PlateKey) (c : AbortCause) (q : Nat) :
    (State.baySpoiled n k c q s).pending = s.pending := by
  unfold State.baySpoiled; simp

/-! State.bayReturned -/

@[simp] theorem State.bayReturned_settings (n : Nat) (k : PlateKey) :
    (State.bayReturned n k s).settings = s.settings := by
  unfold State.bayReturned; (repeat' split) <;> simp
@[simp] theorem State.bayReturned_inspectionQueue (n : Nat) (k : PlateKey) :
    (State.bayReturned n k s).inspectionQueue = s.inspectionQueue := by
  unfold State.bayReturned; (repeat' split) <;> simp
@[simp] theorem State.bayReturned_intake (n : Nat) (k : PlateKey) :
    (State.bayReturned n k s).intake = s.intake := by
  unfold State.bayReturned; (repeat' split) <;> simp
@[simp] theorem State.bayReturned_inspection (n : Nat) (k : PlateKey) :
    (State.bayReturned n k s).inspection = s.inspection := by
  unfold State.bayReturned; (repeat' split) <;> simp
@[simp] theorem State.bayReturned_lines (n : Nat) (k : PlateKey) : (State.bayReturned n k s).lines = s.lines := by
  unfold State.bayReturned; (repeat' split) <;> simp
@[simp] theorem State.bayReturned_pending (n : Nat) (k : PlateKey) :
    (State.bayReturned n k s).pending = s.pending := by
  unfold State.bayReturned; (repeat' split) <;> simp

/-! State.completeExposure -/

@[simp] theorem State.completeExposure_settings : (State.completeExposure s).settings = s.settings := by
  unfold State.completeExposure; (repeat' split) <;> simp
@[simp] theorem State.completeExposure_intake : (State.completeExposure s).intake = s.intake := by
  unfold State.completeExposure; (repeat' split) <;> simp
@[simp] theorem State.completeExposure_decoder : (State.completeExposure s).decoder = s.decoder := by
  unfold State.completeExposure; (repeat' split) <;> simp
@[simp] theorem State.completeExposure_screening : (State.completeExposure s).screening = s.screening := by
  unfold State.completeExposure; (repeat' split) <;> simp
@[simp] theorem State.completeExposure_filler : (State.completeExposure s).filler = s.filler := by
  unfold State.completeExposure; (repeat' split) <;> simp
@[simp] theorem State.completeExposure_inspection : (State.completeExposure s).inspection = s.inspection := by
  unfold State.completeExposure; (repeat' split) <;> simp
@[simp] theorem State.completeExposure_lines : (State.completeExposure s).lines = s.lines := by
  unfold State.completeExposure; (repeat' split) <;> simp
@[simp] theorem State.completeExposure_pending : (State.completeExposure s).pending = s.pending := by
  unfold State.completeExposure; (repeat' split) <;> simp

/-! State.abort -/

@[simp] theorem State.abort_settings (c : AbortCause) : (State.abort c s).settings = s.settings := by
  unfold State.abort; dsimp only; (repeat' split) <;> simp
@[simp] theorem State.abort_intake (c : AbortCause) : (State.abort c s).intake = s.intake := by
  unfold State.abort; dsimp only; (repeat' split) <;> simp
@[simp] theorem State.abort_inspection (c : AbortCause) : (State.abort c s).inspection = s.inspection := by
  unfold State.abort; dsimp only; (repeat' split) <;> simp
@[simp] theorem State.abort_lines (c : AbortCause) : (State.abort c s).lines = s.lines := by
  unfold State.abort; dsimp only; (repeat' split) <;> simp
@[simp] theorem State.abort_pending (c : AbortCause) : (State.abort c s).pending = s.pending := by
  unfold State.abort; dsimp only; (repeat' split) <;> simp

/-! State.interlockFall -/

@[simp] theorem State.interlockFall_settings (c : AbortCause) :
    (State.interlockFall c s).settings = s.settings := by
  unfold State.interlockFall; (repeat' split) <;> simp
@[simp] theorem State.interlockFall_intake (c : AbortCause) : (State.interlockFall c s).intake = s.intake := by
  unfold State.interlockFall; (repeat' split) <;> simp
@[simp] theorem State.interlockFall_inspection (c : AbortCause) :
    (State.interlockFall c s).inspection = s.inspection := by
  unfold State.interlockFall; (repeat' split) <;> simp
@[simp] theorem State.interlockFall_lines (c : AbortCause) : (State.interlockFall c s).lines = s.lines := by
  unfold State.interlockFall; (repeat' split) <;> simp
@[simp] theorem State.interlockFall_pending (c : AbortCause) : (State.interlockFall c s).pending = s.pending := by
  unfold State.interlockFall; (repeat' split) <;> simp

/-! State.clearSpent -/

@[simp] theorem State.clearSpent_settings : (State.clearSpent s).settings = s.settings := by
  unfold State.clearSpent; (repeat' split) <;> simp
@[simp] theorem State.clearSpent_bays : (State.clearSpent s).bays = s.bays := by
  unfold State.clearSpent; (repeat' split) <;> simp
@[simp] theorem State.clearSpent_approvalQueue : (State.clearSpent s).approvalQueue = s.approvalQueue := by
  unfold State.clearSpent; (repeat' split) <;> simp
@[simp] theorem State.clearSpent_inspectionQueue : (State.clearSpent s).inspectionQueue = s.inspectionQueue := by
  unfold State.clearSpent; (repeat' split) <;> simp
@[simp] theorem State.clearSpent_intake : (State.clearSpent s).intake = s.intake := by
  unfold State.clearSpent; (repeat' split) <;> simp
@[simp] theorem State.clearSpent_decoder : (State.clearSpent s).decoder = s.decoder := by
  unfold State.clearSpent; (repeat' split) <;> simp
@[simp] theorem State.clearSpent_screening : (State.clearSpent s).screening = s.screening := by
  unfold State.clearSpent; (repeat' split) <;> simp
@[simp] theorem State.clearSpent_filler : (State.clearSpent s).filler = s.filler := by
  unfold State.clearSpent; (repeat' split) <;> simp
@[simp] theorem State.clearSpent_store : (State.clearSpent s).store = s.store := by
  unfold State.clearSpent; (repeat' split) <;> simp
@[simp] theorem State.clearSpent_inspection : (State.clearSpent s).inspection = s.inspection := by
  unfold State.clearSpent; (repeat' split) <;> simp
@[simp] theorem State.clearSpent_lines : (State.clearSpent s).lines = s.lines := by
  unfold State.clearSpent; (repeat' split) <;> simp
@[simp] theorem State.clearSpent_pending : (State.clearSpent s).pending = s.pending := by
  unfold State.clearSpent; (repeat' split) <;> simp

/-! State.passFetchComplete -/

@[simp] theorem State.passFetchComplete_settings : (State.passFetchComplete s).settings = s.settings := by
  unfold State.passFetchComplete; dsimp only; (repeat' split) <;> simp
@[simp] theorem State.passFetchComplete_bays : (State.passFetchComplete s).bays = s.bays := by
  unfold State.passFetchComplete; dsimp only; (repeat' split) <;> simp
@[simp] theorem State.passFetchComplete_approvalQueue :
    (State.passFetchComplete s).approvalQueue = s.approvalQueue := by
  unfold State.passFetchComplete; dsimp only; (repeat' split) <;> simp
@[simp] theorem State.passFetchComplete_inspectionQueue :
    (State.passFetchComplete s).inspectionQueue = s.inspectionQueue := by
  unfold State.passFetchComplete; dsimp only; (repeat' split) <;> simp
@[simp] theorem State.passFetchComplete_intake : (State.passFetchComplete s).intake = s.intake := by
  unfold State.passFetchComplete; dsimp only; (repeat' split) <;> simp
@[simp] theorem State.passFetchComplete_decoder : (State.passFetchComplete s).decoder = s.decoder := by
  unfold State.passFetchComplete; dsimp only; (repeat' split) <;> simp
@[simp] theorem State.passFetchComplete_screening : (State.passFetchComplete s).screening = s.screening := by
  unfold State.passFetchComplete; dsimp only; (repeat' split) <;> simp
@[simp] theorem State.passFetchComplete_filler : (State.passFetchComplete s).filler = s.filler := by
  unfold State.passFetchComplete; dsimp only; (repeat' split) <;> simp
@[simp] theorem State.passFetchComplete_inspection : (State.passFetchComplete s).inspection = s.inspection := by
  unfold State.passFetchComplete; dsimp only; (repeat' split) <;> simp
@[simp] theorem State.passFetchComplete_lines : (State.passFetchComplete s).lines = s.lines := by
  unfold State.passFetchComplete; dsimp only; (repeat' split) <;> simp
@[simp] theorem State.passFetchComplete_pending : (State.passFetchComplete s).pending = s.pending := by
  unfold State.passFetchComplete; dsimp only; (repeat' split) <;> simp

/-! State.closePass -/

@[simp] theorem State.closePass_settings : (State.closePass s).settings = s.settings := by
  unfold State.closePass; dsimp only; (repeat' split) <;> simp
@[simp] theorem State.closePass_intake : (State.closePass s).intake = s.intake := by
  unfold State.closePass; dsimp only; (repeat' split) <;> simp
@[simp] theorem State.closePass_decoder : (State.closePass s).decoder = s.decoder := by
  unfold State.closePass; dsimp only; (repeat' split) <;> simp
@[simp] theorem State.closePass_screening : (State.closePass s).screening = s.screening := by
  unfold State.closePass; dsimp only; (repeat' split) <;> simp
@[simp] theorem State.closePass_filler : (State.closePass s).filler = s.filler := by
  unfold State.closePass; dsimp only; (repeat' split) <;> simp
@[simp] theorem State.closePass_inspection : (State.closePass s).inspection = s.inspection := by
  unfold State.closePass; dsimp only; (repeat' split) <;> simp
@[simp] theorem State.closePass_lines : (State.closePass s).lines = s.lines := by
  unfold State.closePass; dsimp only; (repeat' split) <;> simp
@[simp] theorem State.closePass_pending : (State.closePass s).pending = s.pending := by
  unfold State.closePass; dsimp only; (repeat' split) <;> simp

/-! State.passClose -/

@[simp] theorem State.passClose_settings : (State.passClose s).settings = s.settings := by
  unfold State.passClose; (repeat' split) <;> simp
@[simp] theorem State.passClose_intake : (State.passClose s).intake = s.intake := by
  unfold State.passClose; (repeat' split) <;> simp
@[simp] theorem State.passClose_decoder : (State.passClose s).decoder = s.decoder := by
  unfold State.passClose; (repeat' split) <;> simp
@[simp] theorem State.passClose_screening : (State.passClose s).screening = s.screening := by
  unfold State.passClose; (repeat' split) <;> simp
@[simp] theorem State.passClose_filler : (State.passClose s).filler = s.filler := by
  unfold State.passClose; (repeat' split) <;> simp
@[simp] theorem State.passClose_inspection : (State.passClose s).inspection = s.inspection := by
  unfold State.passClose; (repeat' split) <;> simp
@[simp] theorem State.passClose_lines : (State.passClose s).lines = s.lines := by
  unfold State.passClose; (repeat' split) <;> simp
@[simp] theorem State.passClose_pending : (State.passClose s).pending = s.pending := by
  unfold State.passClose; (repeat' split) <;> simp

/-! State.nextPass -/

@[simp] theorem State.nextPass_settings : (State.nextPass s).settings = s.settings := by
  unfold State.nextPass; dsimp only; (repeat' split) <;> simp
@[simp] theorem State.nextPass_intake : (State.nextPass s).intake = s.intake := by
  unfold State.nextPass; dsimp only; (repeat' split) <;> simp
@[simp] theorem State.nextPass_inspection : (State.nextPass s).inspection = s.inspection := by
  unfold State.nextPass; dsimp only; (repeat' split) <;> simp
@[simp] theorem State.nextPass_lines : (State.nextPass s).lines = s.lines := by
  unfold State.nextPass; dsimp only; (repeat' split) <;> simp
@[simp] theorem State.nextPass_pending : (State.nextPass s).pending = s.pending := by
  unfold State.nextPass; dsimp only; (repeat' split) <;> simp

/-! State.firstPass -/

@[simp] theorem State.firstPass_settings : (State.firstPass s).settings = s.settings := by
  unfold State.firstPass; (repeat' split) <;> simp
@[simp] theorem State.firstPass_bays : (State.firstPass s).bays = s.bays := by
  unfold State.firstPass; (repeat' split) <;> simp
@[simp] theorem State.firstPass_approvalQueue : (State.firstPass s).approvalQueue = s.approvalQueue := by
  unfold State.firstPass; (repeat' split) <;> simp
@[simp] theorem State.firstPass_inspectionQueue : (State.firstPass s).inspectionQueue = s.inspectionQueue := by
  unfold State.firstPass; (repeat' split) <;> simp
@[simp] theorem State.firstPass_intake : (State.firstPass s).intake = s.intake := by
  unfold State.firstPass; (repeat' split) <;> simp
@[simp] theorem State.firstPass_decoder : (State.firstPass s).decoder = s.decoder := by
  unfold State.firstPass; (repeat' split) <;> simp
@[simp] theorem State.firstPass_screening : (State.firstPass s).screening = s.screening := by
  unfold State.firstPass; (repeat' split) <;> simp
@[simp] theorem State.firstPass_filler : (State.firstPass s).filler = s.filler := by
  unfold State.firstPass; (repeat' split) <;> simp
@[simp] theorem State.firstPass_store : (State.firstPass s).store = s.store := by
  unfold State.firstPass; (repeat' split) <;> simp
@[simp] theorem State.firstPass_inspection : (State.firstPass s).inspection = s.inspection := by
  unfold State.firstPass; (repeat' split) <;> simp
@[simp] theorem State.firstPass_lines : (State.firstPass s).lines = s.lines := by
  unfold State.firstPass; (repeat' split) <;> simp
@[simp] theorem State.firstPass_pending : (State.firstPass s).pending = s.pending := by
  unfold State.firstPass; (repeat' split) <;> simp

/-! State.drumIndex -/

@[simp] theorem State.drumIndex_settings : (State.drumIndex s).settings = s.settings := by
  unfold State.drumIndex; dsimp only; (repeat' split) <;> simp
@[simp] theorem State.drumIndex_intake : (State.drumIndex s).intake = s.intake := by
  unfold State.drumIndex; dsimp only; (repeat' split) <;> simp
@[simp] theorem State.drumIndex_inspection : (State.drumIndex s).inspection = s.inspection := by
  unfold State.drumIndex; dsimp only; (repeat' split) <;> simp
@[simp] theorem State.drumIndex_lines : (State.drumIndex s).lines = s.lines := by
  unfold State.drumIndex; dsimp only; (repeat' split) <;> simp
@[simp] theorem State.drumIndex_pending : (State.drumIndex s).pending = s.pending := by
  unfold State.drumIndex; dsimp only; (repeat' split) <;> simp

/-! State.dotClock -/

@[simp] theorem State.dotClock_settings : (State.dotClock s).settings = s.settings := by
  unfold State.dotClock; (repeat' split) <;> simp
@[simp] theorem State.dotClock_bays : (State.dotClock s).bays = s.bays := by
  unfold State.dotClock; (repeat' split) <;> simp
@[simp] theorem State.dotClock_approvalQueue : (State.dotClock s).approvalQueue = s.approvalQueue := by
  unfold State.dotClock; (repeat' split) <;> simp
@[simp] theorem State.dotClock_inspectionQueue : (State.dotClock s).inspectionQueue = s.inspectionQueue := by
  unfold State.dotClock; (repeat' split) <;> simp
@[simp] theorem State.dotClock_intake : (State.dotClock s).intake = s.intake := by
  unfold State.dotClock; (repeat' split) <;> simp
@[simp] theorem State.dotClock_decoder : (State.dotClock s).decoder = s.decoder := by
  unfold State.dotClock; (repeat' split) <;> simp
@[simp] theorem State.dotClock_screening : (State.dotClock s).screening = s.screening := by
  unfold State.dotClock; (repeat' split) <;> simp
@[simp] theorem State.dotClock_filler : (State.dotClock s).filler = s.filler := by
  unfold State.dotClock; (repeat' split) <;> simp
@[simp] theorem State.dotClock_store : (State.dotClock s).store = s.store := by
  unfold State.dotClock; (repeat' split) <;> simp
@[simp] theorem State.dotClock_inspection : (State.dotClock s).inspection = s.inspection := by
  unfold State.dotClock; (repeat' split) <;> simp
@[simp] theorem State.dotClock_lines : (State.dotClock s).lines = s.lines := by
  unfold State.dotClock; (repeat' split) <;> simp
@[simp] theorem State.dotClock_link : (State.dotClock s).link = s.link := by
  unfold State.dotClock; (repeat' split) <;> simp
@[simp] theorem State.dotClock_pending : (State.dotClock s).pending = s.pending := by
  unfold State.dotClock; (repeat' split) <;> simp

/-! State.proceed -/

@[simp] theorem State.proceed_settings (i : Nat) (ctx : StripContext) (b : Block) (ls : List Line) (k : Nat) :
    (State.proceed i ctx b ls k s).settings = s.settings := by
  unfold State.proceed; (repeat' split) <;> simp
@[simp] theorem State.proceed_bays (i : Nat) (ctx : StripContext) (b : Block) (ls : List Line) (k : Nat) :
    (State.proceed i ctx b ls k s).bays = s.bays := by
  unfold State.proceed; (repeat' split) <;> simp
@[simp] theorem State.proceed_approvalQueue (i : Nat) (ctx : StripContext) (b : Block) (ls : List Line) (k : Nat) :
    (State.proceed i ctx b ls k s).approvalQueue = s.approvalQueue := by
  unfold State.proceed; (repeat' split) <;> simp
@[simp] theorem State.proceed_inspectionQueue (i : Nat) (ctx : StripContext) (b : Block) (ls : List Line) (k : Nat) :
    (State.proceed i ctx b ls k s).inspectionQueue = s.inspectionQueue := by
  unfold State.proceed; (repeat' split) <;> simp
@[simp] theorem State.proceed_intake (i : Nat) (ctx : StripContext) (b : Block) (ls : List Line) (k : Nat) :
    (State.proceed i ctx b ls k s).intake = s.intake := by
  unfold State.proceed; (repeat' split) <;> simp
@[simp] theorem State.proceed_filler (i : Nat) (ctx : StripContext) (b : Block) (ls : List Line) (k : Nat) :
    (State.proceed i ctx b ls k s).filler = s.filler := by
  unfold State.proceed; (repeat' split) <;> simp
@[simp] theorem State.proceed_store (i : Nat) (ctx : StripContext) (b : Block) (ls : List Line) (k : Nat) :
    (State.proceed i ctx b ls k s).store = s.store := by
  unfold State.proceed; (repeat' split) <;> simp
@[simp] theorem State.proceed_exposure (i : Nat) (ctx : StripContext) (b : Block) (ls : List Line) (k : Nat) :
    (State.proceed i ctx b ls k s).exposure = s.exposure := by
  unfold State.proceed; (repeat' split) <;> simp
@[simp] theorem State.proceed_inspection (i : Nat) (ctx : StripContext) (b : Block) (ls : List Line) (k : Nat) :
    (State.proceed i ctx b ls k s).inspection = s.inspection := by
  unfold State.proceed; (repeat' split) <;> simp
@[simp] theorem State.proceed_lines (i : Nat) (ctx : StripContext) (b : Block) (ls : List Line) (k : Nat) :
    (State.proceed i ctx b ls k s).lines = s.lines := by
  unfold State.proceed; (repeat' split) <;> simp
@[simp] theorem State.proceed_link (i : Nat) (ctx : StripContext) (b : Block) (ls : List Line) (k : Nat) :
    (State.proceed i ctx b ls k s).link = s.link := by
  unfold State.proceed; (repeat' split) <;> simp
@[simp] theorem State.proceed_pending (i : Nat) (ctx : StripContext) (b : Block) (ls : List Line) (k : Nat) :
    (State.proceed i ctx b ls k s).pending = s.pending := by
  unfold State.proceed; (repeat' split) <;> simp

/-! State.bindBlock -/

@[simp] theorem State.bindBlock_settings (i n : Nat) (p : Plate) (b : Block) :
    (State.bindBlock i n p b s).settings = s.settings := by
  unfold State.bindBlock; (repeat' split) <;> simp
@[simp] theorem State.bindBlock_bays (i n : Nat) (p : Plate) (b : Block) :
    (State.bindBlock i n p b s).bays = s.bays := by
  unfold State.bindBlock; (repeat' split) <;> simp
@[simp] theorem State.bindBlock_approvalQueue (i n : Nat) (p : Plate) (b : Block) :
    (State.bindBlock i n p b s).approvalQueue = s.approvalQueue := by
  unfold State.bindBlock; (repeat' split) <;> simp
@[simp] theorem State.bindBlock_inspectionQueue (i n : Nat) (p : Plate) (b : Block) :
    (State.bindBlock i n p b s).inspectionQueue = s.inspectionQueue := by
  unfold State.bindBlock; (repeat' split) <;> simp
@[simp] theorem State.bindBlock_intake (i n : Nat) (p : Plate) (b : Block) :
    (State.bindBlock i n p b s).intake = s.intake := by
  unfold State.bindBlock; (repeat' split) <;> simp
@[simp] theorem State.bindBlock_filler (i n : Nat) (p : Plate) (b : Block) :
    (State.bindBlock i n p b s).filler = s.filler := by
  unfold State.bindBlock; (repeat' split) <;> simp
@[simp] theorem State.bindBlock_store (i n : Nat) (p : Plate) (b : Block) :
    (State.bindBlock i n p b s).store = s.store := by
  unfold State.bindBlock; (repeat' split) <;> simp
@[simp] theorem State.bindBlock_exposure (i n : Nat) (p : Plate) (b : Block) :
    (State.bindBlock i n p b s).exposure = s.exposure := by
  unfold State.bindBlock; (repeat' split) <;> simp
@[simp] theorem State.bindBlock_inspection (i n : Nat) (p : Plate) (b : Block) :
    (State.bindBlock i n p b s).inspection = s.inspection := by
  unfold State.bindBlock; (repeat' split) <;> simp
@[simp] theorem State.bindBlock_lines (i n : Nat) (p : Plate) (b : Block) :
    (State.bindBlock i n p b s).lines = s.lines := by
  unfold State.bindBlock; (repeat' split) <;> simp
@[simp] theorem State.bindBlock_link (i n : Nat) (p : Plate) (b : Block) :
    (State.bindBlock i n p b s).link = s.link := by
  unfold State.bindBlock; (repeat' split) <;> simp
@[simp] theorem State.bindBlock_pending (i n : Nat) (p : Plate) (b : Block) :
    (State.bindBlock i n p b s).pending = s.pending := by
  unfold State.bindBlock; (repeat' split) <;> simp

/-! State.dropBlock -/

@[simp] theorem State.dropBlock_settings : (State.dropBlock s).settings = s.settings := rfl
@[simp] theorem State.dropBlock_bays : (State.dropBlock s).bays = s.bays := rfl
@[simp] theorem State.dropBlock_approvalQueue : (State.dropBlock s).approvalQueue = s.approvalQueue := rfl
@[simp] theorem State.dropBlock_inspectionQueue : (State.dropBlock s).inspectionQueue = s.inspectionQueue := rfl
@[simp] theorem State.dropBlock_decoder : (State.dropBlock s).decoder = s.decoder := rfl
@[simp] theorem State.dropBlock_screening : (State.dropBlock s).screening = s.screening := rfl
@[simp] theorem State.dropBlock_filler : (State.dropBlock s).filler = s.filler := rfl
@[simp] theorem State.dropBlock_store : (State.dropBlock s).store = s.store := rfl
@[simp] theorem State.dropBlock_exposure : (State.dropBlock s).exposure = s.exposure := rfl
@[simp] theorem State.dropBlock_inspection : (State.dropBlock s).inspection = s.inspection := rfl
@[simp] theorem State.dropBlock_lines : (State.dropBlock s).lines = s.lines := rfl
@[simp] theorem State.dropBlock_link : (State.dropBlock s).link = s.link := rfl
@[simp] theorem State.dropBlock_pending : (State.dropBlock s).pending = s.pending := rfl

/-! State.judgeBlock -/

@[simp] theorem State.judgeBlock_settings (b : Block) : (State.judgeBlock b s).settings = s.settings := by
  unfold State.judgeBlock; (repeat' split) <;> simp
@[simp] theorem State.judgeBlock_approvalQueue (b : Block) :
    (State.judgeBlock b s).approvalQueue = s.approvalQueue := by
  unfold State.judgeBlock; (repeat' split) <;> simp
@[simp] theorem State.judgeBlock_inspectionQueue (b : Block) :
    (State.judgeBlock b s).inspectionQueue = s.inspectionQueue := by
  unfold State.judgeBlock; (repeat' split) <;> simp
@[simp] theorem State.judgeBlock_filler (b : Block) : (State.judgeBlock b s).filler = s.filler := by
  unfold State.judgeBlock; (repeat' split) <;> simp
@[simp] theorem State.judgeBlock_store (b : Block) : (State.judgeBlock b s).store = s.store := by
  unfold State.judgeBlock; (repeat' split) <;> simp
@[simp] theorem State.judgeBlock_exposure (b : Block) : (State.judgeBlock b s).exposure = s.exposure := by
  unfold State.judgeBlock; (repeat' split) <;> simp
@[simp] theorem State.judgeBlock_inspection (b : Block) : (State.judgeBlock b s).inspection = s.inspection := by
  unfold State.judgeBlock; (repeat' split) <;> simp
@[simp] theorem State.judgeBlock_lines (b : Block) : (State.judgeBlock b s).lines = s.lines := by
  unfold State.judgeBlock; (repeat' split) <;> simp
@[simp] theorem State.judgeBlock_link (b : Block) : (State.judgeBlock b s).link = s.link := by
  unfold State.judgeBlock; (repeat' split) <;> simp
@[simp] theorem State.judgeBlock_pending (b : Block) : (State.judgeBlock b s).pending = s.pending := by
  unfold State.judgeBlock; (repeat' split) <;> simp

/-! State.blockTake -/

@[simp] theorem State.blockTake_settings : (State.blockTake s).settings = s.settings := by
  unfold State.blockTake; (repeat' split) <;> simp
@[simp] theorem State.blockTake_approvalQueue : (State.blockTake s).approvalQueue = s.approvalQueue := by
  unfold State.blockTake; (repeat' split) <;> simp
@[simp] theorem State.blockTake_inspectionQueue : (State.blockTake s).inspectionQueue = s.inspectionQueue := by
  unfold State.blockTake; (repeat' split) <;> simp
@[simp] theorem State.blockTake_filler : (State.blockTake s).filler = s.filler := by
  unfold State.blockTake; (repeat' split) <;> simp
@[simp] theorem State.blockTake_store : (State.blockTake s).store = s.store := by
  unfold State.blockTake; (repeat' split) <;> simp
@[simp] theorem State.blockTake_exposure : (State.blockTake s).exposure = s.exposure := by
  unfold State.blockTake; (repeat' split) <;> simp
@[simp] theorem State.blockTake_inspection : (State.blockTake s).inspection = s.inspection := by
  unfold State.blockTake; (repeat' split) <;> simp
@[simp] theorem State.blockTake_lines : (State.blockTake s).lines = s.lines := by
  unfold State.blockTake; (repeat' split) <;> simp
@[simp] theorem State.blockTake_link : (State.blockTake s).link = s.link := by
  unfold State.blockTake; (repeat' split) <;> simp
@[simp] theorem State.blockTake_pending : (State.blockTake s).pending = s.pending := by
  unfold State.blockTake; (repeat' split) <;> simp

/-! State.windowApplied -/

@[simp] theorem State.windowApplied_settings : (State.windowApplied s).settings = s.settings := by
  unfold State.windowApplied; (repeat' split) <;> simp
@[simp] theorem State.windowApplied_bays : (State.windowApplied s).bays = s.bays := by
  unfold State.windowApplied; (repeat' split) <;> simp
@[simp] theorem State.windowApplied_approvalQueue : (State.windowApplied s).approvalQueue = s.approvalQueue := by
  unfold State.windowApplied; (repeat' split) <;> simp
@[simp] theorem State.windowApplied_inspectionQueue :
    (State.windowApplied s).inspectionQueue = s.inspectionQueue := by
  unfold State.windowApplied; (repeat' split) <;> simp
@[simp] theorem State.windowApplied_intake : (State.windowApplied s).intake = s.intake := by
  unfold State.windowApplied; (repeat' split) <;> simp
@[simp] theorem State.windowApplied_filler : (State.windowApplied s).filler = s.filler := by
  unfold State.windowApplied; (repeat' split) <;> simp
@[simp] theorem State.windowApplied_store : (State.windowApplied s).store = s.store := by
  unfold State.windowApplied; (repeat' split) <;> simp
@[simp] theorem State.windowApplied_exposure : (State.windowApplied s).exposure = s.exposure := by
  unfold State.windowApplied; (repeat' split) <;> simp
@[simp] theorem State.windowApplied_inspection : (State.windowApplied s).inspection = s.inspection := by
  unfold State.windowApplied; (repeat' split) <;> simp
@[simp] theorem State.windowApplied_lines : (State.windowApplied s).lines = s.lines := by
  unfold State.windowApplied; (repeat' split) <;> simp
@[simp] theorem State.windowApplied_link : (State.windowApplied s).link = s.link := by
  unfold State.windowApplied; (repeat' split) <;> simp
@[simp] theorem State.windowApplied_pending : (State.windowApplied s).pending = s.pending := by
  unfold State.windowApplied; (repeat' split) <;> simp

/-! State.endDecode -/

@[simp] theorem State.endDecode_settings (i : Nat) (ctx : StripContext) (ls : List Line) (c : FaultCause) :
    (State.endDecode i ctx ls c s).settings = s.settings := rfl
@[simp] theorem State.endDecode_bays (i : Nat) (ctx : StripContext) (ls : List Line) (c : FaultCause) :
    (State.endDecode i ctx ls c s).bays = s.bays := rfl
@[simp] theorem State.endDecode_approvalQueue (i : Nat) (ctx : StripContext) (ls : List Line) (c : FaultCause) :
    (State.endDecode i ctx ls c s).approvalQueue = s.approvalQueue := rfl
@[simp] theorem State.endDecode_inspectionQueue (i : Nat) (ctx : StripContext) (ls : List Line) (c : FaultCause) :
    (State.endDecode i ctx ls c s).inspectionQueue = s.inspectionQueue := rfl
@[simp] theorem State.endDecode_intake (i : Nat) (ctx : StripContext) (ls : List Line) (c : FaultCause) :
    (State.endDecode i ctx ls c s).intake = s.intake := rfl
@[simp] theorem State.endDecode_screening (i : Nat) (ctx : StripContext) (ls : List Line) (c : FaultCause) :
    (State.endDecode i ctx ls c s).screening = s.screening := rfl
@[simp] theorem State.endDecode_filler (i : Nat) (ctx : StripContext) (ls : List Line) (c : FaultCause) :
    (State.endDecode i ctx ls c s).filler = s.filler := rfl
@[simp] theorem State.endDecode_store (i : Nat) (ctx : StripContext) (ls : List Line) (c : FaultCause) :
    (State.endDecode i ctx ls c s).store = s.store := rfl
@[simp] theorem State.endDecode_exposure (i : Nat) (ctx : StripContext) (ls : List Line) (c : FaultCause) :
    (State.endDecode i ctx ls c s).exposure = s.exposure := rfl
@[simp] theorem State.endDecode_inspection (i : Nat) (ctx : StripContext) (ls : List Line) (c : FaultCause) :
    (State.endDecode i ctx ls c s).inspection = s.inspection := rfl
@[simp] theorem State.endDecode_lines (i : Nat) (ctx : StripContext) (ls : List Line) (c : FaultCause) :
    (State.endDecode i ctx ls c s).lines = s.lines := rfl
@[simp] theorem State.endDecode_link (i : Nat) (ctx : StripContext) (ls : List Line) (c : FaultCause) :
    (State.endDecode i ctx ls c s).link = s.link := rfl
@[simp] theorem State.endDecode_pending (i : Nat) (ctx : StripContext) (ls : List Line) (c : FaultCause) :
    (State.endDecode i ctx ls c s).pending = s.pending := rfl

/-! State.decodeEnd -/

@[simp] theorem State.decodeEnd_settings : (State.decodeEnd s).settings = s.settings := by
  unfold State.decodeEnd; (repeat' split) <;> simp
@[simp] theorem State.decodeEnd_bays : (State.decodeEnd s).bays = s.bays := by
  unfold State.decodeEnd; (repeat' split) <;> simp
@[simp] theorem State.decodeEnd_approvalQueue : (State.decodeEnd s).approvalQueue = s.approvalQueue := by
  unfold State.decodeEnd; (repeat' split) <;> simp
@[simp] theorem State.decodeEnd_inspectionQueue : (State.decodeEnd s).inspectionQueue = s.inspectionQueue := by
  unfold State.decodeEnd; (repeat' split) <;> simp
@[simp] theorem State.decodeEnd_intake : (State.decodeEnd s).intake = s.intake := by
  unfold State.decodeEnd; (repeat' split) <;> simp
@[simp] theorem State.decodeEnd_screening : (State.decodeEnd s).screening = s.screening := by
  unfold State.decodeEnd; (repeat' split) <;> simp
@[simp] theorem State.decodeEnd_filler : (State.decodeEnd s).filler = s.filler := by
  unfold State.decodeEnd; (repeat' split) <;> simp
@[simp] theorem State.decodeEnd_store : (State.decodeEnd s).store = s.store := by
  unfold State.decodeEnd; (repeat' split) <;> simp
@[simp] theorem State.decodeEnd_exposure : (State.decodeEnd s).exposure = s.exposure := by
  unfold State.decodeEnd; (repeat' split) <;> simp
@[simp] theorem State.decodeEnd_inspection : (State.decodeEnd s).inspection = s.inspection := by
  unfold State.decodeEnd; (repeat' split) <;> simp
@[simp] theorem State.decodeEnd_lines : (State.decodeEnd s).lines = s.lines := by
  unfold State.decodeEnd; (repeat' split) <;> simp
@[simp] theorem State.decodeEnd_link : (State.decodeEnd s).link = s.link := by
  unfold State.decodeEnd; (repeat' split) <;> simp
@[simp] theorem State.decodeEnd_pending : (State.decodeEnd s).pending = s.pending := by
  unfold State.decodeEnd; (repeat' split) <;> simp

/-! State.stripWriteStart -/

@[simp] theorem State.stripWriteStart_settings : (State.stripWriteStart s).settings = s.settings := by
  unfold State.stripWriteStart; (repeat' split) <;> simp
@[simp] theorem State.stripWriteStart_bays : (State.stripWriteStart s).bays = s.bays := by
  unfold State.stripWriteStart; (repeat' split) <;> simp
@[simp] theorem State.stripWriteStart_approvalQueue :
    (State.stripWriteStart s).approvalQueue = s.approvalQueue := by
  unfold State.stripWriteStart; (repeat' split) <;> simp
@[simp] theorem State.stripWriteStart_inspectionQueue :
    (State.stripWriteStart s).inspectionQueue = s.inspectionQueue := by
  unfold State.stripWriteStart; (repeat' split) <;> simp
@[simp] theorem State.stripWriteStart_intake : (State.stripWriteStart s).intake = s.intake := by
  unfold State.stripWriteStart; (repeat' split) <;> simp
@[simp] theorem State.stripWriteStart_screening : (State.stripWriteStart s).screening = s.screening := by
  unfold State.stripWriteStart; (repeat' split) <;> simp
@[simp] theorem State.stripWriteStart_filler : (State.stripWriteStart s).filler = s.filler := by
  unfold State.stripWriteStart; (repeat' split) <;> simp
@[simp] theorem State.stripWriteStart_exposure : (State.stripWriteStart s).exposure = s.exposure := by
  unfold State.stripWriteStart; (repeat' split) <;> simp
@[simp] theorem State.stripWriteStart_inspection : (State.stripWriteStart s).inspection = s.inspection := by
  unfold State.stripWriteStart; (repeat' split) <;> simp
@[simp] theorem State.stripWriteStart_lines : (State.stripWriteStart s).lines = s.lines := by
  unfold State.stripWriteStart; (repeat' split) <;> simp
@[simp] theorem State.stripWriteStart_link : (State.stripWriteStart s).link = s.link := by
  unfold State.stripWriteStart; (repeat' split) <;> simp
@[simp] theorem State.stripWriteStart_pending : (State.stripWriteStart s).pending = s.pending := by
  unfold State.stripWriteStart; (repeat' split) <;> simp

/-! State.completeFill -/

@[simp] theorem State.completeFill_settings (n : Nat) (p : Plate) :
    (State.completeFill n p s).settings = s.settings := by
  unfold State.completeFill; simp
@[simp] theorem State.completeFill_inspectionQueue (n : Nat) (p : Plate) :
    (State.completeFill n p s).inspectionQueue = s.inspectionQueue := by
  unfold State.completeFill; simp
@[simp] theorem State.completeFill_intake (n : Nat) (p : Plate) : (State.completeFill n p s).intake = s.intake := by
  unfold State.completeFill; simp
@[simp] theorem State.completeFill_decoder (n : Nat) (p : Plate) :
    (State.completeFill n p s).decoder = s.decoder := by
  unfold State.completeFill; simp
@[simp] theorem State.completeFill_screening (n : Nat) (p : Plate) :
    (State.completeFill n p s).screening = s.screening := by
  unfold State.completeFill; simp
@[simp] theorem State.completeFill_inspection (n : Nat) (p : Plate) :
    (State.completeFill n p s).inspection = s.inspection := by
  unfold State.completeFill; simp
@[simp] theorem State.completeFill_lines (n : Nat) (p : Plate) : (State.completeFill n p s).lines = s.lines := by
  unfold State.completeFill; simp
@[simp] theorem State.completeFill_pending (n : Nat) (p : Plate) :
    (State.completeFill n p s).pending = s.pending := by
  unfold State.completeFill; simp

/-! State.completeHatchStrip -/

@[simp] theorem State.completeHatchStrip_settings (f : FillContext) :
    (State.completeHatchStrip f s).settings = s.settings := by
  unfold State.completeHatchStrip; dsimp only; (repeat' split) <;> simp
@[simp] theorem State.completeHatchStrip_inspectionQueue (f : FillContext) :
    (State.completeHatchStrip f s).inspectionQueue = s.inspectionQueue := by
  unfold State.completeHatchStrip; dsimp only; (repeat' split) <;> simp
@[simp] theorem State.completeHatchStrip_intake (f : FillContext) :
    (State.completeHatchStrip f s).intake = s.intake := by
  unfold State.completeHatchStrip; dsimp only; (repeat' split) <;> simp
@[simp] theorem State.completeHatchStrip_decoder (f : FillContext) :
    (State.completeHatchStrip f s).decoder = s.decoder := by
  unfold State.completeHatchStrip; dsimp only; (repeat' split) <;> simp
@[simp] theorem State.completeHatchStrip_screening (f : FillContext) :
    (State.completeHatchStrip f s).screening = s.screening := by
  unfold State.completeHatchStrip; dsimp only; (repeat' split) <;> simp
@[simp] theorem State.completeHatchStrip_inspection (f : FillContext) :
    (State.completeHatchStrip f s).inspection = s.inspection := by
  unfold State.completeHatchStrip; dsimp only; (repeat' split) <;> simp
@[simp] theorem State.completeHatchStrip_lines (f : FillContext) :
    (State.completeHatchStrip f s).lines = s.lines := by
  unfold State.completeHatchStrip; dsimp only; (repeat' split) <;> simp
@[simp] theorem State.completeHatchStrip_pending (f : FillContext) :
    (State.completeHatchStrip f s).pending = s.pending := by
  unfold State.completeHatchStrip; dsimp only; (repeat' split) <;> simp

/-! State.hatchStripComplete -/

@[simp] theorem State.hatchStripComplete_settings : (State.hatchStripComplete s).settings = s.settings := by
  unfold State.hatchStripComplete; (repeat' split) <;> simp
@[simp] theorem State.hatchStripComplete_inspectionQueue :
    (State.hatchStripComplete s).inspectionQueue = s.inspectionQueue := by
  unfold State.hatchStripComplete; (repeat' split) <;> simp
@[simp] theorem State.hatchStripComplete_intake : (State.hatchStripComplete s).intake = s.intake := by
  unfold State.hatchStripComplete; (repeat' split) <;> simp
@[simp] theorem State.hatchStripComplete_decoder : (State.hatchStripComplete s).decoder = s.decoder := by
  unfold State.hatchStripComplete; (repeat' split) <;> simp
@[simp] theorem State.hatchStripComplete_screening : (State.hatchStripComplete s).screening = s.screening := by
  unfold State.hatchStripComplete; (repeat' split) <;> simp
@[simp] theorem State.hatchStripComplete_inspection : (State.hatchStripComplete s).inspection = s.inspection := by
  unfold State.hatchStripComplete; (repeat' split) <;> simp
@[simp] theorem State.hatchStripComplete_lines : (State.hatchStripComplete s).lines = s.lines := by
  unfold State.hatchStripComplete; (repeat' split) <;> simp
@[simp] theorem State.hatchStripComplete_pending : (State.hatchStripComplete s).pending = s.pending := by
  unfold State.hatchStripComplete; (repeat' split) <;> simp

/-! State.endCalibration -/

@[simp] theorem State.endCalibration_settings (c : Calibration) (o : CalibrationOutcome) (w : Nat) (r : Reply) :
    (State.endCalibration c o w r s).settings = s.settings := by
  unfold State.endCalibration; simp
@[simp] theorem State.endCalibration_bays (c : Calibration) (o : CalibrationOutcome) (w : Nat) (r : Reply) :
    (State.endCalibration c o w r s).bays = s.bays := by
  unfold State.endCalibration; simp
@[simp] theorem State.endCalibration_approvalQueue (c : Calibration) (o : CalibrationOutcome) (w : Nat) (r : Reply) :
    (State.endCalibration c o w r s).approvalQueue = s.approvalQueue := by
  unfold State.endCalibration; simp
@[simp] theorem State.endCalibration_inspectionQueue (c : Calibration) (o : CalibrationOutcome) (w : Nat) (r : Reply) :
    (State.endCalibration c o w r s).inspectionQueue = s.inspectionQueue := by
  unfold State.endCalibration; simp
@[simp] theorem State.endCalibration_intake (c : Calibration) (o : CalibrationOutcome) (w : Nat) (r : Reply) :
    (State.endCalibration c o w r s).intake = s.intake := by
  unfold State.endCalibration; simp
@[simp] theorem State.endCalibration_decoder (c : Calibration) (o : CalibrationOutcome) (w : Nat) (r : Reply) :
    (State.endCalibration c o w r s).decoder = s.decoder := by
  unfold State.endCalibration; simp
@[simp] theorem State.endCalibration_screening (c : Calibration) (o : CalibrationOutcome) (w : Nat) (r : Reply) :
    (State.endCalibration c o w r s).screening = s.screening := by
  unfold State.endCalibration; simp
@[simp] theorem State.endCalibration_filler (c : Calibration) (o : CalibrationOutcome) (w : Nat) (r : Reply) :
    (State.endCalibration c o w r s).filler = s.filler := by
  unfold State.endCalibration; simp
@[simp] theorem State.endCalibration_store (c : Calibration) (o : CalibrationOutcome) (w : Nat) (r : Reply) :
    (State.endCalibration c o w r s).store = s.store := by
  unfold State.endCalibration; simp
@[simp] theorem State.endCalibration_exposure (c : Calibration) (o : CalibrationOutcome) (w : Nat) (r : Reply) :
    (State.endCalibration c o w r s).exposure = s.exposure := by
  unfold State.endCalibration; simp
@[simp] theorem State.endCalibration_lines (c : Calibration) (o : CalibrationOutcome) (w : Nat) (r : Reply) :
    (State.endCalibration c o w r s).lines = s.lines := by
  unfold State.endCalibration; simp
@[simp] theorem State.endCalibration_pending (c : Calibration) (o : CalibrationOutcome) (w : Nat) (r : Reply) :
    (State.endCalibration c o w r s).pending = s.pending := by
  unfold State.endCalibration; simp

/-! State.completeDark -/

@[simp] theorem State.completeDark_settings (c : Calibration) : (State.completeDark c s).settings = s.settings := by
  unfold State.completeDark; simp
@[simp] theorem State.completeDark_bays (c : Calibration) : (State.completeDark c s).bays = s.bays := by
  unfold State.completeDark; simp
@[simp] theorem State.completeDark_approvalQueue (c : Calibration) :
    (State.completeDark c s).approvalQueue = s.approvalQueue := by
  unfold State.completeDark; simp
@[simp] theorem State.completeDark_inspectionQueue (c : Calibration) :
    (State.completeDark c s).inspectionQueue = s.inspectionQueue := by
  unfold State.completeDark; simp
@[simp] theorem State.completeDark_intake (c : Calibration) : (State.completeDark c s).intake = s.intake := by
  unfold State.completeDark; simp
@[simp] theorem State.completeDark_decoder (c : Calibration) : (State.completeDark c s).decoder = s.decoder := by
  unfold State.completeDark; simp
@[simp] theorem State.completeDark_screening (c : Calibration) :
    (State.completeDark c s).screening = s.screening := by
  unfold State.completeDark; simp
@[simp] theorem State.completeDark_filler (c : Calibration) : (State.completeDark c s).filler = s.filler := by
  unfold State.completeDark; simp
@[simp] theorem State.completeDark_store (c : Calibration) : (State.completeDark c s).store = s.store := by
  unfold State.completeDark; simp
@[simp] theorem State.completeDark_exposure (c : Calibration) : (State.completeDark c s).exposure = s.exposure := by
  unfold State.completeDark; simp
@[simp] theorem State.completeDark_lines (c : Calibration) : (State.completeDark c s).lines = s.lines := by
  unfold State.completeDark; simp
@[simp] theorem State.completeDark_pending (c : Calibration) : (State.completeDark c s).pending = s.pending := by
  unfold State.completeDark; simp

/-! State.completeWhite -/

@[simp] theorem State.completeWhite_settings (c : Calibration) :
    (State.completeWhite c s).settings = s.settings := by
  unfold State.completeWhite; dsimp only; (repeat' split) <;> simp
@[simp] theorem State.completeWhite_bays (c : Calibration) : (State.completeWhite c s).bays = s.bays := by
  unfold State.completeWhite; dsimp only; (repeat' split) <;> simp
@[simp] theorem State.completeWhite_approvalQueue (c : Calibration) :
    (State.completeWhite c s).approvalQueue = s.approvalQueue := by
  unfold State.completeWhite; dsimp only; (repeat' split) <;> simp
@[simp] theorem State.completeWhite_inspectionQueue (c : Calibration) :
    (State.completeWhite c s).inspectionQueue = s.inspectionQueue := by
  unfold State.completeWhite; dsimp only; (repeat' split) <;> simp
@[simp] theorem State.completeWhite_intake (c : Calibration) : (State.completeWhite c s).intake = s.intake := by
  unfold State.completeWhite; dsimp only; (repeat' split) <;> simp
@[simp] theorem State.completeWhite_decoder (c : Calibration) : (State.completeWhite c s).decoder = s.decoder := by
  unfold State.completeWhite; dsimp only; (repeat' split) <;> simp
@[simp] theorem State.completeWhite_screening (c : Calibration) :
    (State.completeWhite c s).screening = s.screening := by
  unfold State.completeWhite; dsimp only; (repeat' split) <;> simp
@[simp] theorem State.completeWhite_filler (c : Calibration) : (State.completeWhite c s).filler = s.filler := by
  unfold State.completeWhite; dsimp only; (repeat' split) <;> simp
@[simp] theorem State.completeWhite_store (c : Calibration) : (State.completeWhite c s).store = s.store := by
  unfold State.completeWhite; dsimp only; (repeat' split) <;> simp
@[simp] theorem State.completeWhite_exposure (c : Calibration) :
    (State.completeWhite c s).exposure = s.exposure := by
  unfold State.completeWhite; dsimp only; (repeat' split) <;> simp
@[simp] theorem State.completeWhite_lines (c : Calibration) : (State.completeWhite c s).lines = s.lines := by
  unfold State.completeWhite; dsimp only; (repeat' split) <;> simp
@[simp] theorem State.completeWhite_pending (c : Calibration) : (State.completeWhite c s).pending = s.pending := by
  unfold State.completeWhite; dsimp only; (repeat' split) <;> simp

/-! State.completePhase -/

@[simp] theorem State.completePhase_settings (c : Calibration) :
    (State.completePhase c s).settings = s.settings := by
  unfold State.completePhase; (repeat' split) <;> simp
@[simp] theorem State.completePhase_bays (c : Calibration) : (State.completePhase c s).bays = s.bays := by
  unfold State.completePhase; (repeat' split) <;> simp
@[simp] theorem State.completePhase_approvalQueue (c : Calibration) :
    (State.completePhase c s).approvalQueue = s.approvalQueue := by
  unfold State.completePhase; (repeat' split) <;> simp
@[simp] theorem State.completePhase_inspectionQueue (c : Calibration) :
    (State.completePhase c s).inspectionQueue = s.inspectionQueue := by
  unfold State.completePhase; (repeat' split) <;> simp
@[simp] theorem State.completePhase_intake (c : Calibration) : (State.completePhase c s).intake = s.intake := by
  unfold State.completePhase; (repeat' split) <;> simp
@[simp] theorem State.completePhase_decoder (c : Calibration) : (State.completePhase c s).decoder = s.decoder := by
  unfold State.completePhase; (repeat' split) <;> simp
@[simp] theorem State.completePhase_screening (c : Calibration) :
    (State.completePhase c s).screening = s.screening := by
  unfold State.completePhase; (repeat' split) <;> simp
@[simp] theorem State.completePhase_filler (c : Calibration) : (State.completePhase c s).filler = s.filler := by
  unfold State.completePhase; (repeat' split) <;> simp
@[simp] theorem State.completePhase_store (c : Calibration) : (State.completePhase c s).store = s.store := by
  unfold State.completePhase; (repeat' split) <;> simp
@[simp] theorem State.completePhase_exposure (c : Calibration) :
    (State.completePhase c s).exposure = s.exposure := by
  unfold State.completePhase; (repeat' split) <;> simp
@[simp] theorem State.completePhase_lines (c : Calibration) : (State.completePhase c s).lines = s.lines := by
  unfold State.completePhase; (repeat' split) <;> simp
@[simp] theorem State.completePhase_pending (c : Calibration) : (State.completePhase c s).pending = s.pending := by
  unfold State.completePhase; (repeat' split) <;> simp

/-! State.cutCalibration -/

@[simp] theorem State.cutCalibration_settings : (State.cutCalibration s).settings = s.settings := by
  unfold State.cutCalibration; (repeat' split) <;> simp
@[simp] theorem State.cutCalibration_bays : (State.cutCalibration s).bays = s.bays := by
  unfold State.cutCalibration; (repeat' split) <;> simp
@[simp] theorem State.cutCalibration_approvalQueue : (State.cutCalibration s).approvalQueue = s.approvalQueue := by
  unfold State.cutCalibration; (repeat' split) <;> simp
@[simp] theorem State.cutCalibration_inspectionQueue :
    (State.cutCalibration s).inspectionQueue = s.inspectionQueue := by
  unfold State.cutCalibration; (repeat' split) <;> simp
@[simp] theorem State.cutCalibration_intake : (State.cutCalibration s).intake = s.intake := by
  unfold State.cutCalibration; (repeat' split) <;> simp
@[simp] theorem State.cutCalibration_decoder : (State.cutCalibration s).decoder = s.decoder := by
  unfold State.cutCalibration; (repeat' split) <;> simp
@[simp] theorem State.cutCalibration_screening : (State.cutCalibration s).screening = s.screening := by
  unfold State.cutCalibration; (repeat' split) <;> simp
@[simp] theorem State.cutCalibration_filler : (State.cutCalibration s).filler = s.filler := by
  unfold State.cutCalibration; (repeat' split) <;> simp
@[simp] theorem State.cutCalibration_store : (State.cutCalibration s).store = s.store := by
  unfold State.cutCalibration; (repeat' split) <;> simp
@[simp] theorem State.cutCalibration_exposure : (State.cutCalibration s).exposure = s.exposure := by
  unfold State.cutCalibration; (repeat' split) <;> simp
@[simp] theorem State.cutCalibration_lines : (State.cutCalibration s).lines = s.lines := by
  unfold State.cutCalibration; (repeat' split) <;> simp
@[simp] theorem State.cutCalibration_pending : (State.cutCalibration s).pending = s.pending := by
  unfold State.cutCalibration; (repeat' split) <;> simp

/-! State.darkCalibrationDone -/

@[simp] theorem State.darkCalibrationDone_settings : (State.darkCalibrationDone s).settings = s.settings := by
  unfold State.darkCalibrationDone; (repeat' split) <;> simp
@[simp] theorem State.darkCalibrationDone_bays : (State.darkCalibrationDone s).bays = s.bays := by
  unfold State.darkCalibrationDone; (repeat' split) <;> simp
@[simp] theorem State.darkCalibrationDone_approvalQueue :
    (State.darkCalibrationDone s).approvalQueue = s.approvalQueue := by
  unfold State.darkCalibrationDone; (repeat' split) <;> simp
@[simp] theorem State.darkCalibrationDone_inspectionQueue :
    (State.darkCalibrationDone s).inspectionQueue = s.inspectionQueue := by
  unfold State.darkCalibrationDone; (repeat' split) <;> simp
@[simp] theorem State.darkCalibrationDone_intake : (State.darkCalibrationDone s).intake = s.intake := by
  unfold State.darkCalibrationDone; (repeat' split) <;> simp
@[simp] theorem State.darkCalibrationDone_decoder : (State.darkCalibrationDone s).decoder = s.decoder := by
  unfold State.darkCalibrationDone; (repeat' split) <;> simp
@[simp] theorem State.darkCalibrationDone_screening : (State.darkCalibrationDone s).screening = s.screening := by
  unfold State.darkCalibrationDone; (repeat' split) <;> simp
@[simp] theorem State.darkCalibrationDone_filler : (State.darkCalibrationDone s).filler = s.filler := by
  unfold State.darkCalibrationDone; (repeat' split) <;> simp
@[simp] theorem State.darkCalibrationDone_store : (State.darkCalibrationDone s).store = s.store := by
  unfold State.darkCalibrationDone; (repeat' split) <;> simp
@[simp] theorem State.darkCalibrationDone_exposure : (State.darkCalibrationDone s).exposure = s.exposure := by
  unfold State.darkCalibrationDone; (repeat' split) <;> simp
@[simp] theorem State.darkCalibrationDone_lines : (State.darkCalibrationDone s).lines = s.lines := by
  unfold State.darkCalibrationDone; (repeat' split) <;> simp
@[simp] theorem State.darkCalibrationDone_pending : (State.darkCalibrationDone s).pending = s.pending := by
  unfold State.darkCalibrationDone; (repeat' split) <;> simp

/-! State.whiteCalibrationDone -/

@[simp] theorem State.whiteCalibrationDone_settings : (State.whiteCalibrationDone s).settings = s.settings := by
  unfold State.whiteCalibrationDone; (repeat' split) <;> simp
@[simp] theorem State.whiteCalibrationDone_bays : (State.whiteCalibrationDone s).bays = s.bays := by
  unfold State.whiteCalibrationDone; (repeat' split) <;> simp
@[simp] theorem State.whiteCalibrationDone_approvalQueue :
    (State.whiteCalibrationDone s).approvalQueue = s.approvalQueue := by
  unfold State.whiteCalibrationDone; (repeat' split) <;> simp
@[simp] theorem State.whiteCalibrationDone_inspectionQueue :
    (State.whiteCalibrationDone s).inspectionQueue = s.inspectionQueue := by
  unfold State.whiteCalibrationDone; (repeat' split) <;> simp
@[simp] theorem State.whiteCalibrationDone_intake : (State.whiteCalibrationDone s).intake = s.intake := by
  unfold State.whiteCalibrationDone; (repeat' split) <;> simp
@[simp] theorem State.whiteCalibrationDone_decoder : (State.whiteCalibrationDone s).decoder = s.decoder := by
  unfold State.whiteCalibrationDone; (repeat' split) <;> simp
@[simp] theorem State.whiteCalibrationDone_screening : (State.whiteCalibrationDone s).screening = s.screening := by
  unfold State.whiteCalibrationDone; (repeat' split) <;> simp
@[simp] theorem State.whiteCalibrationDone_filler : (State.whiteCalibrationDone s).filler = s.filler := by
  unfold State.whiteCalibrationDone; (repeat' split) <;> simp
@[simp] theorem State.whiteCalibrationDone_store : (State.whiteCalibrationDone s).store = s.store := by
  unfold State.whiteCalibrationDone; (repeat' split) <;> simp
@[simp] theorem State.whiteCalibrationDone_exposure : (State.whiteCalibrationDone s).exposure = s.exposure := by
  unfold State.whiteCalibrationDone; (repeat' split) <;> simp
@[simp] theorem State.whiteCalibrationDone_lines : (State.whiteCalibrationDone s).lines = s.lines := by
  unfold State.whiteCalibrationDone; (repeat' split) <;> simp
@[simp] theorem State.whiteCalibrationDone_pending : (State.whiteCalibrationDone s).pending = s.pending := by
  unfold State.whiteCalibrationDone; (repeat' split) <;> simp

/-! State.calibrationLine -/

@[simp] theorem State.calibrationLine_settings (c : Calibration) (l : ScanLine) :
    (State.calibrationLine c l s).settings = s.settings := by
  unfold State.calibrationLine; (repeat' split) <;> simp
@[simp] theorem State.calibrationLine_bays (c : Calibration) (l : ScanLine) :
    (State.calibrationLine c l s).bays = s.bays := by
  unfold State.calibrationLine; (repeat' split) <;> simp
@[simp] theorem State.calibrationLine_approvalQueue (c : Calibration) (l : ScanLine) :
    (State.calibrationLine c l s).approvalQueue = s.approvalQueue := by
  unfold State.calibrationLine; (repeat' split) <;> simp
@[simp] theorem State.calibrationLine_inspectionQueue (c : Calibration) (l : ScanLine) :
    (State.calibrationLine c l s).inspectionQueue = s.inspectionQueue := by
  unfold State.calibrationLine; (repeat' split) <;> simp
@[simp] theorem State.calibrationLine_intake (c : Calibration) (l : ScanLine) :
    (State.calibrationLine c l s).intake = s.intake := by
  unfold State.calibrationLine; (repeat' split) <;> simp
@[simp] theorem State.calibrationLine_decoder (c : Calibration) (l : ScanLine) :
    (State.calibrationLine c l s).decoder = s.decoder := by
  unfold State.calibrationLine; (repeat' split) <;> simp
@[simp] theorem State.calibrationLine_screening (c : Calibration) (l : ScanLine) :
    (State.calibrationLine c l s).screening = s.screening := by
  unfold State.calibrationLine; (repeat' split) <;> simp
@[simp] theorem State.calibrationLine_filler (c : Calibration) (l : ScanLine) :
    (State.calibrationLine c l s).filler = s.filler := by
  unfold State.calibrationLine; (repeat' split) <;> simp
@[simp] theorem State.calibrationLine_store (c : Calibration) (l : ScanLine) :
    (State.calibrationLine c l s).store = s.store := by
  unfold State.calibrationLine; (repeat' split) <;> simp
@[simp] theorem State.calibrationLine_exposure (c : Calibration) (l : ScanLine) :
    (State.calibrationLine c l s).exposure = s.exposure := by
  unfold State.calibrationLine; (repeat' split) <;> simp
@[simp] theorem State.calibrationLine_lines (c : Calibration) (l : ScanLine) :
    (State.calibrationLine c l s).lines = s.lines := by
  unfold State.calibrationLine; (repeat' split) <;> simp
@[simp] theorem State.calibrationLine_link (c : Calibration) (l : ScanLine) :
    (State.calibrationLine c l s).link = s.link := by
  unfold State.calibrationLine; (repeat' split) <;> simp
@[simp] theorem State.calibrationLine_pending (c : Calibration) (l : ScanLine) :
    (State.calibrationLine c l s).pending = s.pending := by
  unfold State.calibrationLine; (repeat' split) <;> simp

/-! State.beginExpected -/

@[simp] theorem State.beginExpected_settings (y : Nat) : (State.beginExpected y s).settings = s.settings := by
  unfold State.beginExpected; (repeat' split) <;> simp
@[simp] theorem State.beginExpected_bays (y : Nat) : (State.beginExpected y s).bays = s.bays := by
  unfold State.beginExpected; (repeat' split) <;> simp
@[simp] theorem State.beginExpected_approvalQueue (y : Nat) :
    (State.beginExpected y s).approvalQueue = s.approvalQueue := by
  unfold State.beginExpected; (repeat' split) <;> simp
@[simp] theorem State.beginExpected_inspectionQueue (y : Nat) :
    (State.beginExpected y s).inspectionQueue = s.inspectionQueue := by
  unfold State.beginExpected; (repeat' split) <;> simp
@[simp] theorem State.beginExpected_intake (y : Nat) : (State.beginExpected y s).intake = s.intake := by
  unfold State.beginExpected; (repeat' split) <;> simp
@[simp] theorem State.beginExpected_decoder (y : Nat) : (State.beginExpected y s).decoder = s.decoder := by
  unfold State.beginExpected; (repeat' split) <;> simp
@[simp] theorem State.beginExpected_screening (y : Nat) : (State.beginExpected y s).screening = s.screening := by
  unfold State.beginExpected; (repeat' split) <;> simp
@[simp] theorem State.beginExpected_filler (y : Nat) : (State.beginExpected y s).filler = s.filler := by
  unfold State.beginExpected; (repeat' split) <;> simp
@[simp] theorem State.beginExpected_exposure (y : Nat) : (State.beginExpected y s).exposure = s.exposure := by
  unfold State.beginExpected; (repeat' split) <;> simp
@[simp] theorem State.beginExpected_lines (y : Nat) : (State.beginExpected y s).lines = s.lines := by
  unfold State.beginExpected; (repeat' split) <;> simp
@[simp] theorem State.beginExpected_link (y : Nat) : (State.beginExpected y s).link = s.link := by
  unfold State.beginExpected; (repeat' split) <;> simp
@[simp] theorem State.beginExpected_pending (y : Nat) : (State.beginExpected y s).pending = s.pending := by
  unfold State.beginExpected; (repeat' split) <;> simp

/-! State.endScan -/

@[simp] theorem State.endScan_settings (c : UncheckedCause) : (State.endScan c s).settings = s.settings := by
  unfold State.endScan; (repeat' split) <;> simp
@[simp] theorem State.endScan_approvalQueue (c : UncheckedCause) :
    (State.endScan c s).approvalQueue = s.approvalQueue := by
  unfold State.endScan; (repeat' split) <;> simp
@[simp] theorem State.endScan_inspectionQueue (c : UncheckedCause) :
    (State.endScan c s).inspectionQueue = s.inspectionQueue := by
  unfold State.endScan; (repeat' split) <;> simp
@[simp] theorem State.endScan_intake (c : UncheckedCause) : (State.endScan c s).intake = s.intake := by
  unfold State.endScan; (repeat' split) <;> simp
@[simp] theorem State.endScan_decoder (c : UncheckedCause) : (State.endScan c s).decoder = s.decoder := by
  unfold State.endScan; (repeat' split) <;> simp
@[simp] theorem State.endScan_screening (c : UncheckedCause) : (State.endScan c s).screening = s.screening := by
  unfold State.endScan; (repeat' split) <;> simp
@[simp] theorem State.endScan_filler (c : UncheckedCause) : (State.endScan c s).filler = s.filler := by
  unfold State.endScan; (repeat' split) <;> simp
@[simp] theorem State.endScan_exposure (c : UncheckedCause) : (State.endScan c s).exposure = s.exposure := by
  unfold State.endScan; (repeat' split) <;> simp
@[simp] theorem State.endScan_pending (c : UncheckedCause) : (State.endScan c s).pending = s.pending := by
  unfold State.endScan; (repeat' split) <;> simp

/-! State.markLagged -/

@[simp] theorem State.markLagged_settings (sc : Scan) : (State.markLagged sc s).settings = s.settings := rfl
@[simp] theorem State.markLagged_bays (sc : Scan) : (State.markLagged sc s).bays = s.bays := rfl
@[simp] theorem State.markLagged_approvalQueue (sc : Scan) :
    (State.markLagged sc s).approvalQueue = s.approvalQueue := rfl
@[simp] theorem State.markLagged_inspectionQueue (sc : Scan) :
    (State.markLagged sc s).inspectionQueue = s.inspectionQueue := rfl
@[simp] theorem State.markLagged_intake (sc : Scan) : (State.markLagged sc s).intake = s.intake := rfl
@[simp] theorem State.markLagged_decoder (sc : Scan) : (State.markLagged sc s).decoder = s.decoder := rfl
@[simp] theorem State.markLagged_screening (sc : Scan) : (State.markLagged sc s).screening = s.screening := rfl
@[simp] theorem State.markLagged_filler (sc : Scan) : (State.markLagged sc s).filler = s.filler := rfl
@[simp] theorem State.markLagged_exposure (sc : Scan) : (State.markLagged sc s).exposure = s.exposure := rfl
@[simp] theorem State.markLagged_lines (sc : Scan) : (State.markLagged sc s).lines = s.lines := rfl
@[simp] theorem State.markLagged_pending (sc : Scan) : (State.markLagged sc s).pending = s.pending := rfl

/-! State.compareLine -/

@[simp] theorem State.compareLine_settings (sc : Scan) (p : Plate) (cv : List Nat) (l : ScanLine) (r : List ScanLine) :
    (State.compareLine sc p cv l r s).settings = s.settings := rfl
@[simp] theorem State.compareLine_approvalQueue (sc : Scan) (p : Plate) (cv : List Nat) (l : ScanLine) (r : List ScanLine) :
    (State.compareLine sc p cv l r s).approvalQueue = s.approvalQueue := rfl
@[simp] theorem State.compareLine_inspectionQueue (sc : Scan) (p : Plate) (cv : List Nat) (l : ScanLine) (r : List ScanLine) :
    (State.compareLine sc p cv l r s).inspectionQueue = s.inspectionQueue := rfl
@[simp] theorem State.compareLine_intake (sc : Scan) (p : Plate) (cv : List Nat) (l : ScanLine) (r : List ScanLine) :
    (State.compareLine sc p cv l r s).intake = s.intake := rfl
@[simp] theorem State.compareLine_decoder (sc : Scan) (p : Plate) (cv : List Nat) (l : ScanLine) (r : List ScanLine) :
    (State.compareLine sc p cv l r s).decoder = s.decoder := rfl
@[simp] theorem State.compareLine_screening (sc : Scan) (p : Plate) (cv : List Nat) (l : ScanLine) (r : List ScanLine) :
    (State.compareLine sc p cv l r s).screening = s.screening := rfl
@[simp] theorem State.compareLine_filler (sc : Scan) (p : Plate) (cv : List Nat) (l : ScanLine) (r : List ScanLine) :
    (State.compareLine sc p cv l r s).filler = s.filler := rfl
@[simp] theorem State.compareLine_store (sc : Scan) (p : Plate) (cv : List Nat) (l : ScanLine) (r : List ScanLine) :
    (State.compareLine sc p cv l r s).store = s.store := rfl
@[simp] theorem State.compareLine_exposure (sc : Scan) (p : Plate) (cv : List Nat) (l : ScanLine) (r : List ScanLine) :
    (State.compareLine sc p cv l r s).exposure = s.exposure := rfl
@[simp] theorem State.compareLine_lines (sc : Scan) (p : Plate) (cv : List Nat) (l : ScanLine) (r : List ScanLine) :
    (State.compareLine sc p cv l r s).lines = s.lines := rfl
@[simp] theorem State.compareLine_link (sc : Scan) (p : Plate) (cv : List Nat) (l : ScanLine) (r : List ScanLine) :
    (State.compareLine sc p cv l r s).link = s.link := rfl
@[simp] theorem State.compareLine_pending (sc : Scan) (p : Plate) (cv : List Nat) (l : ScanLine) (r : List ScanLine) :
    (State.compareLine sc p cv l r s).pending = s.pending := rfl

/-! State.compareIfReady -/

@[simp] theorem State.compareIfReady_settings : (State.compareIfReady s).settings = s.settings := by
  unfold State.compareIfReady; dsimp only; (repeat' split) <;> simp
@[simp] theorem State.compareIfReady_approvalQueue : (State.compareIfReady s).approvalQueue = s.approvalQueue := by
  unfold State.compareIfReady; dsimp only; (repeat' split) <;> simp
@[simp] theorem State.compareIfReady_inspectionQueue :
    (State.compareIfReady s).inspectionQueue = s.inspectionQueue := by
  unfold State.compareIfReady; dsimp only; (repeat' split) <;> simp
@[simp] theorem State.compareIfReady_intake : (State.compareIfReady s).intake = s.intake := by
  unfold State.compareIfReady; dsimp only; (repeat' split) <;> simp
@[simp] theorem State.compareIfReady_decoder : (State.compareIfReady s).decoder = s.decoder := by
  unfold State.compareIfReady; dsimp only; (repeat' split) <;> simp
@[simp] theorem State.compareIfReady_screening : (State.compareIfReady s).screening = s.screening := by
  unfold State.compareIfReady; dsimp only; (repeat' split) <;> simp
@[simp] theorem State.compareIfReady_filler : (State.compareIfReady s).filler = s.filler := by
  unfold State.compareIfReady; dsimp only; (repeat' split) <;> simp
@[simp] theorem State.compareIfReady_exposure : (State.compareIfReady s).exposure = s.exposure := by
  unfold State.compareIfReady; dsimp only; (repeat' split) <;> simp
@[simp] theorem State.compareIfReady_pending : (State.compareIfReady s).pending = s.pending := by
  unfold State.compareIfReady; dsimp only; (repeat' split) <;> simp

/-! State.receiveLine -/

@[simp] theorem State.receiveLine_settings (sc : Scan) (l : ScanLine) :
    (State.receiveLine sc l s).settings = s.settings := by
  unfold State.receiveLine; dsimp only; (repeat' split) <;> simp
@[simp] theorem State.receiveLine_approvalQueue (sc : Scan) (l : ScanLine) :
    (State.receiveLine sc l s).approvalQueue = s.approvalQueue := by
  unfold State.receiveLine; dsimp only; (repeat' split) <;> simp
@[simp] theorem State.receiveLine_inspectionQueue (sc : Scan) (l : ScanLine) :
    (State.receiveLine sc l s).inspectionQueue = s.inspectionQueue := by
  unfold State.receiveLine; dsimp only; (repeat' split) <;> simp
@[simp] theorem State.receiveLine_intake (sc : Scan) (l : ScanLine) :
    (State.receiveLine sc l s).intake = s.intake := by
  unfold State.receiveLine; dsimp only; (repeat' split) <;> simp
@[simp] theorem State.receiveLine_decoder (sc : Scan) (l : ScanLine) :
    (State.receiveLine sc l s).decoder = s.decoder := by
  unfold State.receiveLine; dsimp only; (repeat' split) <;> simp
@[simp] theorem State.receiveLine_screening (sc : Scan) (l : ScanLine) :
    (State.receiveLine sc l s).screening = s.screening := by
  unfold State.receiveLine; dsimp only; (repeat' split) <;> simp
@[simp] theorem State.receiveLine_filler (sc : Scan) (l : ScanLine) :
    (State.receiveLine sc l s).filler = s.filler := by
  unfold State.receiveLine; dsimp only; (repeat' split) <;> simp
@[simp] theorem State.receiveLine_exposure (sc : Scan) (l : ScanLine) :
    (State.receiveLine sc l s).exposure = s.exposure := by
  unfold State.receiveLine; dsimp only; (repeat' split) <;> simp
@[simp] theorem State.receiveLine_pending (sc : Scan) (l : ScanLine) :
    (State.receiveLine sc l s).pending = s.pending := by
  unfold State.receiveLine; dsimp only; (repeat' split) <;> simp

/-! State.scanLine -/

@[simp] theorem State.scanLine_settings (l : ScanLine) : (State.scanLine l s).settings = s.settings := by
  unfold State.scanLine; (repeat' split) <;> simp
@[simp] theorem State.scanLine_approvalQueue (l : ScanLine) :
    (State.scanLine l s).approvalQueue = s.approvalQueue := by
  unfold State.scanLine; (repeat' split) <;> simp
@[simp] theorem State.scanLine_inspectionQueue (l : ScanLine) :
    (State.scanLine l s).inspectionQueue = s.inspectionQueue := by
  unfold State.scanLine; (repeat' split) <;> simp
@[simp] theorem State.scanLine_intake (l : ScanLine) : (State.scanLine l s).intake = s.intake := by
  unfold State.scanLine; (repeat' split) <;> simp
@[simp] theorem State.scanLine_decoder (l : ScanLine) : (State.scanLine l s).decoder = s.decoder := by
  unfold State.scanLine; (repeat' split) <;> simp
@[simp] theorem State.scanLine_screening (l : ScanLine) : (State.scanLine l s).screening = s.screening := by
  unfold State.scanLine; (repeat' split) <;> simp
@[simp] theorem State.scanLine_filler (l : ScanLine) : (State.scanLine l s).filler = s.filler := by
  unfold State.scanLine; (repeat' split) <;> simp
@[simp] theorem State.scanLine_exposure (l : ScanLine) : (State.scanLine l s).exposure = s.exposure := by
  unfold State.scanLine; (repeat' split) <;> simp
@[simp] theorem State.scanLine_pending (l : ScanLine) : (State.scanLine l s).pending = s.pending := by
  unfold State.scanLine; (repeat' split) <;> simp

/-! State.expectedLineFull -/

@[simp] theorem State.expectedLineFull_settings : (State.expectedLineFull s).settings = s.settings := by
  unfold State.expectedLineFull; (repeat' split) <;> simp
@[simp] theorem State.expectedLineFull_approvalQueue :
    (State.expectedLineFull s).approvalQueue = s.approvalQueue := by
  unfold State.expectedLineFull; (repeat' split) <;> simp
@[simp] theorem State.expectedLineFull_inspectionQueue :
    (State.expectedLineFull s).inspectionQueue = s.inspectionQueue := by
  unfold State.expectedLineFull; (repeat' split) <;> simp
@[simp] theorem State.expectedLineFull_intake : (State.expectedLineFull s).intake = s.intake := by
  unfold State.expectedLineFull; (repeat' split) <;> simp
@[simp] theorem State.expectedLineFull_decoder : (State.expectedLineFull s).decoder = s.decoder := by
  unfold State.expectedLineFull; (repeat' split) <;> simp
@[simp] theorem State.expectedLineFull_screening : (State.expectedLineFull s).screening = s.screening := by
  unfold State.expectedLineFull; (repeat' split) <;> simp
@[simp] theorem State.expectedLineFull_filler : (State.expectedLineFull s).filler = s.filler := by
  unfold State.expectedLineFull; (repeat' split) <;> simp
@[simp] theorem State.expectedLineFull_exposure : (State.expectedLineFull s).exposure = s.exposure := by
  unfold State.expectedLineFull; (repeat' split) <;> simp
@[simp] theorem State.expectedLineFull_pending : (State.expectedLineFull s).pending = s.pending := by
  unfold State.expectedLineFull; (repeat' split) <;> simp

/-! State.bindScan -/

@[simp] theorem State.bindScan_settings (n : Nat) (p : Plate) : (State.bindScan n p s).settings = s.settings := rfl
@[simp] theorem State.bindScan_approvalQueue (n : Nat) (p : Plate) :
    (State.bindScan n p s).approvalQueue = s.approvalQueue := rfl
@[simp] theorem State.bindScan_inspectionQueue (n : Nat) (p : Plate) :
    (State.bindScan n p s).inspectionQueue = s.inspectionQueue := rfl
@[simp] theorem State.bindScan_intake (n : Nat) (p : Plate) : (State.bindScan n p s).intake = s.intake := rfl
@[simp] theorem State.bindScan_decoder (n : Nat) (p : Plate) : (State.bindScan n p s).decoder = s.decoder := rfl
@[simp] theorem State.bindScan_screening (n : Nat) (p : Plate) :
    (State.bindScan n p s).screening = s.screening := rfl
@[simp] theorem State.bindScan_filler (n : Nat) (p : Plate) : (State.bindScan n p s).filler = s.filler := rfl
@[simp] theorem State.bindScan_exposure (n : Nat) (p : Plate) : (State.bindScan n p s).exposure = s.exposure := rfl
@[simp] theorem State.bindScan_lines (n : Nat) (p : Plate) : (State.bindScan n p s).lines = s.lines := rfl
@[simp] theorem State.bindScan_pending (n : Nat) (p : Plate) : (State.bindScan n p s).pending = s.pending := rfl

/-! State.judgeScanStart -/

@[simp] theorem State.judgeScanStart_settings : (State.judgeScanStart s).settings = s.settings := by
  unfold State.judgeScanStart; dsimp only; (repeat' split) <;> simp
@[simp] theorem State.judgeScanStart_intake : (State.judgeScanStart s).intake = s.intake := by
  unfold State.judgeScanStart; dsimp only; (repeat' split) <;> simp
@[simp] theorem State.judgeScanStart_decoder : (State.judgeScanStart s).decoder = s.decoder := by
  unfold State.judgeScanStart; dsimp only; (repeat' split) <;> simp
@[simp] theorem State.judgeScanStart_screening : (State.judgeScanStart s).screening = s.screening := by
  unfold State.judgeScanStart; dsimp only; (repeat' split) <;> simp
@[simp] theorem State.judgeScanStart_filler : (State.judgeScanStart s).filler = s.filler := by
  unfold State.judgeScanStart; dsimp only; (repeat' split) <;> simp
@[simp] theorem State.judgeScanStart_pending : (State.judgeScanStart s).pending = s.pending := by
  unfold State.judgeScanStart; dsimp only; (repeat' split) <;> simp

/-! State.scanStart -/

@[simp] theorem State.scanStart_settings : (State.scanStart s).settings = s.settings := by
  unfold State.scanStart; (repeat' split) <;> simp
@[simp] theorem State.scanStart_intake : (State.scanStart s).intake = s.intake := by
  unfold State.scanStart; (repeat' split) <;> simp
@[simp] theorem State.scanStart_decoder : (State.scanStart s).decoder = s.decoder := by
  unfold State.scanStart; (repeat' split) <;> simp
@[simp] theorem State.scanStart_screening : (State.scanStart s).screening = s.screening := by
  unfold State.scanStart; (repeat' split) <;> simp
@[simp] theorem State.scanStart_filler : (State.scanStart s).filler = s.filler := by
  unfold State.scanStart; (repeat' split) <;> simp
@[simp] theorem State.scanStart_pending : (State.scanStart s).pending = s.pending := by
  unfold State.scanStart; (repeat' split) <;> simp

/-! State.plateClear -/

@[simp] theorem State.plateClear_settings : (State.plateClear s).settings = s.settings := by
  unfold State.plateClear; (repeat' split) <;> simp
@[simp] theorem State.plateClear_approvalQueue : (State.plateClear s).approvalQueue = s.approvalQueue := by
  unfold State.plateClear; (repeat' split) <;> simp
@[simp] theorem State.plateClear_inspectionQueue : (State.plateClear s).inspectionQueue = s.inspectionQueue := by
  unfold State.plateClear; (repeat' split) <;> simp
@[simp] theorem State.plateClear_intake : (State.plateClear s).intake = s.intake := by
  unfold State.plateClear; (repeat' split) <;> simp
@[simp] theorem State.plateClear_decoder : (State.plateClear s).decoder = s.decoder := by
  unfold State.plateClear; (repeat' split) <;> simp
@[simp] theorem State.plateClear_screening : (State.plateClear s).screening = s.screening := by
  unfold State.plateClear; (repeat' split) <;> simp
@[simp] theorem State.plateClear_filler : (State.plateClear s).filler = s.filler := by
  unfold State.plateClear; (repeat' split) <;> simp
@[simp] theorem State.plateClear_exposure : (State.plateClear s).exposure = s.exposure := by
  unfold State.plateClear; (repeat' split) <;> simp
@[simp] theorem State.plateClear_pending : (State.plateClear s).pending = s.pending := by
  unfold State.plateClear; (repeat' split) <;> simp

/-! State.markEdge -/

@[simp] theorem State.markEdge_settings (n : Nat) (b : Bool) : (State.markEdge n b s).settings = s.settings := by
  unfold State.markEdge; dsimp only; (repeat' split) <;> simp
@[simp] theorem State.markEdge_bays (n : Nat) (b : Bool) : (State.markEdge n b s).bays = s.bays := by
  unfold State.markEdge; dsimp only; (repeat' split) <;> simp
@[simp] theorem State.markEdge_approvalQueue (n : Nat) (b : Bool) :
    (State.markEdge n b s).approvalQueue = s.approvalQueue := by
  unfold State.markEdge; dsimp only; (repeat' split) <;> simp
@[simp] theorem State.markEdge_inspectionQueue (n : Nat) (b : Bool) :
    (State.markEdge n b s).inspectionQueue = s.inspectionQueue := by
  unfold State.markEdge; dsimp only; (repeat' split) <;> simp
@[simp] theorem State.markEdge_intake (n : Nat) (b : Bool) : (State.markEdge n b s).intake = s.intake := by
  unfold State.markEdge; dsimp only; (repeat' split) <;> simp
@[simp] theorem State.markEdge_decoder (n : Nat) (b : Bool) : (State.markEdge n b s).decoder = s.decoder := by
  unfold State.markEdge; dsimp only; (repeat' split) <;> simp
@[simp] theorem State.markEdge_screening (n : Nat) (b : Bool) : (State.markEdge n b s).screening = s.screening := by
  unfold State.markEdge; dsimp only; (repeat' split) <;> simp
@[simp] theorem State.markEdge_filler (n : Nat) (b : Bool) : (State.markEdge n b s).filler = s.filler := by
  unfold State.markEdge; dsimp only; (repeat' split) <;> simp
@[simp] theorem State.markEdge_store (n : Nat) (b : Bool) : (State.markEdge n b s).store = s.store := by
  unfold State.markEdge; dsimp only; (repeat' split) <;> simp
@[simp] theorem State.markEdge_exposure (n : Nat) (b : Bool) : (State.markEdge n b s).exposure = s.exposure := by
  unfold State.markEdge; dsimp only; (repeat' split) <;> simp
@[simp] theorem State.markEdge_inspection (n : Nat) (b : Bool) :
    (State.markEdge n b s).inspection = s.inspection := by
  unfold State.markEdge; dsimp only; (repeat' split) <;> simp
@[simp] theorem State.markEdge_pending (n : Nat) (b : Bool) : (State.markEdge n b s).pending = s.pending := by
  unfold State.markEdge; dsimp only; (repeat' split) <;> simp

/-! State.reportEdge -/

@[simp] theorem State.reportEdge_settings (n : Nat) (b : Bool) :
    (State.reportEdge n b s).settings = s.settings := by
  unfold State.reportEdge; (repeat' split) <;> simp
@[simp] theorem State.reportEdge_intake (n : Nat) (b : Bool) : (State.reportEdge n b s).intake = s.intake := by
  unfold State.reportEdge; (repeat' split) <;> simp
@[simp] theorem State.reportEdge_pending (n : Nat) (b : Bool) : (State.reportEdge n b s).pending = s.pending := by
  unfold State.reportEdge; (repeat' split) <;> simp

/-! State.takeEdge -/

@[simp] theorem State.takeEdge_settings (n : Nat) : (State.takeEdge n s).settings = s.settings := by
  unfold State.takeEdge; dsimp only; (repeat' split) <;> simp
@[simp] theorem State.takeEdge_intake (n : Nat) : (State.takeEdge n s).intake = s.intake := by
  unfold State.takeEdge; dsimp only; (repeat' split) <;> simp
@[simp] theorem State.takeEdge_pending (n : Nat) : (State.takeEdge n s).pending = s.pending := by
  unfold State.takeEdge; dsimp only; (repeat' split) <;> simp

/-! State.inputEdge -/

@[simp] theorem State.inputEdge_settings (n : Nat) : (State.inputEdge n s).settings = s.settings := by
  unfold State.inputEdge; (repeat' split) <;> simp
@[simp] theorem State.inputEdge_intake (n : Nat) : (State.inputEdge n s).intake = s.intake := by
  unfold State.inputEdge; (repeat' split) <;> simp
@[simp] theorem State.inputEdge_pending (n : Nat) : (State.inputEdge n s).pending = s.pending := by
  unfold State.inputEdge; (repeat' split) <;> simp

/-! State.servedPrefetch -/

@[simp] theorem State.servedPrefetch_settings (w : List StoreWord) :
    (State.servedPrefetch w s).settings = s.settings := by
  unfold State.servedPrefetch; dsimp only; (repeat' split) <;> simp
@[simp] theorem State.servedPrefetch_bays (w : List StoreWord) : (State.servedPrefetch w s).bays = s.bays := by
  unfold State.servedPrefetch; dsimp only; (repeat' split) <;> simp
@[simp] theorem State.servedPrefetch_approvalQueue (w : List StoreWord) :
    (State.servedPrefetch w s).approvalQueue = s.approvalQueue := by
  unfold State.servedPrefetch; dsimp only; (repeat' split) <;> simp
@[simp] theorem State.servedPrefetch_inspectionQueue (w : List StoreWord) :
    (State.servedPrefetch w s).inspectionQueue = s.inspectionQueue := by
  unfold State.servedPrefetch; dsimp only; (repeat' split) <;> simp
@[simp] theorem State.servedPrefetch_intake (w : List StoreWord) :
    (State.servedPrefetch w s).intake = s.intake := by
  unfold State.servedPrefetch; dsimp only; (repeat' split) <;> simp
@[simp] theorem State.servedPrefetch_decoder (w : List StoreWord) :
    (State.servedPrefetch w s).decoder = s.decoder := by
  unfold State.servedPrefetch; dsimp only; (repeat' split) <;> simp
@[simp] theorem State.servedPrefetch_screening (w : List StoreWord) :
    (State.servedPrefetch w s).screening = s.screening := by
  unfold State.servedPrefetch; dsimp only; (repeat' split) <;> simp
@[simp] theorem State.servedPrefetch_filler (w : List StoreWord) :
    (State.servedPrefetch w s).filler = s.filler := by
  unfold State.servedPrefetch; dsimp only; (repeat' split) <;> simp
@[simp] theorem State.servedPrefetch_inspection (w : List StoreWord) :
    (State.servedPrefetch w s).inspection = s.inspection := by
  unfold State.servedPrefetch; dsimp only; (repeat' split) <;> simp
@[simp] theorem State.servedPrefetch_lines (w : List StoreWord) : (State.servedPrefetch w s).lines = s.lines := by
  unfold State.servedPrefetch; dsimp only; (repeat' split) <;> simp
@[simp] theorem State.servedPrefetch_link (w : List StoreWord) : (State.servedPrefetch w s).link = s.link := by
  unfold State.servedPrefetch; dsimp only; (repeat' split) <;> simp
@[simp] theorem State.servedPrefetch_pending (w : List StoreWord) :
    (State.servedPrefetch w s).pending = s.pending := by
  unfold State.servedPrefetch; dsimp only; (repeat' split) <;> simp

/-! State.servedInspect -/

@[simp] theorem State.servedInspect_settings (w : List StoreWord) :
    (State.servedInspect w s).settings = s.settings := by
  unfold State.servedInspect; dsimp only; (repeat' split) <;> simp
@[simp] theorem State.servedInspect_bays (w : List StoreWord) : (State.servedInspect w s).bays = s.bays := by
  unfold State.servedInspect; dsimp only; (repeat' split) <;> simp
@[simp] theorem State.servedInspect_approvalQueue (w : List StoreWord) :
    (State.servedInspect w s).approvalQueue = s.approvalQueue := by
  unfold State.servedInspect; dsimp only; (repeat' split) <;> simp
@[simp] theorem State.servedInspect_inspectionQueue (w : List StoreWord) :
    (State.servedInspect w s).inspectionQueue = s.inspectionQueue := by
  unfold State.servedInspect; dsimp only; (repeat' split) <;> simp
@[simp] theorem State.servedInspect_intake (w : List StoreWord) : (State.servedInspect w s).intake = s.intake := by
  unfold State.servedInspect; dsimp only; (repeat' split) <;> simp
@[simp] theorem State.servedInspect_decoder (w : List StoreWord) :
    (State.servedInspect w s).decoder = s.decoder := by
  unfold State.servedInspect; dsimp only; (repeat' split) <;> simp
@[simp] theorem State.servedInspect_screening (w : List StoreWord) :
    (State.servedInspect w s).screening = s.screening := by
  unfold State.servedInspect; dsimp only; (repeat' split) <;> simp
@[simp] theorem State.servedInspect_filler (w : List StoreWord) : (State.servedInspect w s).filler = s.filler := by
  unfold State.servedInspect; dsimp only; (repeat' split) <;> simp
@[simp] theorem State.servedInspect_exposure (w : List StoreWord) :
    (State.servedInspect w s).exposure = s.exposure := by
  unfold State.servedInspect; dsimp only; (repeat' split) <;> simp
@[simp] theorem State.servedInspect_lines (w : List StoreWord) : (State.servedInspect w s).lines = s.lines := by
  unfold State.servedInspect; dsimp only; (repeat' split) <;> simp
@[simp] theorem State.servedInspect_link (w : List StoreWord) : (State.servedInspect w s).link = s.link := by
  unfold State.servedInspect; dsimp only; (repeat' split) <;> simp
@[simp] theorem State.servedInspect_pending (w : List StoreWord) :
    (State.servedInspect w s).pending = s.pending := by
  unfold State.servedInspect; dsimp only; (repeat' split) <;> simp

/-! State.servedDecoder -/

@[simp] theorem State.servedDecoder_settings : (State.servedDecoder s).settings = s.settings := by
  unfold State.servedDecoder; (repeat' split) <;> simp
@[simp] theorem State.servedDecoder_bays : (State.servedDecoder s).bays = s.bays := by
  unfold State.servedDecoder; (repeat' split) <;> simp
@[simp] theorem State.servedDecoder_approvalQueue : (State.servedDecoder s).approvalQueue = s.approvalQueue := by
  unfold State.servedDecoder; (repeat' split) <;> simp
@[simp] theorem State.servedDecoder_inspectionQueue :
    (State.servedDecoder s).inspectionQueue = s.inspectionQueue := by
  unfold State.servedDecoder; (repeat' split) <;> simp
@[simp] theorem State.servedDecoder_intake : (State.servedDecoder s).intake = s.intake := by
  unfold State.servedDecoder; (repeat' split) <;> simp
@[simp] theorem State.servedDecoder_screening : (State.servedDecoder s).screening = s.screening := by
  unfold State.servedDecoder; (repeat' split) <;> simp
@[simp] theorem State.servedDecoder_filler : (State.servedDecoder s).filler = s.filler := by
  unfold State.servedDecoder; (repeat' split) <;> simp
@[simp] theorem State.servedDecoder_exposure : (State.servedDecoder s).exposure = s.exposure := by
  unfold State.servedDecoder; (repeat' split) <;> simp
@[simp] theorem State.servedDecoder_inspection : (State.servedDecoder s).inspection = s.inspection := by
  unfold State.servedDecoder; (repeat' split) <;> simp
@[simp] theorem State.servedDecoder_lines : (State.servedDecoder s).lines = s.lines := by
  unfold State.servedDecoder; (repeat' split) <;> simp
@[simp] theorem State.servedDecoder_link : (State.servedDecoder s).link = s.link := by
  unfold State.servedDecoder; (repeat' split) <;> simp
@[simp] theorem State.servedDecoder_pending : (State.servedDecoder s).pending = s.pending := by
  unfold State.servedDecoder; (repeat' split) <;> simp

/-! State.servedFiller -/

@[simp] theorem State.servedFiller_settings : (State.servedFiller s).settings = s.settings := by
  unfold State.servedFiller; (repeat' split) <;> simp
@[simp] theorem State.servedFiller_bays : (State.servedFiller s).bays = s.bays := by
  unfold State.servedFiller; (repeat' split) <;> simp
@[simp] theorem State.servedFiller_approvalQueue : (State.servedFiller s).approvalQueue = s.approvalQueue := by
  unfold State.servedFiller; (repeat' split) <;> simp
@[simp] theorem State.servedFiller_inspectionQueue :
    (State.servedFiller s).inspectionQueue = s.inspectionQueue := by
  unfold State.servedFiller; (repeat' split) <;> simp
@[simp] theorem State.servedFiller_intake : (State.servedFiller s).intake = s.intake := by
  unfold State.servedFiller; (repeat' split) <;> simp
@[simp] theorem State.servedFiller_decoder : (State.servedFiller s).decoder = s.decoder := by
  unfold State.servedFiller; (repeat' split) <;> simp
@[simp] theorem State.servedFiller_screening : (State.servedFiller s).screening = s.screening := by
  unfold State.servedFiller; (repeat' split) <;> simp
@[simp] theorem State.servedFiller_exposure : (State.servedFiller s).exposure = s.exposure := by
  unfold State.servedFiller; (repeat' split) <;> simp
@[simp] theorem State.servedFiller_inspection : (State.servedFiller s).inspection = s.inspection := by
  unfold State.servedFiller; (repeat' split) <;> simp
@[simp] theorem State.servedFiller_lines : (State.servedFiller s).lines = s.lines := by
  unfold State.servedFiller; (repeat' split) <;> simp
@[simp] theorem State.servedFiller_link : (State.servedFiller s).link = s.link := by
  unfold State.servedFiller; (repeat' split) <;> simp
@[simp] theorem State.servedFiller_pending : (State.servedFiller s).pending = s.pending := by
  unfold State.servedFiller; (repeat' split) <;> simp

/-! State.served -/

@[simp] theorem State.served_settings (a : Asker) (w : List StoreWord) :
    (State.served a w s).settings = s.settings := by
  unfold State.served; (repeat' split) <;> simp
@[simp] theorem State.served_bays (a : Asker) (w : List StoreWord) : (State.served a w s).bays = s.bays := by
  unfold State.served; (repeat' split) <;> simp
@[simp] theorem State.served_approvalQueue (a : Asker) (w : List StoreWord) :
    (State.served a w s).approvalQueue = s.approvalQueue := by
  unfold State.served; (repeat' split) <;> simp
@[simp] theorem State.served_inspectionQueue (a : Asker) (w : List StoreWord) :
    (State.served a w s).inspectionQueue = s.inspectionQueue := by
  unfold State.served; (repeat' split) <;> simp
@[simp] theorem State.served_intake (a : Asker) (w : List StoreWord) : (State.served a w s).intake = s.intake := by
  unfold State.served; (repeat' split) <;> simp
@[simp] theorem State.served_screening (a : Asker) (w : List StoreWord) :
    (State.served a w s).screening = s.screening := by
  unfold State.served; (repeat' split) <;> simp
@[simp] theorem State.served_lines (a : Asker) (w : List StoreWord) : (State.served a w s).lines = s.lines := by
  unfold State.served; (repeat' split) <;> simp
@[simp] theorem State.served_link (a : Asker) (w : List StoreWord) : (State.served a w s).link = s.link := by
  unfold State.served; (repeat' split) <;> simp
@[simp] theorem State.served_pending (a : Asker) (w : List StoreWord) :
    (State.served a w s).pending = s.pending := by
  unfold State.served; (repeat' split) <;> simp

/-! State.completeBurst -/

@[simp] theorem State.completeBurst_settings (g : Bool) (a : Asker) (b : Burst) (l : Bool) :
    (State.completeBurst g a b l s).settings = s.settings := by
  unfold State.completeBurst; (repeat' split) <;> simp
@[simp] theorem State.completeBurst_bays (g : Bool) (a : Asker) (b : Burst) (l : Bool) :
    (State.completeBurst g a b l s).bays = s.bays := by
  unfold State.completeBurst; (repeat' split) <;> simp
@[simp] theorem State.completeBurst_approvalQueue (g : Bool) (a : Asker) (b : Burst) (l : Bool) :
    (State.completeBurst g a b l s).approvalQueue = s.approvalQueue := by
  unfold State.completeBurst; (repeat' split) <;> simp
@[simp] theorem State.completeBurst_inspectionQueue (g : Bool) (a : Asker) (b : Burst) (l : Bool) :
    (State.completeBurst g a b l s).inspectionQueue = s.inspectionQueue := by
  unfold State.completeBurst; (repeat' split) <;> simp
@[simp] theorem State.completeBurst_intake (g : Bool) (a : Asker) (b : Burst) (l : Bool) :
    (State.completeBurst g a b l s).intake = s.intake := by
  unfold State.completeBurst; (repeat' split) <;> simp
@[simp] theorem State.completeBurst_screening (g : Bool) (a : Asker) (b : Burst) (l : Bool) :
    (State.completeBurst g a b l s).screening = s.screening := by
  unfold State.completeBurst; (repeat' split) <;> simp
@[simp] theorem State.completeBurst_lines (g : Bool) (a : Asker) (b : Burst) (l : Bool) :
    (State.completeBurst g a b l s).lines = s.lines := by
  unfold State.completeBurst; (repeat' split) <;> simp
@[simp] theorem State.completeBurst_link (g : Bool) (a : Asker) (b : Burst) (l : Bool) :
    (State.completeBurst g a b l s).link = s.link := by
  unfold State.completeBurst; (repeat' split) <;> simp
@[simp] theorem State.completeBurst_pending (g : Bool) (a : Asker) (b : Burst) (l : Bool) :
    (State.completeBurst g a b l s).pending = s.pending := by
  unfold State.completeBurst; (repeat' split) <;> simp

end Sys2Proof.Machine
end

