-- ==== Sys2Proof/Laws/Memory.lean ====
section
/-! SUPPORT. The band store: every operation over it keeps its canonical form, a read after a write gives the word written,
and a write leaves every other word alone (R101). -/

namespace Sys2Proof.Machine

/-- Addresses that rise from above a number also rise from above a lower one. -/
theorem Memory.risesFrom_mono {a b : Nat} (h : a ≤ b) :
    ∀ m : Memory, Memory.risesFrom (some b) m = true → Memory.risesFrom (some a) m = true
  | [], _ => rfl
  | (c, w) :: rest, hm => by
    simp only [Memory.risesFrom, Bool.and_eq_true, decide_eq_true_eq] at hm ⊢
    exact ⟨by omega, hm.2⟩

/-- Rising from above a number is rising with every address above it. -/
theorem Memory.risesFrom_some (a : Nat) (m : Memory) :
    Memory.risesFrom (some a) m = true ↔ Memory.risesFrom none m = true ∧ ∀ c ∈ m, a < c.1 := by
  induction m generalizing a with
  | nil => simp [Memory.risesFrom]
  | cons c rest ih =>
    obtain ⟨b, w⟩ := c
    simp only [Memory.risesFrom, Bool.and_eq_true, decide_eq_true_eq, Bool.true_and, List.forall_mem_cons]
    constructor
    · rintro ⟨hab, hr⟩
      exact ⟨hr, hab, fun c hc => lt_trans hab (((ih b).1 hr).2 c hc)⟩
    · rintro ⟨hr, hab, -⟩
      exact ⟨hab, hr⟩

/-- A write's words: the old ones but at the address, and the word written. -/
theorem Memory.mem_write {m : Memory} {a : Nat} {v : StoreWord} {c : Nat × StoreWord} :
    c ∈ Memory.write m a v → c = (a, v) ∨ c ∈ m := by
  induction m with
  | nil => simp [Memory.write]
  | cons d rest ih =>
    obtain ⟨b, w⟩ := d
    unfold Memory.write
    split
    · simp only [List.mem_cons]; tauto
    · split
      · rename_i h1 h2; subst h2; simp only [List.mem_cons]; tauto
      · simp only [List.mem_cons]; tauto

/-- A write keeps the addresses strictly rising. -/
theorem Memory.risesFrom_write {m : Memory} (a : Nat) (v : StoreWord) :
    Memory.risesFrom none m = true → Memory.risesFrom none (Memory.write m a v) = true := by
  induction m with
  | nil => intro _; rfl
  | cons d rest ih =>
    obtain ⟨b, w⟩ := d
    intro h
    have h' := h
    simp only [Memory.risesFrom, Bool.true_and] at h
    obtain ⟨hr, hb⟩ := (Memory.risesFrom_some b rest).1 h
    unfold Memory.write
    split
    · rename_i hab
      simp only [Memory.risesFrom, Bool.true_and, Bool.and_eq_true, decide_eq_true_eq]
      exact ⟨hab, h⟩
    · split
      · simpa [Memory.risesFrom] using h
      · rename_i h1 h2
        simp only [Memory.risesFrom, Bool.true_and]
        refine (Memory.risesFrom_some b _).2 ⟨ih hr, fun c hc => ?_⟩
        rcases Memory.mem_write hc with rfl | hc
        · simp only; omega
        · exact hb c hc

/-- A write inside the band store keeps the canonical form. -/
theorem Memory.wf_write {m : Memory} {a : Nat} (v : StoreWord) (hm : Memory.wf m = true)
    (ha : a < Config.storeWords) : Memory.wf (Memory.write m a v) = true := by
  simp only [Memory.wf, Bool.and_eq_true, List.all_eq_true, decide_eq_true_eq] at hm ⊢
  refine ⟨Memory.risesFrom_write a v hm.1, fun c hc => ?_⟩
  rcases Memory.mem_write hc with rfl | hc
  · exact ha
  · exact hm.2 c hc

/-- Consecutive writes inside the band store keep the canonical form. -/
theorem Memory.wf_writeWords {m : Memory} {a : Nat} (ws : List StoreWord) (hm : Memory.wf m = true)
    (ha : a + ws.length ≤ Config.storeWords) : Memory.wf (Memory.writeWords m a ws) = true := by
  induction ws generalizing m a with
  | nil => exact hm
  | cons w ws ih =>
    simp only [List.length_cons] at ha
    exact ih (Memory.wf_write w hm (by omega)) (by omega)

/-- No address below the first is listed. -/
theorem Memory.read_below {m : Memory} {a : Nat} (h : Memory.risesFrom (some a) m = true) : Memory.read m a = none := by
  cases m with
  | nil => rfl
  | cons c rest =>
    obtain ⟨b, w⟩ := c
    simp only [Memory.risesFrom, Bool.and_eq_true, decide_eq_true_eq] at h
    simp [Memory.read, h.1, Nat.ne_of_lt h.1]

/-- The word written is read back. -/
theorem Memory.read_write_same (m : Memory) (a : Nat) (v : StoreWord) :
    Memory.read (Memory.write m a v) a = some v := by
  induction m with
  | nil => simp [Memory.write, Memory.read]
  | cons c rest ih =>
    obtain ⟨b, w⟩ := c
    unfold Memory.write
    split
    · simp [Memory.read]
    · split
      · rename_i h1 h2; simp [Memory.read, h2]
      · rename_i h1 h2; simp [Memory.read, h1, h2, ih]

/-- A write leaves every other word as it was. -/
theorem Memory.read_write_other (m : Memory) {a b : Nat} (v : StoreWord) (h : b ≠ a) :
    Memory.read (Memory.write m a v) b = Memory.read m b := by
  induction m with
  | nil =>
    by_cases hlt : b < a
    · simp [Memory.write, Memory.read, h, hlt]
    · simp [Memory.write, Memory.read, h]
  | cons c rest ih =>
    obtain ⟨d, w⟩ := c
    unfold Memory.write
    split
    · rename_i had
      by_cases hba : b < a
      · have hbd : b ≠ d := by omega
        have hbd' : b < d := by omega
        simp [Memory.read, h, hba, hbd, hbd']
      · simp [Memory.read, h, hba]
    · split
      · rename_i h1 h2
        subst h2
        simp [Memory.read, h]
      · simp [Memory.read, ih]

/-- A burst written at an address is read back word by word, and every other word is as it was. -/
theorem Memory.read_writeWords (m : Memory) (a b : Nat) (ws : List StoreWord) :
    Memory.read (Memory.writeWords m a ws) b =
      if a ≤ b ∧ b < a + ws.length then ws[b - a]? else Memory.read m b := by
  induction ws generalizing m a with
  | nil =>
    have : ¬ (a ≤ b ∧ b < a + ([] : List StoreWord).length) := by simp
    rw [if_neg this]; rfl
  | cons w ws ih =>
    have hstep : Memory.writeWords m a (w :: ws) = Memory.writeWords (Memory.write m a w) (a + 1) ws := rfl
    rw [hstep, ih]
    simp only [List.length_cons]
    by_cases hb : b = a
    · subst hb
      simp [Memory.read_write_same]
    · rw [Memory.read_write_other m w hb]
      by_cases hin : a + 1 ≤ b ∧ b < a + 1 + ws.length
      · have hin' : a ≤ b ∧ b < a + (ws.length + 1) := by omega
        have hsub : b - a = (b - (a + 1)) + 1 := by omega
        rw [if_pos hin, if_pos hin', hsub, List.getElem?_cons_succ]
      · have hin' : ¬ (a ≤ b ∧ b < a + (ws.length + 1)) := by omega
        rw [if_neg hin, if_neg hin']

/-- The band store right after a reset is in canonical form. -/
theorem State.reset_memory_wf : Memory.wf State.reset.store.memory = true := rfl

end Sys2Proof.Machine
end

