-- ==== Sys2Proof/Laws/Plates.lean ====
section
/-! SUPPORT. The bay table's operations, the queueing and judging of a bay, the arbiter and the AUTO event: one lemma each
for all they can do. -/

namespace Sys2Proof.Machine

/-! ### The bay table -/

/-- A bay that holds a plate is a bay of the table. -/
theorem State.plate?_lt {s : State} {n : Nat} {p : Plate} (h : s.plate? n = some p) : n < s.bays.length := by
  unfold State.plate? at h
  by_contra hn
  rw [List.getElem?_eq_none (by omega)] at h
  simp at h

/-- The plate of a bay depends on the bay table alone. -/
theorem State.plate?_congr {s t : State} (h : s.bays = t.bays) (n : Nat) : s.plate? n = t.plate? n := by
  unfold State.plate?; rw [h]

/-- A bay set in the table. -/
theorem State.plate?_setBay (s : State) {n : Nat} (hn : n < s.bays.length) (o : Option Plate) :
    (s.setBay n o).plate? n = o := by
  unfold State.plate? State.setBay
  simp [hn]

/-- Every other bay is as it was. -/
theorem State.plate?_setBay_other (s : State) {n m : Nat} (h : m ≠ n) (o : Option Plate) :
    (s.setBay n o).plate? m = s.plate? m := by
  unfold State.plate? State.setBay
  rw [List.getElem?_set_ne (Ne.symm h)]

/-- A change of a resident bay's plate. -/
theorem State.modPlate_some {s : State} {n : Nat} {p : Plate} (f : Plate → Plate) (h : s.plate? n = some p) :
    s.modPlate n f = s.setBay n (some (f p)) := by
  unfold State.modPlate; rw [h]

/-- A change of a FREE bay's plate changes nothing. -/
theorem State.modPlate_none {s : State} {n : Nat} (f : Plate → Plate) (h : s.plate? n = none) : s.modPlate n f = s := by
  unfold State.modPlate; rw [h]

/-- The plate of a bay after a change of its plate. -/
theorem State.plate?_modPlate (s : State) (n : Nat) (f : Plate → Plate) :
    (s.modPlate n f).plate? n = (s.plate? n).map f := by
  cases h : s.plate? n with
  | none => rw [s.modPlate_none f h, h]; rfl
  | some p => rw [s.modPlate_some f h, s.plate?_setBay (State.plate?_lt h)]; rfl

/-- Every other bay is as it was. -/
theorem State.plate?_modPlate_other (s : State) {n m : Nat} (h : m ≠ n) (f : Plate → Plate) :
    (s.modPlate n f).plate? m = s.plate? m := by
  cases hp : s.plate? n with
  | none => rw [s.modPlate_none f hp]
  | some p => rw [s.modPlate_some f hp, s.plate?_setBay_other h]

/-- The bay table keeps its length. -/
@[simp] theorem State.modPlate_bays_length (s : State) (n : Nat) (f : Plate → Plate) :
    (s.modPlate n f).bays.length = s.bays.length := by
  unfold State.modPlate
  split <;> simp [State.setBay]

/-- The bay found for a key holds the plate of that key (R3). -/
theorem State.findPlate_key {s : State} {key : PlateKey} {n : Nat} {p : Plate} (h : s.findPlate key = some n)
    (hp : s.plate? n = some p) : p.key = key := by
  have := List.find?_some h
  simpa [hp] using this

/-- Where no bay is found for a key, no resident bay carries it. -/
theorem State.findPlate_none {s : State} {key : PlateKey} (h : s.findPlate key = none) {m : Nat} {p : Plate}
    (hp : s.plate? m = some p) : p.key ≠ key := by
  intro hk
  exact List.find?_eq_none.1 h m (by simp [State.bayNumbers, State.plate?_lt hp]) (by simp [hp, hk])

/-- A resident plate is a member of the bay table. -/
theorem State.mem_bays {s : State} {n : Nat} {p : Plate} (hp : s.plate? n = some p) : some p ∈ s.bays := by
  unfold State.plate? at hp
  cases hb : s.bays[n]? with
  | none => simp [hb] at hp
  | some o => simp [hb] at hp; exact List.mem_of_getElem? (hp ▸ hb)

/-- A key that is not superseded is the newest of its page-separation (R5, R16, R22). -/
theorem State.superseded_false {s : State} {key : PlateKey} (h : s.superseded key = false) {m : Nat} {p : Plate}
    (hp : s.plate? m = some p) (hk : p.key.samePage key = true) : p.key.version ≤ key.version := by
  by_contra hlt
  have : s.superseded key = true :=
    List.any_eq_true.2 ⟨some p, State.mem_bays hp, by simp [hk]; omega⟩
  rw [h] at this; cases this

/-- A plate with an ABSENT strip has a lowest one (R93). -/
theorem Plate.nextAbsent_some {p : Plate} (h : p.anyAbsent = true) : ∃ i, p.nextAbsent 0 = some i := by
  obtain ⟨r, hr, hs⟩ := List.any_eq_true.1 h
  obtain ⟨i, hi, he⟩ := List.getElem_of_mem hr
  rw [← Option.isSome_iff_exists, Plate.nextAbsent, List.find?_isSome]
  exact ⟨i, by simpa using hi, by simp [List.getElem?_eq_getElem hi, he]; simpa using hs⟩

/-- A bay freed is FREE, and every other bay is as it was (R8). -/
theorem State.plate?_freeBay {s : State} {n : Nat} {p : Plate} (hp : s.plate? n = some p) (m : Nat) :
    (s.freeBay n).plate? m = if m = n then none else s.plate? m := by
  have hb : (s.letGo n p).bays = s.bays := by simp
  unfold State.freeBay
  simp only [hp]
  show (State.setBay n none (s.letGo n p)).plate? m = _
  by_cases hm : m = n
  · subst hm; rw [State.plate?_setBay _ (by rw [hb]; exact State.plate?_lt hp), if_pos rfl]
  · rw [State.plate?_setBay_other _ hm, if_neg hm, State.plate?_congr hb]

/-- No bay of a table of FREE bays holds a plate. -/
theorem State.plate?_replicate {s : State} {k : Nat} (h : s.bays = List.replicate k none) (n : Nat) : s.plate? n = none := by
  unfold State.plate?
  rw [h, List.getElem?_replicate]
  split <;> rfl

/-! ### Sources -/

/-- A source set is pending, and every other source is as it was. -/
theorem State.setSource_getLsbD (s : State) (n i : Nat) (hi : i < 12) :
    (s.setSource n).link.sources.getLsbD i = (decide (i = n) || s.link.sources.getLsbD i) := by
  have hlt : i = n ∨ i ≠ n := by omega
  rcases hlt with h | h
  · subst h; simp [State.setSource, hi]
  · have hone : (1#12 <<< n).getLsbD i = false := by
      rw [BitVec.getLsbD_shiftLeft]
      by_cases hin : i < n
      · simp [hin]
      · have hne : i - n ≠ 0 := by omega
        simp [BitVec.getLsbD_one, hne]
    simp [State.setSource, hone, h]

/-! ### Starts and queueing -/

/-- All that an AUTO event can do: nothing, or take a start when the mode is AUTO, the auto hold clear and the four
conditions true (R120). -/
theorem State.autoEvent_cases (s : State) :
    s.autoEvent = s ∨
    (s.settings.mode = .auto ∧ s.exposure.autoHold = false ∧ s.startRefusal = none ∧ s.autoEvent = s.takeStart) := by
  unfold State.autoEvent
  split
  · rename_i h; exact .inr ⟨h.1, by simpa using h.2.1, h.2.2, rfl⟩
  · exact .inl rfl

/-- With no refusal the Exposure Controller is IDLE, a bay is queued, the processor has room, and the interlocks stand with
no spent plate (R118). -/
theorem State.startRefusal_none {s : State} (h : s.startRefusal = none) :
    s.exposure.state = .idle ∧ s.approvalQueue ≠ [] ∧ s.inspectionQueue.length < Config.processorPlates ∧
    s.interlocked = true ∧ s.exposure.spent = false := by
  unfold State.startRefusal at h
  split at h
  · cases h
  · split at h
    · cases h
    · split at h
      · cases h
      · split at h
        · cases h
        · rename_i h1 h2 h3 h4
          refine ⟨by simpa using h1, h2, by omega, ?_⟩
          simpa using h4

/-- All that taking a start can do: nothing (no bay queued, or the head FREE), or make the head EXPOSING and LOADING begin
with the fetch of pass 0 (R13, R118). -/
theorem State.takeStart_cases (s : State) :
    s.takeStart = s ∨
    ∃ n rest p, s.approvalQueue = n :: rest ∧ s.plate? n = some p ∧
      s.takeStart = State.beginFetch (State.setSource sourceExposure (State.setSource n (State.setBay n
        (some { p with state := .exposing })
        { s with
          approvalQueue := rest
          exposure := { s.exposure with
            state := .loading, current := some (n, p.key), passCount := p.h / 32,
            passLength := p.w + largestSkew s.exposure.skews, passCounter := 0, position := 0, passOpen := false,
            prefetchPass := none, nextFetch := 0, buffers := [.empty, .empty] } }))) := by
  unfold State.takeStart
  split
  · exact .inl rfl
  · rename_i n rest hq
    split
    · exact .inl rfl
    · rename_i p hp
      exact .inr ⟨n, rest, p, hq, hp, rfl⟩

/-- All that the beginning of a fetch can do: nothing, or take the next pass into its EMPTY buffer and ask its first burst
(R116). -/
theorem State.beginFetch_cases (s : State) :
    s.beginFetch = s ∨
    (s.exposure.prefetchPass = none ∧ s.exposure.nextFetch < s.exposure.passCount ∧
      s.beginFetch = State.onStore (Store.ask .prefetch (s.passBurst s.exposure.nextFetch 0))
        { s with exposure := { s.exposure with
            prefetchPass := some s.exposure.nextFetch
            nextFetch := s.exposure.nextFetch + 1
            buffers := s.exposure.buffers.set (s.exposure.nextFetch % 2) (.fetching s.exposure.nextFetch []) } }) := by
  unfold State.beginFetch
  dsimp only
  split
  · rename_i h; exact .inr ⟨by simpa using h.1, h.2.1, rfl⟩
  · exact .inl rfl

/-! ### The arbiter (R105, R106) -/

/-- All that a grant can do: nothing while the store serves or has nothing to do; otherwise one asked burst or an owed
refresh goes into service. -/
theorem Store.grant_cases (st : Store) :
    st.grant = st ∨
    (st.service = .idle ∧
      (st.grant = { st with service := .refresh } ∧ 1 ≤ st.owed ∨
       (∃ b, st.prefetch = some b ∧ st.grant = { st with service := .burst .prefetch b true, prefetch := none }) ∨
       (∃ b, st.inspect = some b ∧ st.grant = { st with service := .burst .inspect b true, inspect := none }) ∨
       ∃ a b rest, st.writer = (a, b) :: rest ∧
         st.grant = { st with service := .burst a b true, writer := rest })) := by
  unfold Store.grant
  split
  · rename_i hidle
    split
    · rename_i h8; exact .inr ⟨hidle, .inl ⟨rfl, by omega⟩⟩
    · split
      · rename_i b hp; exact .inr ⟨hidle, .inr (.inl ⟨b, hp, rfl⟩)⟩
      · rename_i b hp hi; exact .inr ⟨hidle, .inr (.inr (.inl ⟨b, hi, rfl⟩))⟩
      · rename_i a b rest hp hi hw; exact .inr ⟨hidle, .inr (.inr (.inr ⟨a, b, rest, hw, rfl⟩))⟩
      · split
        · rename_i h1; exact .inr ⟨hidle, .inl ⟨rfl, h1⟩⟩
        · exact .inl rfl
  · exact .inl rfl

/-- A SERVING store grants nothing. -/
theorem Store.grant_serving {st : Store} (h : st.service ≠ .idle) : st.grant = st := by
  rcases st.grant_cases with h' | ⟨hi, -⟩
  · exact h'
  · exact absurd hi h

/-- A second grant changes nothing. -/
@[simp] theorem Store.grant_grant (st : Store) : st.grant.grant = st.grant := by
  rcases st.grant_cases with h | ⟨-, ⟨h, -⟩ | ⟨b, -, h⟩ | ⟨b, -, h⟩ | ⟨a, b, r, -, h⟩⟩
  · rw [h, h]
  all_goals rw [h]; exact Store.grant_serving (by simp)

@[simp] theorem Store.grant_memory (st : Store) : st.grant.memory = st.memory := by
  rcases st.grant_cases with h | ⟨-, ⟨h, -⟩ | ⟨b, -, h⟩ | ⟨b, -, h⟩ | ⟨a, b, r, -, h⟩⟩ <;> rw [h]
@[simp] theorem Store.grant_owed (st : Store) : st.grant.owed = st.owed := by
  rcases st.grant_cases with h | ⟨-, ⟨h, -⟩ | ⟨b, -, h⟩ | ⟨b, -, h⟩ | ⟨a, b, r, -, h⟩⟩ <;> rw [h]
@[simp] theorem Store.grant_timer (st : Store) : st.grant.timer = st.timer := by
  rcases st.grant_cases with h | ⟨-, ⟨h, -⟩ | ⟨b, -, h⟩ | ⟨b, -, h⟩ | ⟨a, b, r, -, h⟩⟩ <;> rw [h]
@[simp] theorem Store.grant_seed (st : Store) : st.grant.seed = st.seed := by
  rcases st.grant_cases with h | ⟨-, ⟨h, -⟩ | ⟨b, -, h⟩ | ⟨b, -, h⟩ | ⟨a, b, r, -, h⟩⟩ <;> rw [h]

/-- Asking a burst changes neither the words, nor the refresh count, nor the timer, nor the seed. -/
@[simp] theorem Store.ask_memory (a : Asker) (b : Burst) (st : Store) : (st.ask a b).memory = st.memory := by
  cases a <;> simp [Store.ask]
@[simp] theorem Store.ask_owed (a : Asker) (b : Burst) (st : Store) : (st.ask a b).owed = st.owed := by
  cases a <;> simp [Store.ask]
@[simp] theorem Store.ask_timer (a : Asker) (b : Burst) (st : Store) : (st.ask a b).timer = st.timer := by
  cases a <;> simp [Store.ask]
@[simp] theorem Store.ask_seed (a : Asker) (b : Burst) (st : Store) : (st.ask a b).seed = st.seed := by
  cases a <;> simp [Store.ask]

@[simp] theorem Store.stop_memory (a : Asker) (st : Store) : (st.stop a).memory = st.memory := rfl
@[simp] theorem Store.stop_owed (a : Asker) (st : Store) : (st.stop a).owed = st.owed := rfl
@[simp] theorem Store.stop_timer (a : Asker) (st : Store) : (st.stop a).timer = st.timer := rfl
@[simp] theorem Store.stop_seed (a : Asker) (st : Store) : (st.stop a).seed = st.seed := rfl

/-! ### Approvals -/

/-- All that the judgement of an approval can do (R9). -/
theorem State.judgeApproval_cases (n : Nat) (entry : Option Nat) (s : State) :
    (∃ r, s.judgeApproval n entry = (s, some r)) ∨
    (∃ p, s.plate? n = some p ∧
      s.judgeApproval n entry = ((s.abandonBay n).becomeQueued n p.replate, some (Reply.bare .done))) ∨
    (∃ p, s.plate? n = some p ∧ p.policy = .hatch ∧
      s.judgeApproval n entry = (State.handToFiller n (State.setSource n
        ((s.abandonBay n).modPlate n fun p => { p with state := .approving, approveEntry := entry })), none)) := by
  unfold State.judgeApproval
  split
  · exact .inl ⟨_, rfl⟩
  · rename_i p hp
    cases hpol : p.policy with
    | hold =>
      by_cases hg : p.allGood = true
      · exact .inr (.inl ⟨p, hp, by simp [hg]⟩)
      · exact .inl ⟨Reply.bare .damageOpen, by simp [hg]⟩
    | hatch =>
      by_cases hg : p.anyAbsent = true
      · exact .inr (.inr ⟨p, hp, hpol, by simp [hg]⟩)
      · exact .inr (.inl ⟨p, hp, by simp [hg]⟩)

/-- All that the judgement of a held approval can do (R9, R66). -/
theorem State.judgeHeld_cases (n : Nat) (s : State) :
    s.judgeHeld n = s ∨
    ∃ p s' r, s.plate? n = some p ∧ p.approvalHeld = true ∧
      State.judgeApproval n p.approveEntry
        (s.modPlate n fun p => { p with approvalHeld := false, approveEntry := none }) = (s', r) ∧
      (r = none ∧ s.judgeHeld n = s' ∨ ∃ r', r = some r' ∧ s.judgeHeld n = s'.answer? p.approveEntry r') := by
  unfold State.judgeHeld
  split
  · exact .inl rfl
  · rename_i p hp
    split
    · rename_i hheld
      right
      cases hj : State.judgeApproval n p.approveEntry
        (s.modPlate n fun p => { p with approvalHeld := false, approveEntry := none }) with
      | mk s' r =>
        refine ⟨p, s', r, hp, hheld, hj, ?_⟩
        cases r with
        | none => left; simp
        | some r' => right; exact ⟨r', rfl, by simp⟩
    · exact .inl rfl

end Sys2Proof.Machine
end

