-- ==== Sys2Proof/Tests/Slice0.lean ====
section
/-! SUPPORT. The writer's own tests: ill-formed commands refused, the spec's worked examples, one step of each command, and
for each obligation with hypotheses a state and operands that meet them (at the bounds where its clauses meet). Each expected
value is the spec's own or worked by hand from its rules. -/

namespace Sys2Proof.Tests

open Sys2Proof.Machine Sys2Proof.Claims

/-! ### Ill-formed commands -/

theorem test_wellFormed_body : (Instr.configure 0 0 (List.replicate 65535 0)).wellFormed = true ∧
    (Instr.configure 0 0 (List.replicate 65536 0)).wellFormed = false := by
  simp only [Instr.wellFormed, bodyFits, List.length_replicate]; decide
theorem test_wellFormed_resetFull : (Instr.resetFull 0 0 [1]).wellFormed = false ∧
    (Instr.resetFull 0 0 [0]).wellFormed = true := by decide
theorem test_wellFormed_resetPlates : (Instr.resetPlates 0 0 [0]).wellFormed = false ∧
    (Instr.resetPlates 0 0 [1]).wellFormed = true := by decide
theorem test_wellFormed_unknownKind : (Instr.unknownKind 0 0x16 0 []).wellFormed = false ∧
    (Instr.unknownKind 0 0x17 0 []).wellFormed = true ∧ (Instr.unknownKind 0 0 0 []).wellFormed = true := by decide
theorem test_wellFormed_scanLine : (Instr.scanLine [1]).wellFormed = false := by decide

/-! ### Worked examples of the spec -/

/-- The polynomials, starting values and complements of R51 and R169 are those of CRC-32/BZIP2 and CRC-16/IBM-3740, whose
published check values over the nine characters 1 to 9 these are. -/
theorem test_crc : crc16 [0x31, 0x32, 0x33, 0x34, 0x35, 0x36, 0x37, 0x38, 0x39] = 0x29B1 ∧
    crc32 [0x31, 0x32, 0x33, 0x34, 0x35, 0x36, 0x37, 0x38, 0x39] = 0xFC891918 := by decide +kernel

/-- The table of R73. -/
theorem test_companded : [0, 31, 32, 128, 150, 192, 224, 255].map expandCompanded =
    [0, 16, 16, 245, 424, 1028, 2072, 4095] := by decide

/-- Section 4.10: density 424 on the curve with P[6] = 330 and P[7] = 392 has tone 369; R76: on the falling one, 353. -/
theorem test_tone : tone [0, 0, 0, 0, 0, 0, 330, 392] 424 = 369 ∧ tone [0, 0, 0, 0, 0, 0, 392, 330] 424 = 353 := by decide

/-- The 15° screen of section 4.10. -/
def screen15 : Screen :=
  { side := 16, ax := 63303, ay := 16962, bx := -16962, bY := 63303, tile := List.replicate 215 0 ++ [350] }

/-- Sections 4.10 and 4.11: the tile addresses of four dots, and the colour of dot (100, 37). -/
theorem test_address : screen15.address 100 37 = (7, 13) ∧ screen15.address 101 37 = (7, 13) ∧
    screen15.address 102 37 = (8, 14) ∧ screen15.address 0 50 = (3, 0) ∧ screen15.black 369 100 37 = true ∧
    screen15.black 350 100 37 = false := by decide

/-- R90: line 5 of strip 9 is plate line 581, black at 27, 28, 59 and 60. -/
theorem test_hatch : hatchDot 27 581 = true ∧ hatchDot 28 581 = true ∧ hatchDot 29 581 = false ∧ hatchDot 26 581 = false ∧
    hatchDot 60 581 = true := by decide

/-- R139 and R141's examples: gain 1,127 at 3,720 above dark; coverage 28 at sample 2,300, dark 180, gain 1,100. -/
theorem test_inspection_arithmetic : gainQuotient (16 * 3900) 180 = 1127 ∧ measuredCoverage 2300 180 1100 = 28 := by decide

/-- R143's example: the window -1, -2, 0, -1, 0, -2, -1, -1 gives b = -1. -/
theorem test_drift : driftEstimate [-1, -2, 0, -1, 0, -2, -1, -1] = -1 ∧
    pushDrift [-1, -2, 0, -1, 0, -2, -1, -1] (-2) = [-2, 0, -1, 0, -2, -1, -1, -2] := by decide

/-- The run tokens of section 3.9 up to REST on line 1, as bytes: WHITE 100, BLACK 24, WHITE 900, REST. -/
def tokens39 : List Byte := [1, 0, 100, 2, 0, 24, 1, 0x03, 0x84, 4, 0, 0]

/-- The dots 100 to 123 of a line. -/
def bar : Line := (BitVec.ofNat 24 0xFFFFFF).setWidth 32768 <<< 100

/-- Section 3.9 and R53: the code cut off is TRUNCATED with its two lines in the buffer, and WHITE 901 in place of WHITE 900
is LONG LINE with the line as WHITE 100 and BLACK 24 left it. -/
theorem test_lineArt_faults : lineArt 1024 12 tokens39 = .error (.truncated, [bar, bar]) ∧
    lineArt 1024 12 [1, 0, 100, 2, 0, 24, 1, 0x03, 0x85, 4, 0, 0] = .error (.longLine, [bar]) := by decide +kernel

/-- Section 3.9: REPEAT 32 with 33 lines done is LONG STRIP, END with 63 lines SHORT STRIP, and REPEAT inside a line is
MISPLACED. -/
theorem test_lineArt_order : lineArt 1024 9 [5, 0, 33, 5, 0, 32, 6, 0, 0] = .error (.longStrip, List.replicate 33 0) ∧
    lineArt 1024 6 [5, 0, 63, 6, 0, 0] = .error (.shortStrip, List.replicate 63 0) ∧
    lineArt 1024 6 [1, 0, 1, 5, 0, 1] = .error (.misplaced, [0]) := by decide +kernel

/-- Section 8.11 at R = 8 with the default settings: the run of line 100, and the defect records after lines 100 to 102. -/
theorem test_scratch_run : formRuns InspectionSettings.reset
    (List.replicate 40 none ++ [some (-20), some (-25), some (-18)] ++ List.replicate 17 none ++ [some 15, none]) =
    [{ first := 39, last := 43, devs := [-20, -25, -18] }] := by decide

def scratch100 : Tracker :=
  Tracker.matchLine 100 { list := [], opens := [], nextNumber := 1, untracked := 0, free := 512 }
    [{ first := 39, last := 43, devs := [-20, -25, -18] }]
def scratch101 : Tracker :=
  scratch100.matchLine 101 [{ first := 41, last := 44, devs := [-30, -19] }, { first := 46, last := 49, devs := [15, 16] }]
def scratch102 : Tracker := scratch101.matchLine 102 [{ first := 42, last := 48, devs := [-1, -22, -1, -1, -1] }]

theorem test_scratch_101 : scratch101.free = 510 ∧ scratch101.list.map DefectRecord.area = [5, 2] ∧
    scratch101.opens = [{ number := 1, ranges := [(41, 44)] }, { number := 2, ranges := [(46, 49)] }] := by decide
theorem test_scratch_102 : scratch102.list =
    [{ number := 1, firstLine := 100, lastLine := 102, firstElement := 39, lastElement := 49, area := 12, sign := .mixed,
       peak := 30 }] ∧ scratch102.free = 511 ∧ scratch102.nextNumber = 3 ∧
    (scratch102.matchLine 103 []).opens = [] := by decide

/-! ### Small states -/

def keyA : PlateKey := { edition := 1, page := 2, separation := 3, version := 4 }
def keyBytes : List Byte := [1, 0, 2, 3, 4]

/-- A strip record without cause. -/
def strip (st : StripState) : StripRecord := { state := st, source := .common, variantSeen := false, cause := .none }

/-- A plate of 1,024 by 1,024 dots, its 16 strips alike. -/
def plate (st : PlateState) (strips : StripState) : Plate :=
  { state := st, key := keyA, w := 1024, h := 1024, policy := .hold, screenSet := 1, curveSet := 1, replate := false,
    strips := List.replicate 16 (strip strips), duplicates := 0, zoneIgnored := 0, outcome := .none, exposures := 0,
    verdict := .none, defects := [], untracked := 0, approvalHeld := false, approveEntry := none, autoDue := false }

/-- The reset state with this plate in this bay. -/
def at_ (n : Nat) (p : Plate) : State := { State.reset with bays := State.reset.bays.set n (some p) }

/-- A scan of bay 7 with these lines received and waiting, and this expected line. -/
def scan (received : Nat) (fifo : List ScanLine) (expected : ExpectedLine) : Scan :=
  { bay := 7, key := keyA, settings := InspectionSettings.reset, received, next := 0, lagged := false, drift := [], fifo,
    expected, openDefects := [], nextNumber := 1 }
def scanning (sc : Scan) : State :=
  { at_ 7 (plate .inspecting .good) with inspection := { State.reset.inspection with work := .scanning sc } }

/-- An edge of line n is due: its pin at this level, its debounced level the other. -/
def edgeDue (n : Nat) (level : Bool) (s : State) : State :=
  { s with lines := { s.lines with
      inputs := s.lines.inputs.set n { InputLine.reset level with debounced := !level, count := 4, edgeDue := true } } }

/-- The body of a plate request for bay n. -/
def naming (n : Byte) : List Byte := n :: keyBytes

/-- A condition on every resident plate, checked bay by bay. -/
theorem every_plate {s : State} {P : Nat → Plate → Prop}
    (h : ∀ x ∈ s.bays.zipIdx, ∀ p ∈ x.1, P x.2 p) (n : Nat) (p : Plate) (hp : s.plate? n = some p) : P n p := by
  unfold State.plate? at hp
  rcases hb : s.bays[n]? with _ | o
  · simp [hb] at hp
  · refine h (o, n) ?_ p (by simpa [hb] using hp)
    simpa [List.mem_zipIdx_iff_getElem?] using hb

theorem ready_reset : Ready 0 State.reset := by unfold Ready; decide

/-! ### Witnesses: steps, resets and the link -/

theorem witness_StepTakesFrontCommand :
    ({ State.reset with pending := [.lineTick, .drumIndex] } : State).pending = .lineTick :: [.drumIndex] ∧
    State.reset.pending = [] := by decide

def bareAnswer (slot : Option Nat) : Answer := { slot, kind := 0x83, tag := 7, reply := only .done }
/-- A RESET FULL whose answer is being sent. -/
def endingFull : State :=
  { State.reset with link := { State.reset.link with tx := .answer (bareAnswer (some 0)), fullReset := some 0 } }

/-- Serves FullResetLeavesLink and FullResetLeavesBlocks. -/
theorem witness_FullReset : endingFull.link.tx = .answer (bareAnswer (some 0)) ∧ (bareAnswer (some 0)).slot = some 0 ∧
    endingFull.link.fullReset = some 0 := by decide

theorem witness_ResetFullWaitsForItsAnswer : Ready 0 State.reset ∧
    (endingFull.link.receiver = .hunting ∧ endingFull.link.fullReset.isSome = true) ∧ endingFull.link.answers = [] := by
  unfold Ready; decide

/-- A DARK phase with 15 lines. -/
def calibrating (lines : Nat) (phase : Phase) (sums : List Nat) : State :=
  { State.reset with
    inspection := { State.reset.inspection with work := .calibrating { phase, lines, sums, entry := some 0 } }
    link := { State.reset.link with outstanding := [{ slot := 0, tag := 7, kind := 0x12 }] } }

theorem witness_ResetPlatesClearsPlateWork : Ready 0 (calibrating 15 .dark []) ∧ (calibrating 15 .dark []).link.TablesFit ∧
    ∀ c, (calibrating 15 .dark []).inspection.work = .calibrating c → c.lines < 16 := by
  refine ⟨by unfold Ready; decide, by unfold Link.TablesFit; decide, fun c h => ?_⟩
  cases h; decide

theorem witness_MalformedRequestsAnswerBadField : Ready 0 State.reset ∧ ((0 : Byte).toNat < 1 ∧ 22 < (0x17 : Byte).toNat) ∧
    (fixedLength 2 = some 0 ∧ ([0] : List Byte).length ≠ 0) ∧ (fixedLength 6 = some 6 ∧ keyBytes.length ≠ 6) ∧
    1 < (2 : Byte).toNat := by
  unfold Ready; decide

theorem witness_IgnoredFramesChangeNothing : State.reset.link.receiver = .hunting ∧ (1 : Byte) ≠ State.reset.link.addrByte ∧
    ¬ ((1 : Byte) = 0x0F) ∧ (0x0F : Byte) ≠ State.reset.link.addrByte ∧
    ¬ ((4 : Byte).toNat = 5 ∨ (4 : Byte).toNat = 13 ∨ (4 : Byte).toNat = 14 ∨ (4 : Byte).toNat = 19 ∨ (4 : Byte).toNat = 3) := by
  decide

/-- Sixteen entries outstanding, and this many LINK BUSY answers. -/
def fullTable (busy : Nat) : State :=
  { State.reset with link := { State.reset.link with
      outstanding := (List.range 16).map fun n => { slot := n, tag := 0, kind := 2 }
      busy := List.replicate busy (0, 2), answers := List.replicate busy (bareAnswer none) } }

theorem witness_FullTableRefusesLinkBusy : (fullTable 3).link.receiver = .hunting ∧ (fullTable 3).link.fullReset = none ∧
    (0 : Byte) = (fullTable 3).link.addrByte ∧ (fullTable 3).link.outstanding.length = 16 ∧ (fullTable 3).link.busy.length < 4 ∧
    (fullTable 4).link.outstanding.length = 16 ∧ (fullTable 4).link.busy.length = 4 := by decide

theorem witness_BusyAnswerSent :
    ({ State.reset with link := { State.reset.link with tx := .answer (bareAnswer none) } } : State).link.tx =
      .answer (bareAnswer none) ∧ (bareAnswer none).slot = none := by decide

/-- The receiver has taken these characters of a frame. -/
def receiving (chars : List Byte) : State := { State.reset with link := { State.reset.link with receiver := .receiving chars } }

/-- The frame 00 02 07, no body, check 0000; it does not begin with 01, and after 01 makes no complete frame; its first four
characters begin it; its characters but the last are in the assembler, behind which a whole frame goes beyond the one that completes. -/
theorem witness_ReceiverCountsDiscardedFrames : State.reset.link.receiver = .hunting ∧ State.reset.link.fullReset = none ∧
    (0 : BitVec 16) ≠ crc16 ([0, 2, 7] ++ be16 ([] : List Byte).length ++ []) ∧
    (receiving [0, 2, 7, 0]).link.receiver = .receiving [0, 2, 7, 0] ∧
    (¬ (5 ≤ ([0, 2, 7, 0] : List Byte).length + 1 ∧ ([0, 2, 7, 0] : List Byte).length + 1 = 5 + u16At [0, 2, 7, 0, 0xA5] 3 + 2)) ∧
    ¬ ([1] : List Byte) <+: [0, 2, 7, 0, 0, 0, 0] ∧
    (∀ k, 1 < k → k ≤ 1 + 1 + 7 →
      ¬ (5 ≤ k ∧ k = 5 + u16At (([1, 0xA5, 0, 2, 7, 0, 0, 0, 0] : List Byte).take k) 3 + 2)) ∧
    ([0, 2, 7, 0, 0, 0] : List Byte) ++ [0] = [0, 2, 7] ++ be16 ([] : List Byte).length ++ [] ++ be16 (0 : BitVec 16).toNat ∧
    (0 : Byte) ≠ 0xA5 ∧
    (∀ chars, (receiving [0, 2, 7, 0, 0, 0]).link.receiver = .receiving chars → ¬ chars <+: ([1, 2, 7, 0, 0, 0, 0] : List Byte)) ∧
    (∀ chars, State.reset.link.receiver = .receiving chars → ¬ chars <+: ([0, 2, 7, 0, 0, 0, 0] : List Byte)) ∧
    ([0, 2, 7, 0] : List Byte) <+: [0, 2, 7] ++ be16 ([] : List Byte).length ++ [] ++ be16 (0 : BitVec 16).toNat := by
  refine ⟨rfl, rfl, by decide +kernel, rfl, by decide, by decide, fun k h1 h2 h => ?_, by decide, by decide,
    fun c h => (by cases h; decide), fun c h => (by cases h), by decide⟩
  have h3 : k = 5 ∨ k = 6 ∨ k = 7 ∨ k = 8 ∨ k = 9 := by omega
  rcases h3 with rfl | rfl | rfl | rfl | rfl <;> revert h <;> decide

/-- An IDLE transmitter with these sources pending. -/
def sourcesOnly (sources : BitVec 12) (ready : Bool) : State :=
  { State.reset with link := { State.reset.link with sources, ready } }

/-- Answers pending; the link source after a reset; source 3 the first after pointer 11, and source 11 itself the last, twelve
places on; nothing pending. -/
theorem witness_TransmitterChoosesNextFrame :
    (fullTable 1).link.tx = .idle ∧ (fullTable 1).link.answers = [bareAnswer none] ∧
    (State.reset.link.answers = [] ∧ State.reset.link.ready = true ∧ State.reset.link.sources.getLsbD 11 = true) ∧
    ((sourcesOnly 8 true).link.pointer + 1 + 3) % 12 = 3 ∧ (sourcesOnly 8 true).link.sources.getLsbD 3 = true ∧
    (∀ e, e < 3 → (sourcesOnly 8 true).link.sources.getLsbD (((sourcesOnly 8 true).link.pointer + 1 + e) % 12) = false) ∧
    (sourcesOnly 0x800 false).link.ready = false ∧ ((sourcesOnly 0x800 false).link.pointer + 1 + 11) % 12 = 11 ∧
    (∀ e, e < 11 → (sourcesOnly 0x800 false).link.sources.getLsbD
      (((sourcesOnly 0x800 false).link.pointer + 1 + e) % 12) = false) ∧
    (sourcesOnly 0 true).link.sources = 0 := by decide

/-- The lines of the line notice; an answer and the notice of source 11 being sent. -/
theorem witness_TransmitterChoosesNextFrame_frames : State.reset.lines.inputs.length = 8 ∧
    endingFull.link.tx = .answer (bareAnswer (some 0)) ∧
    (∃ body, State.reset.transmit.link.tx = .notice 11 body false) ∧ 11 < 12 := ⟨rfl, rfl, ⟨_, rfl⟩, by decide⟩

/-- Scan lines expected, the last line, and a scan whose head entry is at place 3 of the inspection queue, in the records. -/
theorem witness_records : plateStates[7]? = some (some .held) ∧
    ({ State.reset with inspectionQueue := [.bay 1, .bay 2, .bay 3, .aborted keyA] } : State).inspectionQueue[3]? =
      some (.aborted keyA) ∧ State.reset.inspectionQueue[3]? = none ∧
    (scanning (scan 5 [] .empty)).inspection.work = .scanning (scan 5 [] .empty) ∧
    (∀ sc, State.reset.inspection.work ≠ .scanning sc) := by
  refine ⟨rfl, rfl, rfl, rfl, fun sc h => by cases h⟩

/-- A HELD plate due for its automatic release, its notice being sent. -/
def dueBay (due : Bool) : State :=
  { at_ 2 { plate .held .good with autoDue := due } with link := { State.reset.link with tx := .notice 2 [] due } }

theorem witness_SentFramesFreeWhatTheyHold :
    ({ State.reset with link := { State.reset.link with tx := .answer (bareAnswer (some 0)) } } : State).link.tx =
      .answer (bareAnswer (some 0)) ∧ (bareAnswer (some 0)).slot = some 0 ∧ State.reset.link.fullReset ≠ some 0 ∧
    ((dueBay true).link.tx = .notice 2 [] true ∧
      (dueBay true).plate? 2 = some { plate .held .good with autoDue := true }) ∧
    (dueBay false).link.tx = .notice 2 [] false := by decide

/-- Bay mode 8, zone code 2, mask FFFFh, R = 8, MANUAL, 200 ms, auto-release off (section 11.4). -/
def configureBody : List Byte := [8, 0, 2, 0xFF, 0xFF, 8, 0, 20, 0]

theorem witness_ConfigureReplacesSettings : Ready 0 State.reset ∧ configureBody.length = 9 ∧
    byteAt configureBody 0 = 8 ∧ byteAt configureBody 5 = 8 ∧ byteAt configureBody 6 ≤ 1 ∧ byteAt configureBody 8 ≤ 1 ∧
    (∀ o ∈ State.reset.bays, o = none) ∧ State.reset.exposure.state = .idle ∧ State.reset.inspection.work = .idle ∧
    ¬ (∀ o ∈ (at_ 0 (plate .filling .absent)).bays, o = none) := by unfold Ready; decide

/-! ### Witnesses: plates -/

/-- OPEN PLATE of key A, W = 1,024, H = 1,024, HOLD, screen set 1, curve set 1. -/
def openBody : List Byte := keyBytes ++ [4, 0, 4, 0, 0, 1, 1]

def predecessor (st : PlateState) : Plate := { plate st .absent with key := { keyA with version := 3 } }

theorem no_plate (n : Nat) (p : Plate) : State.reset.plate? n ≠ some p := fun h =>
  every_plate (s := State.reset) (P := fun _ _ => False) (by decide) n p h

theorem witness_OpenPlateChecksInOrder : Ready 0 (at_ 0 (plate .held .good)) ∧ openBody.length = 12 ∧ OpenRanges openBody ∧
    u16At openBody 5 * u16At openBody 7 ≤ bayDots .eight ∧
    (∃ n p, (at_ 0 (plate .held .good)).plate? n = some p ∧ p.key = keyAt openBody 0) ∧
    ¬ OpenRanges [1, 0, 2, 3, 4, 4, 1, 4, 0, 0, 1, 1] ∧
    OpenRanges [1, 0, 2, 3, 4, 0x80, 0, 0x40, 64, 0, 1, 1] ∧ ¬ (32768 * 16448 ≤ bayDots .eight) := by
  refine ⟨by unfold Ready; decide, by decide, by unfold OpenRanges KeyOk; decide, by decide,
    ⟨0, plate .held .good, by decide⟩, by unfold OpenRanges KeyOk; decide, by unfold OpenRanges KeyOk; decide, by decide⟩

/-- The stale clause: the resident version 4 is above the offered version 3. -/
theorem witness_OpenPlateStale : ∃ n p, (at_ 7 (plate .exposed .good)).plate? n = some p ∧
    SamePage p.key { keyA with version := 3 } ∧ ({ keyA with version := 3 } : PlateKey).version < p.key.version :=
  ⟨7, plate .exposed .good, by unfold SamePage; decide⟩

/-- The five checks of R5 pass against one predecessor of version 3. -/
theorem openPasses (s : State) (hm : bayDots s.settings.bayMode = 536870912)
    (h : ∀ x ∈ s.bays.zipIdx, ∀ p ∈ x.1, p.key ≠ keyA ∧ p.key.version ≤ 4) : OpenPasses openBody s :=
  have h' := every_plate (P := fun _ p => p.key ≠ keyA ∧ p.key.version ≤ 4) h
  ⟨rfl, by unfold OpenRanges KeyOk; decide, by rw [hm]; decide, fun n p hp => (h' n p hp).1,
    fun n p hp _ => (h' n p hp).2⟩

/-- Every bay EXPOSED but the last, which holds the predecessor in this state. -/
def seven (st : PlateState) : State :=
  { State.reset with bays := List.replicate 7 (some { predecessor .exposed with key := zeroKey }) ++ [some (predecessor st)] }

/-- Nothing to withdraw: bay 0 FREE beside a HELD predecessor, and no bay FREE at all. -/
theorem witness_OpenPlateTakesLowestFreeBay_free :
    Ready 0 (at_ 1 (predecessor .held)) ∧ OpenPasses openBody (at_ 1 (predecessor .held)) ∧
    (∀ n p, (at_ 1 (predecessor .held)).plate? n = some p → SamePage p.key (keyAt openBody 0) → ¬ Withdrawable p) ∧
    (at_ 1 (predecessor .held)).plate? 0 = none ∧
    (∃ m p, (at_ 1 (predecessor .held)).plate? m = some p ∧ SamePage p.key (keyAt openBody 0)) ∧
    OpenPasses openBody (seven .held) ∧ (∀ n, n < (seven .held).bays.length → (seven .held).plate? n ≠ none) ∧
    (∀ n p, (seven .held).plate? n = some p → SamePage p.key (keyAt openBody 0) → ¬ Withdrawable p) :=
  ⟨by unfold Ready; decide, openPasses _ rfl (by decide),
    every_plate (P := fun _ p => SamePage p.key (keyAt openBody 0) → ¬ Withdrawable p)
      (by unfold SamePage Withdrawable; decide), by decide, ⟨1, predecessor .held, by unfold SamePage; decide⟩,
    openPasses _ rfl (by decide), by decide,
    every_plate (P := fun _ p => SamePage p.key (keyAt openBody 0) → ¬ Withdrawable p)
      (by unfold SamePage Withdrawable; decide)⟩

/-- The one predecessor, QUEUED in bay 7, is withdrawn and its bay, the only one then FREE, is taken. -/
theorem witness_OpenPlateTakesLowestFreeBay_withdraw : Ready 0 (seven .queued) ∧ OpenPasses openBody (seven .queued) ∧
    (seven .queued).plate? 7 = some (predecessor .queued) ∧ SamePage (predecessor .queued).key (keyAt openBody 0) ∧
    (∀ i q, (seven .queued).plate? i = some q → SamePage q.key (keyAt openBody 0) → Withdrawable q → i = 7) ∧
    7 < (seven .queued).bays.length ∧ (∀ i, i < 7 → (seven .queued).plate? i ≠ none ∧ i ≠ 7) :=
  ⟨by unfold Ready; decide, openPasses _ rfl (by decide), by decide, by unfold SamePage; decide,
    every_plate (P := fun i q => SamePage q.key (keyAt openBody 0) → Withdrawable q → i = 7)
      (by unfold SamePage Withdrawable; decide), by decide, by decide⟩

/-- The one predecessor FILLING, and APPROVING, in bay 7: let go, and its bay taken. -/
theorem witness_OpenPlateTakesLowestFreeBay_letGo (st : PlateState) (h : st = .filling ∨ st = .approving) :
    Ready 0 (seven st) ∧ OpenPasses openBody (seven st) ∧ (seven st).plate? 7 = some (predecessor st) ∧
    SamePage (predecessor st).key (keyAt openBody 0) ∧ Withdrawable (predecessor st) ∧
    (∀ i q, (seven st).plate? i = some q → SamePage q.key (keyAt openBody 0) → Withdrawable q → i = 7) ∧
    (∀ i, i < 7 → (seven st).plate? i ≠ none ∧ i ≠ 7) := by
  rcases h with rfl | rfl
  all_goals exact ⟨by unfold Ready; decide, openPasses _ rfl (by decide), by decide, by unfold SamePage; decide,
    by unfold Withdrawable; decide,
    every_plate (P := fun i q => SamePage q.key (keyAt openBody 0) → Withdrawable q → i = 7)
      (by unfold SamePage Withdrawable; decide), by decide⟩

theorem witness_PlateRequestsNameTheirPlate : Ready 0 State.reset ∧ (naming 7).length = 6 ∧
    (State.reset.settings.bayMode.count ≤ byteAt (naming 8) 0 ∧ byteAt (naming 7) 0 < State.reset.settings.bayMode.count) ∧
    (naming 7 ++ [0, 15, 3, 0]).length = 10 ∧ KeyOk (keyAt (naming 7) 1) ∧
    ¬ KeyOk (keyAt [7, 1, 3, 0xE8, 3, 15] 1) ∧ KeyOk (keyAt [7, 1, 3, 0xE7, 3, 15] 1) ∧
    ∀ p, State.reset.plate? (byteAt (naming 7) 0) = some p → p.key ≠ keyAt (naming 7) 1 :=
  ⟨by unfold Ready; decide, by decide, by decide, by decide, by unfold KeyOk; decide, by unfold KeyOk; decide,
    by unfold KeyOk; decide, fun p h => absurd h (no_plate _ _)⟩

/-- A block header for key A: strip, zone kind and code, windows, code length 3 and body check of the END token. -/
def header (strip zone windows : Byte) : List Byte :=
  keyBytes ++ [0, strip, zone, 0, 1, windows, 0, 3] ++ be32 (crc32 [6, 0, 0]).toNat
/-- A STRIP BLOCK body with a sound header and three bytes of body. -/
def blockBody (strip zone windows : Byte) : List Byte :=
  header strip zone windows ++ be16 (crc16 (header strip zone windows)).toNat ++ [6, 0, 0]

/-- The header check sound and unsound; a VARIANT of code 1 in a plant of code 0 and mask FFFFh. -/
theorem witness_StripBlock_header : 19 ≤ (blockBody 15 1 16).length ∧
    crc16 ((blockBody 15 1 16).take 17) = BitVec.ofNat 16 (u16At (blockBody 15 1 16) 17) ∧ byteAt (blockBody 15 1 16) 7 ≤ 1 ∧
    byteAt (blockBody 15 1 16) 7 = 1 ∧ (BitVec.ofNat 16 (u16At (blockBody 15 1 16) 8) ^^^ 0) &&& 0xFFFF#16 ≠ 0 ∧
    (BitVec.ofNat 16 (u16At (blockBody 15 1 16) 8) ^^^ State.reset.settings.zoneCode) &&& State.reset.settings.zoneMask = 0 ∧
    u16At (blockBody 15 1 16) 5 = 15 ∧ byteAt (blockBody 15 1 16) 10 = 16 ∧ keyAt (blockBody 15 1 16) 0 = keyA := by
  decide +kernel

/-- The plate of key A stands in bay 3 only, FILLING with 16 strips or not FILLING; the queue is empty, or full. -/
theorem witness_StripBlock_plate : Ready 0 (at_ 3 (plate .filling .absent)) ∧
    (at_ 3 (plate .filling .absent)).plate? 3 = some (plate .filling .absent) ∧
    (∀ m q, (at_ 3 (plate .filling .absent)).plate? m = some q → q.key = keyA → m = 3) ∧
    (plate .filling .absent).strips.length = 16 ∧ (plate .queued .good).state ≠ .filling ∧
    (at_ 3 (plate .filling .absent)).charged = 0 ∧ (at_ 3 (plate .filling .absent)).intake.queue.length < 32 :=
  ⟨by unfold Ready; decide, by decide, every_plate (P := fun m q => q.key = keyA → m = 3) (by decide), by decide, by decide,
    by decide, by decide⟩

/-- A request can be taken; a full table; a calibration in progress that RESET PLATES abandons; another body of RESET. -/
theorem witness_BroadcastActsUnanswered : Ready 0 State.reset ∧ (5 : Byte).toNat = 5 ∧ (0x0D : Byte).toNat = 13 ∧
    (0x0E : Byte).toNat = 14 ∧ (0x13 : Byte).toNat = 19 ∧
    ((fullTable 4).link.receiver = .hunting ∧ (fullTable 4).link.fullReset = none ∧ (fullTable 4).link.outstanding.length = 16) ∧
    (calibrating 15 .dark []).link.TablesFit ∧ ([2] : List Byte) ≠ [0] ∧ ([2] : List Byte) ≠ [1] := by
  unfold Ready Link.TablesFit; decide

theorem names (n : Nat) (b : Byte) (p : Plate) (hn : n < 8) (hb : b.toNat = n) (hk : p.key = keyA) :
    Names (naming b) (at_ n p) n p := by
  have hK : keyAt (naming b) 1 = keyA := by simp [naming, keyBytes, keyAt, byteAt, u16At, keyA]
  refine ⟨hb, hn, by rw [hK]; unfold KeyOk; decide, ?_, by rw [hK]; exact hk⟩
  simp [at_, State.plate?, State.reset, hn]

/-- A state the requests of these witnesses are sent to: plate p in bay 7. -/
theorem ready_at (n : Nat) (p : Plate) : Ready 0 (at_ n p) := ready_reset

def held : Plate := { plate .filling .good with approvalHeld := true }
def hatching : Plate := { plate .filling .good with policy := .hatch, strips := strip .good :: List.replicate 15 (strip .absent) }
def context (n : Nat) : StripContext :=
  { bay := n, key := keyA, strip := 3, zone := .common, w := 1024, screenSet := 1, curveSet := 1, content := .image,
    cause := .none }
/-- Plate p in bay n, its strip 3 being written. -/
def writingInto (n : Nat) (p : Plate) (served : Nat) : State :=
  { at_ n p with decoder := { buffers := [.free, .writing (context n) [] served], readyOrder := [] } }

/-- Strip `i` of bay 7 has been hatched, all its 128 bursts served, and these bays wait in the fill list. -/
def hatched (i : Nat) (list : List Nat) : State :=
  { at_ 7 { hatching with state := .approving, approveEntry := some 0 } with
    filler := { fill := some { bay := 7, key := keyA, w := 1024, h := 1024, strip := i, requested := 128, served := 128 }, list }
    link := { State.reset.link with outstanding := [{ slot := 0, tag := 7, kind := 6 }] } }

/-- A plate under this policy, its strip 15 as given and the others GOOD, its approval held with entry 0. -/
def heldPlate (last : StripState) (policy : Policy) : Plate :=
  { plate .filling .good with
    policy, strips := List.replicate 15 (strip .good) ++ [strip last], approvalHeld := true, approveEntry := some 0 }
/-- That plate in bay 7, the write of its strip 3 served whole. -/
def heldWriting (last : StripState) (policy : Policy) : State :=
  { writingInto 7 (heldPlate last policy) 128 with
    link := { State.reset.link with outstanding := [{ slot := 0, tag := 7, kind := 6 }] } }

theorem witness_ApprovePlateJudged : Ready 0 (at_ 7 held) ∧ (naming 7).length = 6 ∧ Names (naming 7) (at_ 7 held) 7 held ∧
    held.state = .filling ∧ held.approvalHeld = true ∧ (plate .queued .good).state ≠ .filling ∧
    NoPendingWrite 7 (at_ 7 hatching) ∧ (plate .filling .good).policy = .hold ∧
    (∃ r ∈ (plate .filling .absent).strips, r.state ≠ .good) ∧ (∀ r ∈ (plate .filling .good).strips, r.state = .good) ∧
    (at_ 7 held).settings.mode = .manual ∧ hatching.policy = .hatch ∧
    (∀ r ∈ ({ hatching with strips := List.replicate 16 (strip .damaged) } : Plate).strips, r.state ≠ .absent) :=
  ⟨ready_at _ _, rfl, names 7 7 held (by decide) rfl rfl, rfl, rfl, by decide, by unfold NoPendingWrite; decide, rfl,
    ⟨strip .absent, by decide, by decide⟩, by decide, rfl, rfl, by decide⟩

/-- AUTO mode with every start condition true, and bay 2, holding q, at the head of the approval queue before these bays. -/
def autoStart (q : Plate) (queue : List Nat) (s : State) : State :=
  { s with
    settings := { s.settings with mode := .auto }
    bays := s.bays.set 2 (some q)
    approvalQueue := 2 :: queue
    exposure := { State.reset.exposure with spent := false }
    lines := { s.lines with inputs := List.replicate 8 (InputLine.reset true) } }

def other : Plate := { plate .queued .good with key := { keyA with page := 9 } }

/-- The AUTO clause of EndsAuto: bay 7 becomes QUEUED behind bay 2, as ApprovePlateJudged, ReexposePlateQueuesAgain and
StripWriteRecordsItsResult use it. -/
theorem witness_EndsAuto :
    let s := autoStart other [] (at_ 7 (plate .filling .good))
    let u : State := { answered 6 9 (only .done) s with
      bays := s.bays.set 7 (some (plate .queued .good)), approvalQueue := s.approvalQueue ++ [7] }
    Ready 0 s ∧ s.plate? 7 = some (plate .filling .good) ∧ NoPendingWrite 7 s ∧ AutoReady u ∧ u.approvalQueue = 2 :: [7] ∧
    u.plate? 2 = some other ∧ 32 ≤ other.h ∧ ¬ AutoReady State.reset := by
  unfold Ready NoPendingWrite AutoReady; decide

theorem witness_ApprovePlateLeftUnanswered : Names (naming 7) (at_ 7 hatching) 7 hatching ∧ hatching.state = .filling ∧
    hatching.approvalHeld = false ∧ NoPendingWrite 7 (at_ 7 hatching) ∧ hatching.policy = .hatch ∧
    (hatching.strips[1]?).map StripRecord.state = some .absent ∧
    (∀ j, j < 1 → (hatching.strips[j]?).map StripRecord.state ≠ some .absent) ∧ (at_ 7 hatching).filler.fill = none ∧
    (∃ b ∈ (writingInto 7 hatching 0).decoder.buffers, b.forBay 7 = true ∧ b.isWriting = true) :=
  ⟨names 7 7 hatching (by decide) rfl rfl, rfl, rfl, by unfold NoPendingWrite; decide, rfl, by decide, by decide, rfl,
    ⟨.writing (context 7) [] 0, by decide, by decide, by decide⟩⟩

/-- The hypotheses that ReleasePlateFreesBay, PriorityPlateMovesToHead, ReexposePlateQueuesAgain and the READ PLATE of
ReadsAnswerAndChangeNothing share, met for a plate in any state. -/
theorem witness_plate_requests (st : PlateState) : Ready 0 (at_ 7 (plate st .good)) ∧ (naming 7).length = 6 ∧
    Names (naming 7) (at_ 7 (plate st .good)) 7 (plate st .good) ∧ (plate st .good).state = st :=
  ⟨ready_at _ _, rfl, names 7 7 _ (by decide) rfl rfl, rfl⟩

/-- An APPROVING bay whose fill is under way, with nothing and with bay 2 (its strip 0 ABSENT) waiting in the fill list; and a
FILLING bay with a held approval. The entry is outstanding. -/
theorem witness_ReleasePlateFreesBay :
    (hatched 14 []).plate? 7 = some { hatching with state := .approving, approveEntry := some 0 } ∧
    (hatched 14 []).link.outstanding.find? (fun x => decide (x.slot = 0)) = some { slot := 0, tag := 7, kind := 6 } ∧
    ((hatched 14 []).filler.fill.map FillContext.bay = some 7 ∧ (hatched 14 []).filler.list = []) ∧
    ((hatched 14 [2]).filler.list = 2 :: [] ∧ ({ hatched 14 [2] with bays :=
        ((hatched 14 [2]).bays.set 2 (some (plate .approving .absent))) } : State).plate? 2 = some (plate .approving .absent) ∧
      ((plate .approving .absent).strips[0]?).map StripRecord.state = some .absent) ∧
    (heldWriting .good .hold).plate? 7 = some (heldPlate .good .hold) ∧ (heldPlate .good .hold).state = .filling ∧
    (heldPlate .good .hold).approveEntry = some 0 ∧
    (heldWriting .good .hold).link.outstanding.find? (fun x => decide (x.slot = 0)) = some { slot := 0, tag := 7, kind := 6 } ∧
    (∀ f, State.reset.filler.fill = some f → f.bay ≠ 7) := by
  refine ⟨by decide, by decide, by decide, by decide, by decide, rfl, rfl, by decide, fun f h => by cases h⟩

/-- Neither superseded nor, with version 5 of the page beside it, free of a successor. -/
theorem witness_ReexposePlateQueuesAgain :
    (¬ ∃ m q, (at_ 7 (plate .held .good)).plate? m = some q ∧ SamePage q.key keyA ∧ keyA.version < q.key.version) ∧
    ∃ m q, (at_ 0 { plate .filling .good with key := { keyA with version := 5 } }).plate? m = some q ∧ SamePage q.key keyA ∧
      keyA.version < q.key.version :=
  ⟨fun ⟨m, q, h, hs⟩ => every_plate (P := fun _ q => ¬ (SamePage q.key keyA ∧ keyA.version < q.key.version))
      (by unfold SamePage; decide) m q h hs,
    ⟨0, { plate .filling .good with key := { keyA with version := 5 } }, by unfold SamePage; decide⟩⟩

/-- READ STRIPS of strip 15, count 768, and of strip 16, which the plate has not; a line's record, and a FREE bay. -/
theorem witness_ReadsAnswerAndChangeNothing : State.reset.lines.inputs.length = 8 ∧
    State.reset.lines.inputs[7]? = some (InputLine.reset false) ∧ State.reset.plate? 7 = none ∧
    (naming 7 ++ [0, 15, 3, 0]).length = 10 ∧ u16At (naming 7 ++ [0, 15, 3, 0]) 6 < (plate .held .good).strips.length ∧
    u16At (naming 7 ++ [0, 15, 3, 0]) 8 ≤ 768 ∧ 1 ≤ u16At (naming 7 ++ [0, 15, 3, 0]) 8 ∧
    (plate .held .good).strips.length ≤ u16At (naming 7 ++ [0, 16, 0, 1]) 6 ∧
    768 < u16At (naming 7 ++ [0, 15, 3, 1]) 8 ∧ (plate .held .good).state = .held ∧ (plate .exposed .good).state ≠ .held := by
  decide

/-! ### Witnesses: decoder, screening and filler -/

/-- 64 white lines: REPEAT 64 on the white reference, END (R54, R55). -/
def whiteBody : List Byte := [5, 0, 64, 6, 0, 0]
def block (zone : ZoneKind) (body : List Byte) (check : BitVec 32) : Block :=
  { key := keyA, strip := 15, zone, zoneCode := 0, windows := 0, codeLength := 6, bodyCheck := check, headerCheck := 0, body }
/-- Bay 7 with this approval held, its write served, and a variant block of its plate waiting. -/
def heldWaiting (last : StripState) (policy : Policy) : State :=
  { heldWriting last policy with intake := { queue := [block .variant [0] 0], dropped := 4 } }
/-- This block waits, and buffer 1 alone is FREE beside a READY buffer of another strip. -/
def waiting (n : Nat) (p : Plate) (b : Block) : State :=
  { at_ n p with
    intake := { queue := [b], dropped := 0 }
    decoder := { buffers := [.ready (context 5) [] false, .free], readyOrder := [0] } }

theorem mayTake_waiting (n : Nat) (p : Plate) (b b' : Block) (h : b.strip = 15) : MayTake b (waiting n p b') := by
  refine ⟨by simp [waiting, StripBuffer.isBuilding], ⟨.free, by simp [waiting], rfl⟩, fun ctx lines _ h2 => ⟨fun t hm => ?_, fun t hm => ?_⟩⟩
  · simp only [waiting, List.mem_cons, List.not_mem_nil, or_false, reduceCtorEq] at hm
    injection hm with h3
    rw [h3, h] at h2
    exact absurd h2 (by decide)
  · simp [waiting] at hm

theorem witness_BlockTakeDropsOrDiscards :
    (waiting 7 (plate .queued .good) (block .common [] 0)).intake.queue = [block .common [] 0] ∧
    MayTake (block .common [] 0) (waiting 7 (plate .queued .good) (block .common [] 0)) ∧
    (∀ n p, (waiting 7 (plate .queued .good) (block .common [] 0)).plate? n = some p → p.key = keyA →
      p.state ≠ .filling ∨ p.strips.length ≤ 15) ∧
    (waiting 7 (plate .filling .good) (block .common [] 0)).plate? 7 = some (plate .filling .good) ∧
    (∀ m q, (waiting 7 (plate .filling .good) (block .common [] 0)).plate? m = some q → q.key = keyA → m = 7) ∧
    (plate .filling .good).strips[15]? = some (strip .good) :=
  ⟨rfl, mayTake_waiting _ _ _ _ rfl,
    every_plate (P := fun _ p => p.key = keyA → p.state ≠ .filling ∨ p.strips.length ≤ 15) (by decide),
    by decide, every_plate (P := fun m q => q.key = keyA → m = 7) (by decide), by decide⟩

/-- These buffers, and a block waiting. -/
def withBuffers (buffers : List StripBuffer) (b : Block) (s : State) : State :=
  { s with
    intake := { queue := [b], dropped := 0 }
    decoder := { buffers, readyOrder := (List.range 2).filter fun i => (buffers.getD i .free).isReady } }
/-- A buffer decoding a block for bay 7. -/
def decoding : StripBuffer := .building (context 7) (block .common [] 0) [] (.applying 0)

/-- A body being decoded; no buffer FREE; a write of the block's own strip 3 waiting, and in progress. -/
theorem witness_BlockTakeDropsOrDiscards_waits :
    let b := { block .common [] 0 with strip := 3 }
    ¬ MayTake b (withBuffers [decoding, .free] b State.reset) ∧
    ¬ MayTake b (withBuffers [.ready (context 5) [] false, .ready (context 6) [] false] b State.reset) ∧
    ¬ MayTake b (withBuffers [.ready (context 7) [] false, .free] b State.reset) ∧
    ¬ MayTake b (withBuffers [.writing (context 7) [] 0, .free] b State.reset) ∧ State.reset.intake.queue = [] := by
  refine ⟨fun h => ?_, fun h => ?_, fun h => ?_, fun h => ?_, rfl⟩
  · have := h.1 decoding (by simp [withBuffers]); cases this
  · obtain ⟨x, hx, rfl⟩ := h.2.1; simp [withBuffers] at hx
  · exact (h.2.2 (context 7) [] rfl rfl).1 false (by simp [withBuffers])
  · exact (h.2.2 (context 7) [] rfl rfl).2 0 (by simp [withBuffers])

/-- Bay 7 with a buffer BUILDING for it, which an approval abandons, and beside it one READY for another bay. -/
theorem witness_ApprovePlateJudged_building :
    NoPendingWrite 7 (withBuffers [decoding, .ready (context 5) [] false] (block .common [] 0) (at_ 7 hatching)) ∧
    (withBuffers [decoding, .ready (context 5) [] false] (block .common [] 0) (at_ 7 hatching)).decoder.readyOrder = [1] ∧
    (withBuffers [decoding, .ready (context 5) [] false] (block .common [] 0) (at_ 7 hatching)).plate? 7 = some hatching := by
  refine ⟨by unfold NoPendingWrite; decide, by decide, by decide⟩

/-- Bay 7 with a buffer READY for it behind one for bay 5; and, its approval held, behind the WRITING one, strip 15 ABSENT. -/
theorem witness_ApprovePlateLeftUnanswered_ready :
    let s := withBuffers [.ready (context 5) [] false, .ready (context 7) [] false] (block .common [] 0) (at_ 7 hatching)
    let w := { heldWriting .absent .hatch with
      decoder := { buffers := [.ready (context 7) [] false, .writing (context 7) [] 128], readyOrder := [0] } }
    (∀ b ∈ s.decoder.buffers, b.forBay 7 = true → b.isWriting = false) ∧ s.decoder.readyOrder = [0] ++ 1 :: [] ∧
    s.decoder.buffers[1]? = some (.ready (context 7) [] false) ∧ (context 7).bay = 7 ∧
    (∀ j ∈ [0], ∀ b, s.decoder.buffers[j]? = some b → b.forBay 7 = false) ∧
    (∀ j b, j ≠ 1 → w.decoder.buffers[j]? = some b → b.isWriting = false) ∧ w.filler.fill = none ∧
    (((heldPlate .absent .hatch).strips.set 3 (strip .good))[15]?).map StripRecord.state = some .absent ∧
    (∀ j, j < 15 → (((heldPlate .absent .hatch).strips.set 3 (strip .good))[j]?).map StripRecord.state ≠ some .absent) := by
  refine ⟨by decide, rfl, rfl, rfl, fun j hj b hb => ?_, fun j b hj hb => ?_, rfl, by decide, by decide⟩
  · obtain rfl : j = 0 := by simpa using hj
    cases hb; decide
  · match j, hj, hb with
    | 0, _, h => cases h; rfl
    | n + 2, _, h => cases h

theorem witness_LineArtFillsTheStrip : lineArt 1024 6 whiteBody = .ok (List.replicate 64 0) ∧
    lineArt 32768 6 whiteBody = .ok (List.replicate 64 0) ∧ lineArt 1 6 whiteBody = .ok (List.replicate 64 0) ∧
    lineArt 32768 3 whiteBody = .error (.truncated, List.replicate 64 0) ∧
    lineArt 1 3 [1, 0, 0] = .error (.zeroRun, []) := by
  decide +kernel

/-- Each kind at a bound of its tests: runs of one dot up to W, REST at the last dot, REPEAT up to line 64, END at line 64; and
each fault of R56. -/
theorem witness_LineArtFillsTheStrip_tokens :
    let at_ := fun (x lines : Nat) => ({ done := List.replicate lines 0, cur := 0, x, ref := 0 } : Art)
    (tokenFault 1024 1 1 (at_ 1023 63) = .none ∧ tokenFault 1024 2 1 (at_ 0 63) = .none ∧ tokenFault 1024 3 1024 (at_ 0 0) = .none) ∧
    (tokenFault 1024 4 0 (at_ 1023 0) = .none ∧ tokenFault 1024 5 64 (at_ 0 0) = .none ∧ tokenFault 1024 6 9 (at_ 0 64) = .none) ∧
    tokenFault 1024 7 1 (at_ 0 0) = .unknownToken ∧ tokenFault 1024 1 0 (at_ 0 64) = .zeroRun ∧
    tokenFault 1024 5 3 (at_ 1 63) = .misplaced ∧ tokenFault 1024 5 65 (at_ 0 0) = .longStrip ∧
    tokenFault 1024 6 0 (at_ 0 63) = .shortStrip ∧ tokenFault 1024 3 2 (at_ 1023 0) = .longLine := by decide

/-- A body whose check differs, a faulty one (a zero run) and a sound one, over the ABSENT strip 15. -/
theorem witness_BlockTakeDecodes :
    MayTake (block .common whiteBody 0) (waiting 7 (plate .filling .absent) (block .common whiteBody 0)) ∧
    (plate .filling .absent).strips[15]? = some (strip .absent) ∧
    (waiting 7 (plate .filling .absent) (block .common whiteBody 0)).decoder.buffers[1]? = some .free ∧
    (∀ j, j < 1 → (waiting 7 (plate .filling .absent) (block .common whiteBody 0)).decoder.buffers[j]? ≠ some .free) ∧
    crc32 whiteBody ≠ 0 ∧ lineArt 1024 6 [1, 0, 0, 6, 0, 0] = .error (.zeroRun, []) ∧
    (block .common whiteBody (crc32 whiteBody)).windows = 0 := by
  refine ⟨mayTake_waiting _ _ _ _ rfl, by decide, rfl, by decide, by decide +kernel, by decide, rfl⟩

/-- Line art, a window of two 4 by 4 cells at dot x0 with these form, slot and offset bytes, and a sample byte for each. -/
def windowed (x0 : Nat) (bits slots offset : Byte) : Block :=
  { block .common (whiteBody ++ be16 x0 ++ [63, 0, 1, 2, bits, slots, 0, offset] ++ [128, 128]) 0 with windows := 1 }

/-- Sound line art with windows: one that passes, the last dot of the plate and the first beyond it; a form, a slot, an EMPTY
slot and a sample array at fault; a record not wholly within the body. -/
theorem witness_BlockTakeDecodes_windows :
    let screens : List (Option Screen) := some screen15 :: List.replicate 7 none
    lineArt 1024 6 (windowed 1023 2 0 16).body = .ok (List.replicate 64 0) ∧
    (windowCause (context 7) screens (windowed 1023 2 0 16) 0 = .none ∧ (recordOf (windowed 1023 2 0 16) 0).x0 < (context 7).w) ∧
    (windowCause (context 7) screens (windowed 1024 2 0 16) 0 = .none ∧ (context 7).w ≤ (recordOf (windowed 1024 2 0 16) 0).x0) ∧
    windowCause (context 7) screens (windowed 0 1 0 16) 0 = .windowForm ∧
    windowCause (context 7) screens (windowed 0 2 0x10 16) 0 = .windowSlot ∧
    windowCause (context 7) [none] (windowed 0 2 0 16) 0 = .windowSlot ∧
    windowCause (context 7) screens (windowed 0 2 0 17) 0 = .windowData ∧
    windowCause (context 7) screens { windowed 0 2 0 16 with codeLength := 9 } 0 = .windowData := by decide +kernel

def building (stage : DecodeStage) : State :=
  { State.reset with decoder := { buffers := [.free, .building (context 7) (block .common [] 0) [0] stage], readyOrder := [] } }

theorem witness_DecodeEndMakesReady :
    (building (.ended .check)).decoder.buffers[1]? = some (.building (context 7) (block .common [] 0) [0] (.ended .check)) ∧
    (building (.ended .none)).decoder.buffers[1]? = some (.building (context 7) (block .common [] 0) [0] (.ended .none)) ∧
    (∀ j, j < 1 → ((building (.ended .check)).decoder.buffers[j]?).map StripBuffer.isBuilding = some false) := by
  refine ⟨rfl, rfl, fun j h => ?_⟩
  obtain rfl : j = 0 := by omega
  rfl

/-- A window of one 8 by 8 cell at dot 8 of line 0, its one sample at byte 0. -/
def window8 : Window :=
  { x0 := 8, y0 := 0, width := 1, height := 1, side := 8, form := .companded8, merge := .union, screen := 0, curve := 0,
    offset := 0 }
def applying : State :=
  { building (.applying 0) with
    decoder := { buffers := [.free, .building (context 7) { block .common [0] 0 with windows := 1 } [0, 0] (.applying 0)],
                 readyOrder := [] }
    screening := { State.reset.screening with
      work := some { buffer := 1, strip := 3, w := 1024, screenSet := 1, curveSet := 1, window := window8, xEnd := 16, yEnd := 8,
                     dotsSet := [(8, 0)] }
      screens := some screen15 :: List.replicate 7 none } }

theorem witness_WindowAppliedMergesPhoto :
    applying.screening.work = some { buffer := 1, strip := 3, w := 1024, screenSet := 1, curveSet := 1, window := window8,
                                     xEnd := 16, yEnd := 8, dotsSet := [(8, 0)] } ∧
    applying.decoder.buffers[1]? =
      some (.building (context 7) { block .common [0] 0 with windows := 1 } [0, 0] (.applying 0)) ∧
    applying.screening.screens[0]? = some (some screen15) ∧ 0 < ({ block .common [0] 0 with windows := 1 } : Block).windows := by
  refine ⟨rfl, rfl, rfl, by decide⟩

/-- Buffer 1 READY for bay 7 while the store is busy. -/
def readyBuffer : State :=
  { at_ 7 (plate .filling .absent) with
    decoder := { buffers := [.free, .ready (context 7) [0] false], readyOrder := [1] }
    store := { State.reset.store with service := .refresh } }

theorem witness_StripWriteStartsInReadyOrder : (∀ b ∈ readyBuffer.decoder.buffers, b.isWriting = false) ∧
    readyBuffer.decoder.readyOrder = [1] ∧ readyBuffer.decoder.buffers[1]? = some (.ready (context 7) [0] false) ∧
    (∀ p, readyBuffer.plate? 7 = some p → p.approvalHeld = false) ∧
    ({ readyBuffer with bays := (at_ 7 held).bays } : State).plate? 7 = some held ∧ held.approvalHeld = true ∧
    (∃ b ∈ (writingInto 7 (plate .filling .absent) 0).decoder.buffers, b.isWriting = true) ∧
    State.reset.decoder.readyOrder = [] :=
  ⟨by decide, rfl, rfl, fun p h => every_plate (s := readyBuffer) (P := fun _ p => p.approvalHeld = false) (by decide) 7 p h,
    by decide, rfl, ⟨.writing (context 7) [] 0, by decide, rfl⟩, rfl⟩

theorem witness_StripWriteRecordsItsResult :
    (writingInto 7 (plate .filling .absent) 128).decoder.buffers[1]? = some (.writing (context 7) [] 128) ∧
    (∀ j, j < 1 → ((writingInto 7 (plate .filling .absent) 128).decoder.buffers[j]?).map StripBuffer.isWriting = some false) ∧
    (context 7).w / 8 ≤ 128 ∧ (writingInto 7 (plate .filling .absent) 128).plate? 7 = some (plate .filling .absent) ∧
    (plate .filling .absent).approvalHeld = false ∧ (plate .filling .absent).strips[3]? = some (strip .absent) ∧
    (writingInto 7 (plate .filling .absent) 128).intake.queue = [] := by decide

/-- A held approval: strip 15 not GOOD and GOOD under HOLD, ABSENT under HATCH with the filler busy elsewhere. -/
theorem witness_StripWriteRecordsItsResult_held :
    (heldWriting .absent .hold).decoder.buffers[1]? = some (.writing (context 7) [] 128) ∧
    (heldWriting .absent .hold).plate? 7 = some (heldPlate .absent .hold) ∧ (heldPlate .absent .hold).approvalHeld = true ∧
    (heldPlate .absent .hold).approveEntry = some 0 ∧ (heldPlate .absent .hold).strips[3]? = some (strip .good) ∧
    (heldWriting .absent .hold).link.outstanding.find? (fun x => decide (x.slot = 0)) =
      some { slot := 0, tag := 7, kind := 6 } ∧
    (∀ j b, j ≠ 1 → (heldWriting .absent .hold).decoder.buffers[j]? = some b → b.isWriting = false) ∧
    (∃ q ∈ (heldPlate .absent .hold).strips.set 3 (strip .good), q.state ≠ .good) ∧
    (∀ q ∈ (heldPlate .good .hold).strips.set 3 (strip .good), q.state = .good) ∧
    (∃ q ∈ (heldPlate .absent .hatch).strips.set 3 (strip .good), q.state = .absent) := by
  refine ⟨rfl, by decide, rfl, rfl, by decide, by decide, fun j b hj hb => ?_, ⟨strip .absent, by decide, by decide⟩, by decide,
    ⟨strip .absent, by decide, by decide⟩⟩
  match j, hj, hb with
  | 0, _, h => cases h; rfl
  | n + 2, _, h => cases h

/-- A held approval that leaves FILLING, GOOD under HOLD or under HATCH, with a block of the only plate waiting and no other
buffer in use. -/
theorem witness_StripWriteRecordsItsResult_drops :
    let s := heldWaiting .good .hold
    s.intake.queue = block .variant [0] 0 :: [] ∧ s.plate? 7 = some (heldPlate .good .hold) ∧ (∀ q ∈ (heldPlate .good .hold).strips.set 3 (strip .good), q.state = .good) ∧
    (heldPlate .good .hatch).policy = .hatch ∧ (heldPlate .good .hold).key = (block .variant [0] 0).key ∧
    (∀ m q, s.plate? m = some q → q.key = (heldPlate .good .hold).key → m = 7) ∧
    (∀ j x, j ≠ 1 → s.decoder.buffers[j]? = some x → x = .free) := by
  refine ⟨rfl, by decide, by decide, rfl, rfl, fun m q h _ => every_plate (P := fun m _ => m = 7) (by decide) m q h,
    fun j x hj h => ?_⟩
  match j, hj, h with
  | 0, _, h => cases h; rfl
  | n + 2, _, h => cases h

/-- Strip 14 of 16 leaves strip 15 ABSENT; strip 15 is the last. -/
theorem witness_HatchStripGoesOnOrCompletes :
    (hatched 14 []).plate? 7 = some { hatching with state := .approving, approveEntry := some 0 } ∧ 15 < hatching.strips.length ∧
    (hatching.strips[15]?).map StripRecord.state = some .absent ∧
    (∀ j, 14 < j → j < 15 → (hatching.strips[j]?).map StripRecord.state ≠ some .absent) ∧
    (∀ i, 15 < i → (hatching.strips[i]?).map StripRecord.state ≠ some .absent) ∧
    (hatched 15 []).filler.list = [] ∧
    (hatched 15 []).link.outstanding.find? (fun x => decide (x.slot = 0)) = some { slot := 0, tag := 7, kind := 6 } := by
  refine ⟨by decide, by decide, by decide, fun j h1 h2 => by omega, fun i h => ?_, rfl, by decide⟩
  rw [List.getElem?_eq_none (by simp [hatching]; omega)]; simp

/-- Bay 2, its strip 0 ABSENT, waits in the fill list when bay 7's fill completes; the line is in MANUAL mode (for AUTO mode see
witness_EndsAuto). -/
theorem witness_HatchStripGoesOnOrCompletes_list :
    let s := { hatched 15 [2] with bays := (hatched 15 [2]).bays.set 2 (some (plate .approving .absent)) }
    s.filler.list = 2 :: [] ∧ (2 : Nat) ≠ 7 ∧ s.plate? 2 = some (plate .approving .absent) ∧
    ((plate .approving .absent).strips[0]?).map StripRecord.state = some .absent ∧ ¬ AutoReady s ∧ AutoTaken s s := by
  have h : ¬ AutoReady { hatched 15 [2] with bays := (hatched 15 [2]).bays.set 2 (some (plate .approving .absent)) } := by
    unfold AutoReady; decide
  exact ⟨rfl, by decide, by decide, by decide, h, Or.inl ⟨Or.inl h, rfl⟩⟩

theorem witness_PassReadsTheDotWritten : (64 ≤ (context 7).w ∧ (context 7).w % 64 = 0 ∧ (context 7).w ≤ 32768 ∧
    (63 : Nat) < 64 ∧ 1023 < (context 7).w) ∧
    ({ at_ 7 (plate .exposing .good) with exposure := { State.reset.exposure with current := some (7, keyA) } } : State).plate? 7 =
      some (plate .exposing .good) ∧ (plate .exposing .good).w = (context 7).w := by decide

/-- A LOAD SCREEN of slot 7, T = 64, at the bounds of R80 and R81, and the same with one component at T·65,536. -/
def screenBody (ax : List Byte) : List Byte := [7, 64] ++ ax ++ List.replicate 12 0 ++ List.replicate 8192 0

theorem screenBody_length (ax : List Byte) (h : ax.length = 4) : (screenBody ax).length = 18 + 2 * (64 * 64) := by
  simp only [screenBody, List.length_append, List.length_cons, List.length_replicate, List.length_nil, h]

/-- The hypotheses of PhotoArithmeticStaysInRange met by the largest companded byte, by the last sample of a body in either form,
by the last interval of a curve, and by the smallest screen. -/
theorem witness_PhotoArithmeticStaysInRange : (255 : Nat) ≤ 255 ∧ 32 * 7 + 31 = 255 ∧
    ([0, 1] : List Byte)[0 + 1]? = some 1 ∧
    (([0, 1, 2] : List Byte)[1 + 2 * 0]? = some 1 ∧ ([0, 1, 2] : List Byte)[1 + 2 * 0 + 1]? = some 2) ∧
    (List.replicate 65 5)[63]? = some 5 ∧ (List.replicate 65 5)[63 + 1]? = some 5 ∧
    1 ≤ (Screen.mk 1 0 0 0 0 [0]).side ∧
    (Screen.mk 1 0 0 0 0 [9]).tile[((Screen.mk 1 0 0 0 0 [9]).address 3 4).2 * 1 + ((Screen.mk 1 0 0 0 0 [9]).address 3 4).1]? =
      some 9 := by decide

theorem witness_LoadsReplaceUnprotectedSlots : Ready 0 State.reset ∧
    (byteAt (screenBody [0, 0x3F, 0xFF, 0xFF]) 0 = 7 ∧ byteAt (screenBody [0, 0x3F, 0xFF, 0xFF]) 1 = 64) ∧
    (s32At (screenBody [0, 0x3F, 0xFF, 0xFF]) 2).natAbs < 64 * 65536 ∧
    ¬ (s32At (screenBody [0, 0x40, 0, 0]) 2).natAbs < 64 * 65536 ∧
    (∃ n p, (at_ 7 (plate .filling .absent)).plate? n = some p ∧ p.state = .filling ∧ p.screenSet.getLsbD 0 = true) ∧
    (¬ ∃ n p, State.reset.plate? n = some p ∧ p.state = .filling ∧ p.screenSet.getLsbD 7 = true) ∧
    (3 :: List.replicate 130 0 : List Byte).length = 131 ∧ byteAt (3 :: List.replicate 130 0) 0 ≤ 3 :=
  ⟨ready_reset, ⟨rfl, rfl⟩, by decide, by decide, ⟨7, plate .filling .absent, by decide⟩,
    fun ⟨n, p, h, _⟩ => absurd h (no_plate n p), by simp, by decide⟩

theorem witness_DeclaredSlotsKeepTheirContents :
    step { at_ 7 (plate .filling .absent) with pending := [.refreshComplete] } =
      .next (at_ 7 (plate .filling .absent)).transmit ∧
    (at_ 7 (plate .filling .absent)).plate? 7 = some (plate .filling .absent) ∧
    (at_ 7 (plate .filling .absent)).transmit.plate? 7 = some (plate .filling .absent) ∧
    (plate .filling .absent).screenSet.getLsbD 0 = true ∧ OneFrame { at_ 7 (plate .filling .absent) with pending := [.refreshComplete] } ∧
    OneFrame { receiving [1] with pending := [.startCharacter 2] } := by
  refine ⟨rfl, by decide, by decide, by decide, Or.inl rfl, Or.inr fun c h => ?_⟩
  obtain rfl : c = .startCharacter 2 := by simpa [eq_comm] using h
  rfl

/-! ### Witnesses: store and exposure -/

/-- The store at this service, with this many refreshes owed. -/
def serving (service : Service) (owed : Nat) : State :=
  { State.reset with store := { State.reset.store with service, owed, timer := decide (owed < 8) } }

/-- A write at the last burst of the band store, a live read of pass 0, and a burst one word past the end; a write and a read
of requesters that have stopped. -/
theorem witness_BurstCompletesIntoStore :
    (serving (.burst .decoder { addr := 8, write := some (List.replicate 8 1) } false) 3).store.service =
      .burst .decoder { addr := 8, write := some (List.replicate 8 1) } false ∧
    (serving (.burst .prefetch { addr := 67108856, write := none } false) 3).store.service =
      .burst .prefetch { addr := 67108856, write := none } false ∧
    (serving (.burst .filler { addr := 67108856, write := some (List.replicate 8 1) } true) 0).store.service =
      .burst .filler { addr := 67108856, write := some (List.replicate 8 1) } true ∧ 67108856 + 8 ≤ 67108864 ∧
    67108864 < 67108857 + 8 ∧
    ({ serving (.burst .prefetch { addr := 0, write := none } true) 0 with exposure := { State.reset.exposure with
        prefetchPass := some 0, buffers := [.fetching 0 [], .empty] } } : State).exposure.buffers[0 % 2]? =
      some (.fetching 0 []) := by decide

/-- A live read of expected line 0 of a scan; a live burst of a strip write; a live burst of a fill. -/
theorem witness_BurstCompletesIntoStore_requesters :
    (scanning (scan 0 [] (.fetching 0 []))).inspection.work = .scanning (scan 0 [] (.fetching 0 [])) ∧
    (scanning (scan 0 [] (.fetching 0 []))).plate? 7 = some (plate .inspecting .good) ∧
    (writingInto 7 (plate .filling .absent) 0).decoder.buffers[1]? = some (.writing (context 7) [] 0) ∧
    (∀ j, j < 1 → ((writingInto 7 (plate .filling .absent) 0).decoder.buffers[j]?).map StripBuffer.isWriting = some false) ∧
    (hatched 14 []).filler.fill.isSome = true := by decide

/-- Timer running with 7 owed and the store busy; running with none owed and the store IDLE; stopped at 8; a refresh in
service with 8 owed and with 1. -/
theorem witness_RefreshesAreCounted :
    ((serving .refresh 7).store.timer = true ∧ (serving .refresh 7).store.owed < 8 ∧ Serving (serving .refresh 7)) ∧
    ((serving .idle 0).store.timer = true ∧ (serving .idle 0).store.writer = []) ∧ (serving .refresh 8).store.timer = false ∧
    ((serving .refresh 8).store.owed ≤ 8 ∧ 1 ≤ (serving .refresh 1).store.owed ∧
      (serving .refresh 1).store.prefetch = none) ∧ (serving .idle 1).store.service ≠ .refresh := by unfold Serving; decide

/-- With 7 owed the exposure prefetch goes first, with 8 refresh does (R106). -/
theorem witness_ArbiterKeepsItsOrder :
    (({ (serving .idle 7).store with prefetch := some { addr := 0, write := none } } : Store).grant).service =
      .burst .prefetch { addr := 0, write := none } true ∧
    (({ (serving .idle 8).store with prefetch := some { addr := 0, write := none } } : Store).grant).service = .refresh := by
  decide

def highLine : InputLine := InputLine.reset true
/-- Every input debounced high, and this exposure. -/
def onDrum (p : Plate) (e : Exposure) : State :=
  { at_ 7 p with
    lines := { State.reset.lines with inputs := List.replicate 8 highLine }
    exposure := e, approvalQueue := [7] }
def freshPlate : Exposure := { State.reset.exposure with spent := false }

theorem witness_StartExposureJudged : Ready 0 (onDrum (plate .queued .good) freshPlate) ∧
    ((onDrum (plate .queued .good) freshPlate).asserted 0 = true ∧ (onDrum (plate .queued .good) freshPlate).asserted 2 = true ∧
      (onDrum (plate .queued .good) freshPlate).asserted 1 = true) ∧
    (onDrum (plate .queued .good) freshPlate).exposure.spent = false ∧
    (onDrum (plate .queued .good) freshPlate).exposure.state = .idle ∧
    (onDrum (plate .queued .good) freshPlate).inspectionQueue.length < 4 ∧
    (onDrum (plate .queued .good) freshPlate).plate? 7 = some (plate .queued .good) ∧ 32 ≤ (plate .queued .good).h ∧
    (onDrum (plate .queued .good) State.reset.exposure).exposure.spent = true ∧ State.reset.approvalQueue = [] := by
  unfold Ready; decide

/-- A rise of L1 in AUTO mode that finds the start conditions true. -/
def risenL1 : State := edgeDue 1 true (autoStart other [] State.reset)
theorem witness_StartExposureJudged_auto :
    let l : InputLine := { InputLine.reset true with debounced := false, count := 4, edgeDue := true }
    risenL1.lines.inputs[1]? = some l ∧ risenL1.approvalQueue = [2] ∧ risenL1.plate? 2 = some other ∧ 32 ≤ other.h ∧
    AutoReady { risenL1 with lines :=
      { risenL1.lines with inputs := risenL1.lines.inputs.set 1 { l with debounced := true } } } := by
  unfold AutoReady; decide

/-- An exposure of bay 7 in this state, pass 0 of 32, with these buffers. -/
def exposing (st : ExposureState) (passOpen : Bool) (x : Nat) (buffers : List PassBuffer) : Exposure :=
  { freshPlate with
    state := st, current := some (7, keyA), passCount := 32, passLength := 1024, position := x, passOpen, buffers
    prefetchPass := if st = .loading then some 0 else none, nextFetch := 1 }

theorem writing7 (passOpen : Bool) (x : Nat) (buffers : List PassBuffer) :
    WritingBay (onDrum (plate .exposing .good) (exposing .writing passOpen x buffers)) 7 (plate .exposing .good) :=
  ⟨rfl, rfl, rfl, by decide⟩

/-- Version 5 of the page FILLING in bay 0 while version 4 is LOADING from bay 7. -/
def overtaken : State :=
  let s := onDrum (plate .exposing .good) (exposing .loading false 0 [])
  { s with bays := s.bays.set 0 (some { plate .filling .good with key := { keyA with version := 5 } }) }

theorem early7 (s : State) (h : s.plate? 7 = some (plate .exposing .good)) (hs : s.exposure.state = .loading)
    (hc : s.exposure.current = some (7, keyA)) : EarlyBay s 7 (plate .exposing .good) :=
  ⟨Or.inl hs, hc, h, by decide, fun _ => rfl⟩

theorem witness_AbortExposureJudged : (naming 7).length = 6 ∧ (7 < 8 ∧ KeyOk (keyAt (naming 7) 1)) ∧
    WritingBay (onDrum (plate .exposing .good) (exposing .writing true 0 [])) 7 (plate .exposing .good) ∧
    (plate .exposing .good).key = keyAt (naming 7) 1 ∧
    EarlyBay (onDrum (plate .exposing .good) (exposing .loading false 0 [])) 7 (plate .exposing .good) ∧
    ¬ Superseded keyA (onDrum (plate .exposing .good) (exposing .loading false 0 [])) ∧
    EarlyBay overtaken 7 (plate .exposing .good) ∧ Superseded keyA overtaken ∧ ¬ KeyOk { keyA with page := 0 } := by
  refine ⟨rfl, by unfold KeyOk; decide, writing7 _ _ _, by decide, early7 _ (by decide) rfl rfl, fun ⟨m, q, h, hs⟩ => ?_,
    early7 _ (by decide) rfl rfl,
    ⟨0, { plate .filling .good with key := { keyA with version := 5 } }, by unfold SamePage; decide⟩, by unfold KeyOk; decide⟩
  exact every_plate (P := fun _ q => ¬ (SamePage q.key keyA ∧ keyA.version < q.key.version))
    (by unfold SamePage; decide) m q h hs

theorem witness_SetSkewReplacesSkews : Ready 0 State.reset ∧ (List.replicate 64 (0xFF : Byte)).length = 64 ∧
    State.reset.exposure.state = .idle ∧ (exposing .loading false 0 []).state ≠ .idle := by unfold Ready; decide

/-- Pass 0 of bay 7 with all its 512 words, and with the last burst of 8 still to come. -/
theorem witness_PassFetchCompletesToWaiting :
    (exposing .loading false 0 [.fetching 0 (List.replicate 512 0), .empty]).prefetchPass = some 0 ∧
    (exposing .loading false 0 [.fetching 0 (List.replicate 512 0), .empty]).passCount = 32 ∧
    (plate .exposing .good).w / 2 ≤ (List.replicate 512 (0 : StoreWord)).length ∧
    (List.replicate 504 (0 : StoreWord)).length < (plate .exposing .good).w / 2 := by
  refine ⟨rfl, rfl, ?_, ?_⟩ <;> rw [List.length_replicate] <;> decide

/-- The fetch of pass 1 ends in WRITING with buffer 0 EMPTY, and with pass 0 still open; that of pass 31, the last. -/
theorem witness_PassFetchCompletesToWaiting_later :
    let e := fun (q : Nat) (other : PassBuffer) =>
      ({ exposing .writing false 1024 [other, .fetching q (List.replicate 512 0)] with
          prefetchPass := some q, nextFetch := q + 1 } : Exposure)
    ((e 1 .empty).state ≠ .loading ∧ (e 1 .empty).buffers[(1 + 1) % 2]? = some .empty ∧ 1 + 1 < (e 1 .empty).passCount) ∧
    (e 1 .empty).buffers[1 % 2]? = some (.fetching 1 (List.replicate 512 0)) ∧
    ((e 1 (.emitting 0 [])).buffers[(1 + 1) % 2]? = some (.emitting 0 []) ∧ PassBuffer.emitting 0 [] ≠ .empty) ∧
    (e 31 .empty).passCount ≤ 31 + 1 := by
  refine ⟨⟨by decide, rfl, by decide⟩, rfl, ⟨rfl, by decide⟩, by decide⟩

theorem witness_DrumIndexBeginsOrAborts :
    (exposing .waiting false 0 [.full 0 [], .empty]).buffers[0]? = some (.full 0 []) ∧
    (exposing .writing false 1024 [.empty, .full 1 []]).buffers[(0 + 1) % 2]? = some (.full (0 + 1) []) ∧
    (exposing .writing true 1023 [.emitting 0 [], .empty]).position < 1024 ∧
    (∀ words, (exposing .writing false 1024 [.empty, .fetching 1 []]).buffers[(0 + 1) % 2]? ≠ some (.full (0 + 1) words)) ∧
    State.reset.exposure.state = .idle ∧
    ((exposing .writing true 1024 [.emitting 0 [], .full 1 []]).passLength ≤ 1024 ∧
      (exposing .writing true 1024 [.emitting 0 [], .full 1 []]).passCounter + 1 ≠ 32 ∧
      (exposing .writing true 1024 [.emitting 0 [], .full 1 []]).current ≠ none) := by
  refine ⟨rfl, rfl, by decide, fun w h => ?_, rfl, by decide⟩
  cases h

theorem witness_DotClockEmitsPosition :
    (exposing .writing true 1023 [.emitting 0 [1], .empty]).passOpen = true ∧
    (exposing .writing true 1023 [.emitting 0 [1], .empty]).position < 1024 ∧
    (exposing .writing true 1023 [.emitting 0 [1], .empty]).buffers[0 % 2]? = some (.emitting 0 [1]) ∧
    (exposing .waiting false 0 []).state ≠ .writing ∧
    (exposing .writing true 1024 [.emitting 0 [1], .empty]).passLength ≤ 1024 := by decide

/-- The pass at its length L = 1,024, of 32 passes and of one; with the fetch of pass 2 next, and with all fetched. -/
theorem witness_PassCloseEndsPassOrExposure :
    (exposing .writing true 1024 [.emitting 0 [], .full 1 []]).passLength ≤ 1024 ∧
    (exposing .writing true 1024 [.emitting 0 [], .full 1 []]).passCounter + 1 ≠ 32 ∧
    ({ exposing .writing true 1024 [.emitting 0 [], .full 1 []] with nextFetch := 32 } : Exposure).passCount ≤ 32 ∧
    (({ exposing .writing true 1024 [.emitting 0 [], .full 1 []] with nextFetch := 2 } : Exposure).passCounter + 2 = 2 ∧
      (exposing .writing true 1024 [.emitting 0 [], .full 1 []]).prefetchPass = none) ∧
    ({ exposing .writing true 1024 [.emitting 0 [], .empty] with passCount := 1 } : Exposure).passCounter + 1 = 1 := by decide

/-! ### Witnesses: inspection and lines -/

theorem witness_CalibrationRunsAPhase : (Ready 0 State.reset ∧ 1 < (2 : Byte).toNat ∧ (1 : Byte).toNat ≤ 1 ∧
    State.reset.inspection.work = .idle ∧ State.reset.inspectionQueue = []) ∧
    (calibrating 16 .white [16]).inspection.work =
      .calibrating { phase := .white, lines := 16, sums := [16], entry := some 0 } ∧
    (calibrating 16 .white [16]).link.outstanding.find? (fun x => decide (x.slot = 0)) =
      some { slot := 0, tag := 7, kind := 0x12 } ∧ 16 ≤ 16 := by
  refine ⟨by unfold Ready; decide, rfl, rfl, by decide⟩

/-- 3 and 4 lines waiting of the 128 of a plate of 1,024 lines at R = 8; the last line, one past it, and an early L4. -/
theorem witness_ScanLinesAreTaken : State.reset.inspection.work = .idle ∧
    (calibrating 15 .dark [0]).inspection.work = .calibrating { phase := .dark, lines := 15, sums := [0], entry := some 0 } ∧
    (scanning (scan 3 [[], [], []] .empty)).plate? 7 = some (plate .inspecting .good) ∧
    (plate .inspecting .good).h / (scanning (scan 3 [] .empty)).settings.resolution.side = 128 ∧
    (scan 126 [[], [], [], []] .empty).fifo.length = 4 ∧ (scan 126 [[], [], [], []] .empty).received + 1 < 128 ∧
    (∀ y cov, (scan 3 [[], [], []] .empty).expected ≠ .full y cov) ∧
    ((scan 127 [[], [], [], []] .empty).received + 1 = 128 ∧ (scan 127 [] (.full 0 [])).next = 0 ∧
      128 ≤ (scan 128 [] .empty).received) ∧
    (edgeDue 4 true (scanning (scan 127 [] .empty))).lines.inputs[4]? =
      some { InputLine.reset true with debounced := false, count := 4, edgeDue := true } := by
  refine ⟨rfl, rfl, by decide, by decide, rfl, by decide, (fun y cov h => by cases h), by decide, by decide⟩

/-- A lagged scan, with two lines to come and with one, which takes its lines or is ended by L4. -/
theorem witness_ScanLinesAreTaken_lagged (received : Nat) (h : received = 126 ∨ received = 127) :
    let sc := { scan received [] .empty with lagged := true }
    (edgeDue 4 true (scanning sc)).inspection.work = .scanning sc ∧ sc.lagged = true ∧ sc.received < 128 ∧
    (edgeDue 4 true (scanning sc)).plate? 7 = some (plate .inspecting .good) ∧
    (edgeDue 4 true (scanning sc)).lines.inputs[4]? =
      some { InputLine.reset true with debounced := false, count := 4, edgeDue := true } := by
  rcases h with rfl | rfl <;> exact ⟨rfl, rfl, by decide, by decide, by decide⟩

theorem witness_ExpectedLineCountsSquares :
    (scanning (scan 0 [] (.fetching 0 (List.replicate 128 1)))).inspection.work =
      .scanning (scan 0 [] (.fetching 0 (List.replicate 128 1))) ∧
    (scanning (scan 0 [] .empty)).settings.resolution.side * ((plate .inspecting .good).w / 64) ≤
      (List.replicate 128 (1 : StoreWord)).length ∧
    ((scan 1 [[]] .empty).fifo = [] :: [] ∧ (scan 1 [[]] .empty).next = 0) ∧ 0 < ([64] : List Nat).length ∧
    0 < ([some 13] : List (Option Int)).length := by
  refine ⟨rfl, ?_, by decide, by decide, by decide⟩
  rw [List.length_replicate]; decide

/-- A bay, an ABORTED entry, and nothing at the head of the inspection queue. -/
theorem witness_ScanStartBindsQueueHead :
    (edgeDue 3 true (at_ 7 (plate .exposed .good))).lines.inputs[3]? =
      some { InputLine.reset true with debounced := false, count := 4, edgeDue := true } ∧
    (at_ 7 (plate .exposed .good)).inspection.work = .idle ∧ ¬ AutoReady (at_ 7 (plate .exposed .good)) ∧
    ({ at_ 7 (plate .exposed .good) with inspectionQueue := [.bay 7] } : State).inspectionQueue = .bay 7 :: [] ∧
    (at_ 7 (plate .exposed .good)).plate? 7 = some (plate .exposed .good) ∧
    ({ State.reset with inspectionQueue := [.aborted keyA] } : State).inspectionQueue = .aborted keyA :: [] ∧
    State.reset.inspectionQueue = [] := by unfold AutoReady; decide

/-- A scan of bay 7 in progress, and a calibration with 15 lines, when L3 rises. -/
theorem witness_ScanStartBindsQueueHead_busy :
    (edgeDue 3 true (scanning (scan 5 [] .empty))).lines.inputs[3]? =
      some { InputLine.reset true with debounced := false, count := 4, edgeDue := true } ∧
    (edgeDue 3 true (scanning (scan 5 [] .empty))).inspection.work = .scanning (scan 5 [] .empty) ∧
    (edgeDue 3 true (scanning (scan 5 [] .empty))).plate? 7 = some (plate .inspecting .good) ∧
    (edgeDue 3 true (calibrating 15 .dark [])).inspection.work =
      .calibrating { phase := .dark, lines := 15, sums := [], entry := some 0 } ∧
    (edgeDue 3 true (calibrating 15 .dark [])).link.outstanding.find? (fun x => decide (x.slot = 0)) =
      some { slot := 0, tag := 7, kind := 0x12 } ∧ ¬ AutoReady (edgeDue 3 true (calibrating 15 .dark [])) := by
  refine ⟨by decide, rfl, by decide, rfl, by decide, by unfold AutoReady; decide⟩

/-- Bay 7 EXPOSED, or an ABORTED entry, at the head of the inspection queue and bay 2 QUEUED, in AUTO mode. -/
theorem witness_ScanStartBindsQueueHead_auto :
    AutoReady { autoStart other [] (at_ 7 (plate .exposed .good)) with inspectionQueue := [] } ∧
    (autoStart other [] (at_ 7 (plate .exposed .good))).plate? 7 = some (plate .exposed .good) ∧
    (autoStart other [] (at_ 7 (plate .exposed .good))).approvalQueue = 2 :: [] ∧
    ({ autoStart other [] State.reset with inspectionQueue := [.aborted keyA] } : State).inspectionQueue = .aborted keyA :: [] ∧
    (autoStart other [] (at_ 7 (plate .exposed .good))).plate? 2 = some other ∧ 32 ≤ other.h ∧
    (autoStart other [] (at_ 7 (plate .exposed .good))).inspection.work = .idle := by unfold AutoReady; decide

/-- Two open defects after line 101 of section 8.11; on line 102 a run that joins none beside the run that joins both, and one
that joins the second alone. -/
theorem witness_MatchingConservesDefectPool : scratch101.opens.length ≤ 32 ∧ TrackerFits 102 scratch101 ∧
    1 ≤ InspectionSettings.reset.q ∧ KeptRaw 2 [none, some 15, some 16, none] 1 2 ∧
    (scratch101.opens.filter (shares { first := 42, last := 48, devs := [1] })).map OpenDefect.number = [1, 2] ∧
    loose scratch101.opens { first := 51, last := 51, devs := [1] } = true ∧
    (∀ o ∈ scratch101.opens, ∀ o' ∈ scratch101.opens, shares { first := 45, last := 46, devs := [1] } o = true →
      shares { first := 45, last := 46, devs := [1] } o' = true → o = o') := by
  refine ⟨by decide, by unfold TrackerFits; decide, by decide, ⟨by decide, by decide, fun e h1 h2 => ?_, by decide, by decide,
    by decide⟩, by decide, by decide, by decide⟩
  have h : e = 1 ∨ e = 2 := by omega
  rcases h with rfl | rfl <;> decide

theorem witness_SetInspectionReplacesSettings : Ready 0 State.reset ∧
    ([0, 0, 0, 5, 0, 4, 0, 3, 0, 1, 0, 0] : List Byte).length = 12 ∧ u16At [0, 0, 0, 5, 0, 4, 0, 3, 0, 1, 0, 0] 10 = 0 ∧
    u16At [0, 0, 0, 5, 0, 4, 0, 3, 0, 1, 0, 1] 8 ≠ 0 ∧ u16At [0, 0, 0, 5, 0, 4, 0, 3, 0, 1, 0, 1] 10 ≠ 0 := by
  unfold Ready; decide

/-- Line 7 one tick from its setting of 4, at the other level; and an edge of line 5 due. -/
theorem witness_InputsDebounceAndFlag :
    (∀ l ∈ State.reset.lines.inputs, l.edgeDue = false) ∧
    (0 < (InputLine.reset false).debounce ∧
      ({ InputLine.reset false with raw := true, count := 3 } : InputLine).raw ≠ (InputLine.reset false).debounced ∧
      ({ InputLine.reset false with raw := true, count := 14 } : InputLine).count < 15) ∧
    State.reset.lines.inputs[(7 : Fin 8).val]? = some (InputLine.reset false) ∧ 5 ≤ (5 : Fin 8).val ∧
    (edgeDue 5 true State.reset).lines.inputs[(5 : Fin 8).val]? =
      some { InputLine.reset true with debounced := false, count := 4, edgeDue := true } := by decide

/-- The edges of InputsDebounceAndFlag that no block acts on, and those one does: L0 and L2 rising, L3 and L4 falling, L4 rising in
IDLE, and a fall of L1. -/
theorem witness_InputsDebounceAndFlag_edges :
    ∀ x ∈ ([(0, true), (2, true), (3, false), (4, false), (4, true), (1, false)] : List (Fin 8 × Bool)),
      (edgeDue x.1.val x.2 State.reset).lines.inputs[x.1.val]? =
        some { InputLine.reset x.2 with debounced := !x.2, count := 4, edgeDue := true } ∧
      (edgeDue x.1.val x.2 State.reset).inspection.work = .idle := by decide

/-- A rise of L4 with all 128 lines received. -/
theorem witness_InputsDebounceAndFlag_received :
    (edgeDue 4 true (scanning (scan 128 [] .empty))).inspection.work = .scanning (scan 128 [] .empty) ∧
    (edgeDue 4 true (scanning (scan 128 [] .empty))).plate? 7 = some (plate .inspecting .good) ∧
    (plate .inspecting .good).h / (scanning (scan 128 [] .empty)).settings.resolution.side = 128 := by
  refine ⟨rfl, by decide, by decide⟩

/-- The edges of lines 5 and 6 due, line 5 the lowest, and that of line 5 alone; the transmitter has a notice to send; line 5 keeps
its debounce. -/
theorem witness_InputsDebounceAndFlag_due :
    (∀ x ∈ (edgeDue 6 true (edgeDue 5 true State.reset)).lines.inputs.zipIdx, x.1.edgeDue = true → 5 ≤ x.2) ∧
    (∀ x ∈ (edgeDue 5 true State.reset).lines.inputs.zipIdx, x.1.edgeDue = true → x.2 = 5) ∧
    (edgeDue 5 true State.reset).transmit.link.tx ≠ .idle ∧
    ∃ v, exec (.inputEdge 5) (edgeDue 5 true State.reset) = .next v ∧ 0 < (v.input 5).debounce := by
  refine ⟨by decide, by decide, by decide, _, rfl, by decide⟩

/-- Line 4 of debounce 0, its pin changing to its own level and to the other. -/
theorem witness_InputsDebounceAndFlag_atOnce :
    let l := { InputLine.reset false with debounce := 0 }
    ({ State.reset with lines := { State.reset.lines with inputs := State.reset.lines.inputs.set 4 l } } :
      State).lines.inputs[(4 : Fin 8).val]? = some l ∧ l.edgeDue = false ∧ false = l.debounced ∧ true ≠ l.debounced := by decide

/-- A fall of L2 in WRITING, of L0 in LOADING with the bay superseded and not, and of L1 in IDLE. -/
theorem witness_InterlockFallAbortsWriting :
    (edgeDue 2 false (onDrum (plate .exposing .good) (exposing .writing true 0 []))).lines.inputs[(2 : Fin 8).val]? =
      some { InputLine.reset false with debounced := true, count := 4, edgeDue := true } ∧
    WritingBay (edgeDue 2 false (onDrum (plate .exposing .good) (exposing .writing true 0 []))) 7 (plate .exposing .good) ∧
    EarlyBay (edgeDue 0 false overtaken) 7 (plate .exposing .good) ∧ Superseded keyA (edgeDue 0 false overtaken) ∧
    EarlyBay (edgeDue 0 false (onDrum (plate .exposing .good) (exposing .loading false 0 []))) 7 (plate .exposing .good) ∧
    (edgeDue 1 false State.reset).lines.inputs[(1 : Fin 8).val]? =
      some { InputLine.reset false with debounced := true, count := 4, edgeDue := true } ∧
    (edgeDue 1 false State.reset).exposure.state = .idle ∧ (edgeDue 1 false State.reset).exposure.spent = true :=
  ⟨by decide, ⟨rfl, rfl, rfl, by decide⟩, early7 _ (by decide) rfl rfl,
    ⟨0, { plate .filling .good with key := { keyA with version := 5 } }, by unfold SamePage; decide⟩,
    early7 _ (by decide) rfl rfl, by decide, rfl, rfl⟩

/-- SET LINES of the settings after reset: debounce 4, BOTH, no hold, not masked; O1 to O3 AUTO. -/
def linesBody : List Byte := (List.replicate 8 [4, 2, 0, 0]).flatten ++ [2, 2, 2]

/-- Line 0 differs and has counted 3 ticks. -/
def counting : State := { State.reset with lines := { State.reset.lines with
  inputs := State.reset.lines.inputs.set 0 { InputLine.reset true with debounced := false, count := 3 } } }

theorem witness_LineSettingsEventsAndOutputs : Ready 0 State.reset ∧ linesBody.length = 35 ∧
    (∀ n, n < 8 → byteAt linesBody (4 * n + 1) ≤ 2 ∧ byteAt linesBody (4 * n + 2) ≤ 1 ∧ byteAt linesBody (4 * n + 3) ≤ 1) ∧
    (byteAt linesBody 32 ≤ 2 ∧ byteAt linesBody 33 ≤ 2 ∧ byteAt linesBody 34 ≤ 2) ∧
    counting.lines.inputs.length = 8 ∧ (∀ l ∈ counting.lines.inputs, l.edgeDue = false) ∧
    (∀ x ∈ counting.lines.inputs.zipIdx, letsThrough linesBody x.2 x.1 = false) ∧
    State.reset.lines.inputs[7]? = some (InputLine.reset false) ∧ State.reset.lines.o3 = .auto := by unfold Ready; decide

/-- SET LINES of debounce 0 for every line: with line 5 apart, and with line 3 apart, whose edge goes on. -/
theorem witness_LineSettingsEventsAndOutputs_edges :
    let body : List Byte := (List.replicate 8 [0, 2, 0, 0]).flatten ++ [2, 2, 2]
    let apart := fun (m : Nat) => State.reset.lines.inputs.set m { InputLine.reset true with debounced := false }
    (∀ x ∈ (apart 5).zipIdx, letsThrough body x.2 x.1 = true → 5 ≤ x.2) ∧ letsThrough body 5 ((apart 5).getD 5 (.reset false)) = true ∧
    (∀ x ∈ (apart 3).zipIdx, letsThrough body x.2 x.1 = true ↔ x.2 = (3 : Fin 8).val) ∧
    ∃ v, exec (.inputEdge 3) (edgeDue 3 true (calibrating 15 .dark [])) = .next v := by
  refine ⟨by decide, by decide, by decide, _, rfl⟩

/-! ### Witnesses: the whole machine -/

/-- A step from a state with an emitter lit: a dot clock at x = 0 over a plate whose first dot is black. -/
def litState : State :=
  { onDrum (plate .exposing .good) { exposing .writing true 1 [.emitting 0 [1], .empty] with emitters := 1 } with
    pending := [.dotClockPulse] }

theorem witness_LightStaysInterlocked : litState.LightInterlocked ∧ ∃ t, step litState = .next t :=
  ⟨by unfold State.LightInterlocked; decide, _, rfl⟩

def storeStep : State :=
  { serving (.burst .filler { addr := 0, write := some (List.replicate 8 1) } false) 8 with pending := [.burstComplete true] }

theorem witness_StoreStaysTendedAndSound : storeStep.store.Tended ∧ storeStep.store.Sound ∧ ∃ t, step storeStep = .next t := by
  refine ⟨by unfold Store.Tended; decide, ⟨rfl, by simp [storeStep, serving, State.reset, Store.reset],
    by simp [storeStep, serving, State.reset, Store.reset], by simp [storeStep, serving, State.reset, Store.reset], ?_⟩, _, rfl⟩
  rintro a b live h ws hw
  cases h; cases hw; decide

/-- One bay holding defect records, and the pool. -/
theorem pool_of_one (p : Plate) (h : p.defects.length ≤ 512) : (at_ 7 p).PoolFits := by
  simpa [State.PoolFits, at_, State.reset, Config.poolRecords] using h

/-- Bay 2 QUEUED, and bay 7 EXPOSING in LOADING. -/
def lawful : State :=
  { onDrum (plate .exposing .good) (exposing .loading false 0 [.fetching 0 [], .empty]) with
    bays := (at_ 7 (plate .exposing .good)).bays.set 2 (some other), approvalQueue := [2], pending := [.drumIndex] }

theorem lawful_bays {n : Nat} {p : Plate} :
    lawful.plate? n = some p ↔ n = 2 ∧ p = other ∨ n = 7 ∧ p = plate .exposing .good := by
  refine ⟨fun h => every_plate
    (P := fun n p => n = 2 ∧ p = other ∨ n = 7 ∧ p = plate .exposing .good) (by decide) n p h, ?_⟩
  rintro (⟨rfl, rfl⟩ | ⟨rfl, rfl⟩) <;> rfl

theorem lawful_holds {n : Nat} {key : PlateKey} {st : PlateState} :
    lawful.BayHolds n key st ↔ (n = 2 ∧ key = other.key ∧ st = .queued) ∨ (n = 7 ∧ key = keyA ∧ st = .exposing) := by
  unfold State.BayHolds
  constructor
  · rintro ⟨p, hp, rfl, rfl⟩
    rcases lawful_bays.1 hp with ⟨rfl, rfl⟩ | ⟨rfl, rfl⟩
    · exact .inl ⟨rfl, rfl, rfl⟩
    · exact .inr ⟨rfl, rfl, rfl⟩
  · rintro (⟨rfl, rfl, rfl⟩ | ⟨rfl, rfl, rfl⟩)
    · exact ⟨other, rfl, rfl, rfl⟩
    · exact ⟨plate .exposing .good, rfl, rfl, rfl⟩

/-- The laws of the plates hold of that state, and it has a next one. -/
theorem witness_TablesKeepTheirSizes_plates : lawful.PlatesAgree ∧ ∃ t, step lawful = .next t := by
  refine ⟨⟨fun m n p q hp hq => ?_, ⟨by decide, fun n => ?_⟩, ⟨by decide, fun n key => ?_⟩,
    fun n => ⟨?_, by simp [lawful, onDrum, at_, State.reset]⟩, fun n key => ?_,
    ⟨List.nodup_nil, fun n => ?_, fun f h => (by cases h), fun n p h => (by cases h), fun _ => rfl⟩, fun b hb ctx h => ?_,
    fun n p hp => ?_⟩, _, rfl⟩
  · rcases lawful_bays.1 hp with ⟨rfl, rfl⟩ | ⟨rfl, rfl⟩ <;> rcases lawful_bays.1 hq with ⟨rfl, rfl⟩ | ⟨rfl, rfl⟩ <;>
      simp [other, plate, keyA]
  · simp [State.BayIs, lawful_holds]; simp [lawful]
  · rw [lawful_holds]; simp [lawful, onDrum, exposing, eq_comm]
  · simp [State.BayIs, lawful_holds]; simp [lawful, onDrum, at_, State.reset]
  · rw [lawful_holds]; simp [lawful, onDrum, at_, State.reset, Inspection.reset]
  · simp [State.BayIs, lawful_holds]; simp [lawful, onDrum, at_, State.reset]
  · have : ∀ b ∈ lawful.decoder.buffers, b.context = none := by decide
    rw [this b hb] at h; cases h
  · rcases lawful_bays.1 hp with ⟨rfl, rfl⟩ | ⟨rfl, rfl⟩ <;> simp [other, plate]

/-- Three entries and an exposure in progress; a full outstanding table; 32 blocks waiting; a scan with a full FIFO; 512 defect
records in one bay. -/
theorem witness_TablesKeepTheirSizes :
    ({ onDrum (plate .exposing .good) (exposing .writing true 0 []) with
        inspectionQueue := List.replicate 3 (.aborted keyA) } : State).ProcessorRoom ∧
    State.reset.BayTableFits ∧ (fullTable 4).link.TablesFit ∧
    ({ State.reset with intake := { queue := List.replicate 32 (block .common [1] 0), dropped := 0 } } : State).IntakeFits ∧
    (scanning (scan 5 [[], [], [], []] .empty)).ScanFits ∧
    (at_ 7 { plate .held .good with defects := (List.replicate 512
      { number := 1, firstLine := 0, lastLine := 0, firstElement := 0, lastElement := 0, area := 1, sign := .loss, peak := 9 }) }).PoolFits := by
  refine ⟨by unfold State.ProcessorRoom; decide, by unfold State.BayTableFits; decide, by unfold Link.TablesFit; decide,
    by unfold State.IntakeFits; decide, fun sc h => ?_, ?_⟩
  · obtain rfl : scan 5 [[], [], [], []] .empty = sc := by injection h
    decide
  · exact pool_of_one _ (by rw [List.length_replicate])

theorem witness_StripsNeverReturnToAbsent :
    step { at_ 7 (plate .filling .good) with pending := [.refreshComplete] } = .next (at_ 7 (plate .filling .good)).transmit ∧
    (at_ 7 (plate .filling .good)).plate? 7 = some (plate .filling .good) ∧
    (at_ 7 (plate .filling .good)).transmit.plate? 7 = some (plate .filling .good) ∧
    (plate .filling .good).strips[15]? = some (strip .good) ∧ (strip .good).state ≠ .absent ∧
    OneFrame { at_ 7 (plate .filling .good) with pending := [.refreshComplete] } := by
  refine ⟨rfl, by decide, by decide, by decide, by decide, Or.inl rfl⟩

theorem witness_EveryCommandGoesOn : storeStep.BurstInside := by
  rintro a b live h
  cases h; decide

/-! ### One step -/

/-- The state after a command; the state before it where the command stops. -/
def after (c : Instr) (s : State) : State :=
  match exec c s with
  | .next t => t
  | _ => s

/-- R38: at the write completion whose held approval takes the bay out of FILLING, a waiting block of the plate is taken and
abandoned, not counted, with the take first; it is dropped and counted with the approval first. -/
theorem test_stripWriteComplete_orders :
    ∀ takeFirst : Bool,
      let t := after (.stripWriteComplete takeFirst) (heldWaiting .good .hold)
      t.intake = { queue := [], dropped := if takeFirst then 4 else 5 } ∧ t.decoder.buffers = [.free, .free] ∧
      (t.plate? 7).map Plate.state = some .queued := by decide

/-- The status codes and tags of the answers waiting. -/
def replies (s : State) : List (Nat × Byte) := s.link.answers.map fun a => (a.reply.status.code, a.tag)

/-- R174, R176: after reset the first frame is the link notice, which takes the ready mark with it. -/
theorem test_ready_notice : (after .refreshComplete State.reset).link.ready = false ∧
    (after .refreshComplete State.reset).link.sources = 0 ∧
    (∃ body, (after .refreshComplete State.reset).link.tx = .notice 11 body false) := ⟨by decide, by decide, _, rfl⟩

/-- R177: a pulse width byte of 0 is stored as 1, R = 16 and AUTO are taken. -/
theorem test_configure : (after (.configure 0 9 [4, 0, 2, 0xFF, 0xFF, 16, 1, 0, 1]) State.reset).settings =
    { bayMode := .four, zoneCode := 2, zoneMask := 0xFFFF, resolution := .r16, mode := .auto, pulseSteps := 1,
      autoRelease := true } := by decide

/-- R7: an OPEN PLATE after reset fills bay 0 and answers DONE with its number. -/
theorem test_openPlate : (after (.openPlate 0 9 openBody) State.reset).plate? 0 = some (plate .filling .absent) ∧
    ((after (.openPlate 0 9 openBody) State.reset).link.answers.map fun a => a.reply) =
      [{ status := .done, data := [0] }] := by decide

/-- R33: an admitted block joins the Intake Queue and charges its body. -/
theorem test_stripBlock : replies (after (.stripBlock 0 9 (blockBody 15 0 0)) (at_ 3 (plate .filling .absent))) = [(1, 9)] ∧
    (after (.stripBlock 0 9 (blockBody 15 0 0)) (at_ 3 (plate .filling .absent))).charged = 3 := by decide +kernel

/-- R10: a WHOLE plate approved under HOLD is QUEUED at the tail; a replate goes to the head. -/
theorem test_approvePlate : (after (.approvePlate 0 9 (naming 7))
      { at_ 7 (plate .filling .good) with approvalQueue := [2] }).approvalQueue = [2, 7] ∧
    (after (.approvePlate 0 9 (naming 7))
      { at_ 7 { plate .filling .good with replate := true } with approvalQueue := [2] }).approvalQueue = [7, 2] := by decide

/-- R8, R21: releasing an APPROVING bay answers its APPROVE PLATE WITHDRAWN (13h) before the release is answered DONE. -/
theorem test_releasePlate : replies (after (.releasePlate 0 9 (naming 7)) (hatched 15 [])) = [(0x13, 7), (0, 9)] ∧
    (after (.releasePlate 0 9 (naming 7)) (hatched 15 [])).filler = { fill := none, list := [] } := by decide

/-- R113, R119: a start takes L = W + the largest skew and H/32 passes. -/
theorem test_startExposure :
    let t := after (.startExposure 0 9 [])
      (onDrum (plate .queued .good) { freshPlate with skews := 40 :: List.replicate 31 0 })
    t.exposure.passLength = 1064 ∧ t.exposure.passCount = 32 ∧ t.exposure.state = .loading ∧ replies t = [(0, 9)] := by decide

/-- R125: at x = 1 emitter 0 at skew 0 shows dot 1 and emitter 1 at skew 1 shows dot 0 of its own line. -/
theorem test_dotClockPulse :
    (after .dotClockPulse (onDrum (plate .exposing .good) { exposing .writing true 1
      [.emitting 0 (List.replicate 16 2 ++ List.replicate 16 1), .empty] with skews := 0 :: List.replicate 31 1 })).exposure.emitters
      = 3 := by decide +kernel

/-- R126: an index over an open pass with a position to go aborts with OVERLAP, and the plate is spent. -/
theorem test_drumIndex :
    let t := after .drumIndex (onDrum (plate .exposing .good) (exposing .writing true 1023 [.emitting 0 [], .full 1 []]))
    t.exposure.last = .aborted .overlap 0 true 7 keyA ∧ t.exposure.spent = true ∧
      t.inspectionQueue = [.aborted keyA] := by decide

/-- R161: the tick that brings the count to 4 makes the edge due. -/
theorem test_lineTick : ((after .lineTick { State.reset with lines := { State.reset.lines with
      inputs := State.reset.lines.inputs.set 3 { InputLine.reset true with debounced := false, count := 3 } } }).input 3).edgeDue =
    true := by decide

/-- R161, R128: with debounce 0 a fall of L0 is an edge at once, and aborts WRITING with cause DOOR. -/
theorem test_rawLevelChange :
    (after (.rawLevelChange 0 false) { onDrum (plate .exposing .good) (exposing .writing true 5 []) with
      lines := { State.reset.lines with inputs := { highLine with debounce := 0 } :: List.replicate 7 highLine } }).exposure.last =
    .aborted .door 0 true 7 keyA := by decide

/-- R165, R140: a rise of L3 let through by SET LINES ends a calibration, answered ABORTED ahead of the
DONE (log entry 42). -/
theorem test_setLines_calibration : replies (after (.setLines 0 9 (linesBody.set 12 0)) { calibrating 15 .dark [] with
    lines := { State.reset.lines with
      inputs := State.reset.lines.inputs.set 3 { InputLine.reset true with debounced := false } } }) =
    [(Status.aborted.code, 7), (Status.done.code, 9)] := by decide

/-- R165: a debounce above 15 is stored as 15. -/
theorem test_setLines : ((after (.setLines 0 9 ([200, 1, 1, 1] ++ linesBody.drop 4)) State.reset).input 0) =
    { InputLine.reset false with debounce := 15, edge := .falling, hold := true, masked := true } := by decide

/-- R165: SET LINES leaves a pending count, and a debounce of 0 leaves that of a line whose levels are equal; where they
differ the edge is taken. -/
theorem test_setLines_counts :
    ((after (.setLines 0 9 linesBody) counting).input 0).count = 3 ∧
    ((after (.setLines 0 9 (0 :: linesBody.drop 1)) { counting with lines := { counting.lines with
      inputs := counting.lines.inputs.set 0 { InputLine.reset true with count := 3 } } }).input 0).count = 3 ∧
    ((after (.setLines 0 9 (0 :: linesBody.drop 1)) counting).input 0).debounced = true := by decide

/-- R169: in RECEIVING a start character is data, and so is a whole frame behind a character 09h, here 519 characters short
of complete; a start character that is the last of a frame has it judged, and discarded for its check. -/
theorem test_join_frame : (after .startCharacter (receiving [1])).link.receiver = .receiving [1, 0xA5] ∧
    (after (.readStatus 0 7 []) (receiving [9])).link.receiver = .receiving [9, 0xA5, 0, 2, 7, 0, 0, 0x79, 0xF4] ∧
    (after .startCharacter (receiving [0, 2, 7, 0, 0, 0])).link.badCheck = 1 ∧
    (after .startCharacter (receiving [0, 2, 7, 0, 0, 0])).link.receiver = .hunting := by decide +kernel

/-- R169: the characters of a frame behind the one that completes are judged in HUNTING: here the frame's own A5h completes a
bad frame, and an A5h among its other characters begins a new one. A single character 02h joins the assembler. -/
theorem test_join_frame_beyond :
    (after (.readStatus 0 7 []) (receiving [0, 2, 7, 0, 1, 9, 9])).link.badCheck = 1 ∧
    (after (.readStatus 0 7 []) (receiving [0, 2, 7, 0, 1, 9, 9])).link.receiver = .hunting ∧
    (after (.unknownKind 0 0xA5 7 []) (receiving [0, 2, 7, 0, 1, 9, 9])).link.receiver =
      .receiving ([7, 0, 0] ++ be16 (frameCheck 0 0xA5 7 []).toNat) ∧
    (after (.startCharacter 2) (receiving [0])).link.receiver = .receiving [0, 2] := by decide +kernel

/-- R108: with the store IDLE an owed refresh goes into service at once. -/
theorem test_refreshTimer : (after .refreshTimer State.reset).store.service = .refresh ∧
    (after .refreshTimer State.reset).store.owed = 1 := by decide

/-- R107: a served write is in the store, and reads back. -/
theorem test_burstComplete : Memory.read (after (.burstComplete true) storeStep).store.memory 7 = some 1 ∧
    Memory.read (after (.burstComplete true) storeStep).store.memory 8 = none := by decide

/-- R139: w - dark = 1,024 gives gain 4,095 and is not weak, 1,023 is weak (section 8.2). -/
theorem test_weak : weakElements [16 * 1024, 16 * 1023] [0, 0] = [1] ∧ gainTable [16 * 1024, 16 * 1023] [0, 0] = [4095, 4095] := by
  decide

/-- R154, R155: the last line of a scan whose elements read as expected ends it CLEAN, and pulses the accept bin. -/
theorem test_scan_end :
    let t := State.endScan .none (scanning (scan 128 [] .empty))
    (t.plate? 7).map Plate.verdict = some .clean ∧ t.lines.pulse = some { reject := false, timeLeft := 200 } ∧
      t.inspection.lastScan = .verdict .clean .none 7 keyA := by decide

/-- No word of the table spells a command: its rows give no bits. -/
theorem test_fetchWord (nbits w : Nat) : State.reset.withFetchWord nbits w = State.reset := rfl

end Sys2Proof.Tests
end

section
/-! SUPPORT. What a step does to the link's tables: no operation but the end of a send, a request's taking and a full reset
changes the outstanding table, the busy list or the number of LINK BUSY answers not yet sent (R171 to R173). -/

namespace Sys2Proof.Machine

/-- The LINK BUSY answers not yet sent: those waiting and the one being sent (R172). -/
def Link.busyAnswers (l : Link) : Nat :=
  (l.answers.countP fun a => a.slot.isNone) + (match l.tx with
    | .answer a => if a.slot.isNone then 1 else 0
    | _ => 0)

/-- The outstanding table, the busy list and the number of LINK BUSY answers not yet sent. -/
def Link.tables (l : Link) : List Entry × List (Byte × Byte) × Nat := (l.outstanding, l.busy, l.busyAnswers)

theorem Link.tablesFit_iff (l : Link) : l.TablesFit ↔
    l.outstanding.length ≤ 16 ∧ l.busy.length ≤ 4 ∧ (l.outstanding.map Entry.slot).Nodup ∧ l.busyAnswers = l.busy.length :=
  Iff.rfl

/-- Equal tables fit alike. -/
theorem Link.tablesFit_congr {l l' : Link} (h : l'.tables = l.tables) : l'.TablesFit ↔ l.TablesFit := by
  simp only [Link.tables, Prod.mk.injEq] at h
  rw [Link.tablesFit_iff, Link.tablesFit_iff, h.1, h.2.1, h.2.2]

variable (s : State)

@[simp] theorem State.setSource_tables (n : Nat) : (s.setSource n).link.tables = s.link.tables := rfl

/-- An answer of an outstanding entry is no LINK BUSY answer. -/
@[simp] theorem State.answer_tables (k : Nat) (r : Reply) : (s.answer k r).link.tables = s.link.tables := by
  unfold State.answer
  split
  · simp [Link.tables, Link.busyAnswers]
  · rfl

@[simp] theorem State.answer?_tables (k : Option Nat) (r : Reply) : (s.answer? k r).link.tables = s.link.tables := by
  cases k with
  | none => rfl
  | some k => exact s.answer_tables k r

@[simp] theorem State.forgetDue_tables (n : Nat) : (s.forgetDue n).link.tables = s.link.tables := by
  unfold State.forgetDue
  split
  · rename_i htx
    split
    · simp [Link.tables, Link.busyAnswers, htx]
    · rfl
  · rfl

/-- The transmitter's choice moves an answer from the queue to the wire, or begins a notice. -/
@[simp] theorem State.transmit_tables : s.transmit.link.tables = s.link.tables := by
  rcases s.transmit_cases with h | ⟨a, rest, htx, hq, h⟩ | ⟨src, htx, hq, -, -, h⟩
  · rw [h]
  · rw [h]
    simp [Link.tables, Link.busyAnswers, htx, hq, List.countP_cons]
  · rw [h]
    simp [Link.tables, Link.busyAnswers, State.beginNotice, htx, hq]

/-! ### Starts, queueing and freeing -/

@[simp] theorem State.takeStart_tables : s.takeStart.link.tables = s.link.tables := by
  rcases s.takeStart_cases with h | ⟨n, rest, p, -, -, h⟩ <;> rw [h]
  rw [State.beginFetch_link]; rfl

@[simp] theorem State.autoEvent_tables : s.autoEvent.link.tables = s.link.tables := by
  rcases s.autoEvent_cases with h | ⟨-, -, -, h⟩ <;> rw [h]
  exact s.takeStart_tables

@[simp] theorem State.becomeQueued_tables (n : Nat) (h : Bool) : (s.becomeQueued n h).link.tables = s.link.tables := by
  simp only [State.becomeQueued, State.autoEvent_tables, State.setSource_tables, State.modPlate_link]

@[simp] theorem State.letGo_tables (n : Nat) (p : Plate) : (s.letGo n p).link.tables = s.link.tables := by
  unfold State.letGo
  split
  · dsimp only
    split
    · rw [State.answer?_tables, State.abandonBay_link]
    · rw [State.abandonBay_link]
  · rw [State.answer?_tables, State.stopFill_link]
  · rfl
  · rfl

@[simp] theorem State.freeBay_tables (n : Nat) : (s.freeBay n).link.tables = s.link.tables := by
  unfold State.freeBay
  split
  · exact s.letGo_tables n _
  · rfl

/-! ### Approvals -/

@[simp] theorem State.judgeApproval_tables (n : Nat) (entry : Option Nat) :
    (s.judgeApproval n entry).1.link.tables = s.link.tables := by
  rcases s.judgeApproval_cases n entry with ⟨r, h⟩ | ⟨p, -, h⟩ | ⟨p, -, -, h⟩ <;> rw [h]
  · exact (State.becomeQueued_tables _ _ _).trans (by rw [State.abandonBay_link])
  · simp only [State.handToFiller_link, State.setSource_tables, State.modPlate_link, State.abandonBay_link]

@[simp] theorem State.judgeHeld_tables (n : Nat) : (s.judgeHeld n).link.tables = s.link.tables := by
  rcases s.judgeHeld_cases n with h | ⟨p, s', r, -, -, hj, h⟩
  · rw [h]
  · have hs' : s'.link.tables = s.link.tables := by
      have := State.judgeApproval_tables (s.modPlate n fun p => { p with approvalHeld := false, approveEntry := none }) n
        p.approveEntry
      rw [hj, State.modPlate_link] at this
      exact this
    rcases h with ⟨-, h⟩ | ⟨r', -, h⟩ <;> rw [h]
    · exact hs'
    · rw [State.answer?_tables, hs']

@[simp] theorem State.holdApproval_tables (n : Nat) (slot : Option Nat) :
    (s.holdApproval n slot).link.tables = s.link.tables := by
  simp only [State.holdApproval, State.modPlate_link]

/-! ### The decoder's and the filler's ends -/

@[simp] theorem State.completeWrite_tables (takeFirst : Bool) (i : Nat) (ctx : StripContext) :
    (s.completeWrite takeFirst i ctx).link.tables = s.link.tables := by
  unfold State.completeWrite
  dsimp only
  split <;> simp only [State.judgeHeld_tables, State.blockTake_link, State.setBuffer_link, State.setSource_tables,
    State.modPlate_link]

@[simp] theorem State.stripWriteComplete_tables (takeFirst : Bool) :
    (s.stripWriteComplete takeFirst).link.tables = s.link.tables := by
  unfold State.stripWriteComplete
  (repeat' split) <;> simp only [State.completeWrite_tables]

@[simp] theorem State.completeHatchStrip_tables (f : FillContext) :
    (s.completeHatchStrip f).link.tables = s.link.tables := by
  unfold State.completeHatchStrip
  dsimp only
  split
  · simp only [State.setSource_tables, State.modPlate_link]
  · split
    · simp only [State.askFill_link, State.setSource_tables, State.modPlate_link]
    · simp only [State.completeFill, State.nextFill_link, State.answer?_tables, State.becomeQueued_tables,
        State.modPlate_link, State.setSource_tables]

@[simp] theorem State.hatchStripComplete_tables : s.hatchStripComplete.link.tables = s.link.tables := by
  unfold State.hatchStripComplete
  (repeat' split) <;> simp only [State.completeHatchStrip_tables]

/-! ### The exposure -/

@[simp] theorem State.becomeIdle_tables : s.becomeIdle.link.tables = s.link.tables := by
  simp only [State.becomeIdle, State.autoEvent_tables, State.setSource_tables, State.onExposure_link]

@[simp] theorem State.completeExposure_tables : s.completeExposure.link.tables = s.link.tables := by
  unfold State.completeExposure
  split
  · rfl
  · simp only [State.becomeIdle_tables, State.bayCompleted, State.setSource_tables, State.modPlate_link,
      State.onExposure_link, State.stopExposing_link]

@[simp] theorem State.abort_tables (cause : AbortCause) : (s.abort cause).link.tables = s.link.tables := by
  unfold State.abort
  split
  · rfl
  · rw [State.becomeIdle_tables]
    split
    · simp only [State.baySpoiled, State.setSource_tables, State.modPlate_link, State.onExposure_link,
        State.stopExposing_link]
    · unfold State.bayReturned
      split <;> simp only [State.freeBay_tables, State.becomeQueued_tables, State.onExposure_link, State.stopExposing_link]

@[simp] theorem State.interlockFall_tables (cause : AbortCause) :
    (s.interlockFall cause).link.tables = s.link.tables := by
  unfold State.interlockFall
  split <;> simp only [State.abort_tables]

@[simp] theorem State.clearSpent_tables : s.clearSpent.link.tables = s.link.tables := by
  unfold State.clearSpent
  split <;> rfl

@[simp] theorem State.passFetchComplete_tables : s.passFetchComplete.link.tables = s.link.tables := by
  unfold State.passFetchComplete
  dsimp only
  (repeat' split) <;> simp only [State.beginFetch_link, State.setSource_tables, State.onExposure_link]

@[simp] theorem State.passClose_tables : s.passClose.link.tables = s.link.tables := by
  unfold State.passClose State.closePass
  dsimp only
  (repeat' split) <;> simp only [State.completeExposure_tables, State.beginFetch_link, State.onExposure_link]

@[simp] theorem State.drumIndex_tables : s.drumIndex.link.tables = s.link.tables := by
  rw [← s.passClose_tables]
  unfold State.drumIndex State.firstPass State.nextPass
  dsimp only
  (repeat' split) <;> simp only [State.abort_tables, State.setSource_tables, State.onExposure_link]

/-! ### The scanner -/

@[simp] theorem State.endCalibration_tables (c : Calibration) (o : CalibrationOutcome) (w : Nat) (r : Reply) :
    (s.endCalibration c o w r).link.tables = s.link.tables := by
  simp only [State.endCalibration, State.answer?_tables, State.setSource_tables]

@[simp] theorem State.completePhase_tables (c : Calibration) : (s.completePhase c).link.tables = s.link.tables := by
  unfold State.completePhase State.completeDark State.completeWhite
  dsimp only
  (repeat' split) <;> simp only [State.endCalibration_tables, State.onInspection_link]

@[simp] theorem State.cutCalibration_tables : s.cutCalibration.link.tables = s.link.tables := by
  unfold State.cutCalibration
  (repeat' split) <;> simp only [State.endCalibration_tables, State.completePhase_tables]

@[simp] theorem State.darkCalibrationDone_tables : s.darkCalibrationDone.link.tables = s.link.tables := by
  unfold State.darkCalibrationDone State.completeDark
  (repeat' split) <;> simp only [State.endCalibration_tables, State.onInspection_link]

@[simp] theorem State.whiteCalibrationDone_tables : s.whiteCalibrationDone.link.tables = s.link.tables := by
  unfold State.whiteCalibrationDone State.completeWhite
  dsimp only
  (repeat' split) <;> simp only [State.endCalibration_tables, State.onInspection_link]

@[simp] theorem State.endScan_tables (cause : UncheckedCause) : (s.endScan cause).link.tables = s.link.tables := by
  unfold State.endScan
  dsimp only
  split
  · split
    · rfl
    · simp only [State.setSource_tables, State.onStore_link, State.onInspection_link, State.requestPulse_link,
        State.forgetDue_tables, State.setBay_link]
  · rfl

@[simp] theorem State.compareIfReady_tables : s.compareIfReady.link.tables = s.link.tables := by
  unfold State.compareIfReady
  dsimp only
  (repeat' split) <;> simp only [State.endScan_tables, State.beginExpected_link, State.compareLine_link]

@[simp] theorem State.scanLine_tables (line : ScanLine) : (s.scanLine line).link.tables = s.link.tables := by
  unfold State.scanLine State.receiveLine State.markLagged
  dsimp only
  (repeat' split) <;> simp only [State.endScan_tables, State.compareIfReady_tables, State.setWork_link,
    State.setSource_tables, State.onStore_link, State.calibrationLine_link]

@[simp] theorem State.expectedLineFull_tables : s.expectedLineFull.link.tables = s.link.tables := by
  unfold State.expectedLineFull
  (repeat' split) <;> simp only [State.compareIfReady_tables, State.setWork_link]

@[simp] theorem State.judgeScanStart_tables : s.judgeScanStart.link.tables = s.link.tables := by
  unfold State.judgeScanStart State.bindScan
  dsimp only
  (repeat' split) <;> simp only [State.autoEvent_tables, State.setSource_tables, State.beginExpected_link,
    State.setWork_link, State.setBay_link, State.requestPulse_link, State.onInspection_link]

@[simp] theorem State.scanStart_tables : s.scanStart.link.tables = s.link.tables := by
  unfold State.scanStart
  rw [State.judgeScanStart_tables]
  split <;> simp only [State.cutCalibration_tables, State.endScan_tables]

/-! ### The plant lines -/

@[simp] theorem State.markEdge_tables (n : Nat) (level : Bool) : (s.markEdge n level).link.tables = s.link.tables := by
  unfold State.markEdge
  dsimp only
  (repeat' split) <;> simp only [State.setSource_tables, State.setInput_link]

@[simp] theorem State.reportEdge_tables (n : Nat) (level : Bool) :
    (s.reportEdge n level).link.tables = s.link.tables := by
  unfold State.reportEdge State.plateClear
  (repeat' split) <;> simp only [State.interlockFall_tables, State.clearSpent_tables, State.autoEvent_tables,
    State.scanStart_tables, State.endScan_tables]

@[simp] theorem State.takeEdge_tables (n : Nat) : (s.takeEdge n).link.tables = s.link.tables := by
  unfold State.takeEdge
  dsimp only
  split <;> simp only [State.markEdge_tables, State.reportEdge_tables, State.setInput_link]

@[simp] theorem State.inputEdge_tables (n : Nat) : (s.inputEdge n).link.tables = s.link.tables := by
  unfold State.inputEdge
  split <;> simp only [State.takeEdge_tables]

end Sys2Proof.Machine
end

section
/-! SUPPORT. Every step is a chain of parts, each a state change of one block or of blocks that work on one bay, with the
condition under which it is made. A condition that every part keeps is kept by every step. -/

namespace Sys2Proof.Machine

/-- One part of a step: the changes that the model's meanings are made of, each with the condition that stands where it is
made. Parts that an invariant of plates, queues and tables cannot tell apart (store, lines, Screening Unit, the Exposure
Controller's own registers) are taken together. -/
inductive Part (s : State) : State → Prop where
  | pending (cs : List Instr) : Part s { s with pending := cs }
  | lines (l : Lines) : Part s { s with lines := l }
  | store (st : Store) : Part s { s with store := st }
  | screening (sc : Screening) : Part s { s with screening := sc }
  /-- The transmitter's choice (R174). -/
  | transmit : Part s s.transmit
  /-- A source is set (R174). -/
  | source (n : Nat) : Part s (s.setSource n)
  /-- The receiver changes its state (R169). -/
  | receiver (r : Receiver) : Part s { s with link := { s.link with receiver := r } }
  /-- A frame is discarded and counted (R169). -/
  | discard (bad late : Nat) : Part s { s with link := { s.link with badCheck := bad, timeouts := late } }
  /-- A request takes an entry (R171). -/
  | entry (tag kind : Byte) (room : s.link.outstanding.length < Config.outstandingMax) :
      Part s { s with link := { s.link with
        outstanding := s.link.outstanding ++ [{ slot := s.link.freeSlot, tag, kind }] } }
  /-- A request is refused LINK BUSY (R172). -/
  | refused (kind tag : Byte) : Part s (s.refuseBusy kind tag)
  /-- An answer joins the queue (R173). -/
  | answer (slot : Nat) (r : Reply) : Part s (s.answer slot r)
  /-- An answer has been sent (R173). -/
  | sent (a : Answer) (sending : s.link.tx = .answer a) : Part s { s with link := s.link.answered a }
  /-- A notice has been sent (R175). -/
  | noticed (src : Nat) (body : List Byte) (due : Bool) (sending : s.link.tx = .notice src body due) :
      Part s { s with link := { s.link with tx := .idle } }
  /-- A RESET FULL waits for its answer to be sent (R179). -/
  | waits (k : Nat) : Part s { s with link := { s.link with fullReset := some k } }
  /-- RESET PLATES leaves its mark and kind (R181). -/
  | announced : Part s { s with link := { s.link with ready := true, resetKind := .plates } }
  | fullReset (kind : ResetKind) (straps : BitVec 2) : Part s (s.fullReset kind straps)
  /-- RESET PLATES in the other blocks (R181). -/
  | cleared : Part s s.clearPlates
  | configured (c : Settings) (rest : s.configurable = true) : Part s (s.configured c)
  /-- OPEN PLATE (R5 to R7). -/
  | opened (f : OpenFields) : Part s (s.openPlate f).1
  /-- A block refused NOT FOR ZONE is counted (R30). -/
  | foreign (b : Block) : Part s (s.countForeign b)
  /-- A block joins the Intake Queue (R33). -/
  | intake (b : Block) (room : s.noRoom b = false) :
      Part s { s with intake := { s.intake with queue := s.intake.queue ++ [b] } }
  /-- An approval is held (R9, R66). -/
  | held (n : Nat) (p : Plate) (slot : Option Nat) (resident : s.plate? n = some p) (filling : p.state = .filling) :
      Part s (s.holdApproval n slot)
  /-- An approval is judged (R9). -/
  | judged (n : Nat) (p : Plate) (slot : Option Nat) (resident : s.plate? n = some p) (filling : p.state = .filling)
      (free : p.approvalHeld = false) : Part s (s.judgeApproval n slot).1
  /-- A bay is freed (R8, R20, R21). -/
  | freed (n : Nat) (p : Plate) (resident : s.plate? n = some p)
      (releasable : p.state = .filling ∨ p.state = .approving ∨ p.state = .queued ∨ p.state = .held ∨ p.autoDue = true) :
      Part s (s.freeBay n)
  /-- PRIORITY PLATE (R12). -/
  | priority (n : Nat) (p : Plate) (resident : s.plate? n = some p) (queued : p.state = .queued) :
      Part s { s with approvalQueue := n :: s.approvalQueue.filter fun m => decide (m ≠ n) }
  /-- REEXPOSE PLATE (R22). -/
  | reexposed (n : Nat) (p : Plate) (resident : s.plate? n = some p) (held : p.state = .held)
      (newest : s.superseded p.key = false) : Part s ((s.modPlate n Plate.forReexposure).becomeQueued n false)
  /-- The Exposure Controller changes a register of its own, or its state within an exposure. -/
  | exposure (e : Exposure) (same : e.state = .idle ↔ s.exposure.state = .idle) (bay : e.current = s.exposure.current) :
      Part s { s with exposure := e }
  /-- A start is taken (R118, R120). -/
  | started (allowed : s.startRefusal = none) : Part s s.takeStart
  /-- An exposure completes (R127). -/
  | completed (busy : s.exposure.state ≠ .idle) : Part s s.completeExposure
  /-- An exposure aborts (R128 to R130). -/
  | aborted (cause : AbortCause) (busy : s.exposure.state ≠ .idle) : Part s (s.abort cause)
  /-- The Inspection Unit changes a register of its own, or begins or goes on with a calibration (R137, R158). -/
  | inspection (i : Inspection) (idle : ∀ sc, s.inspection.work ≠ .scanning sc) (off : ∀ sc, i.work ≠ .scanning sc) :
      Part s { s with inspection := i }
  /-- The inspection settings are replaced (R158). -/
  | settings (set : InspectionSettings) : Part s (s.onInspection fun i => { i with settings := set })
  /-- A calibration phase ends (R138 to R140). -/
  | calibrated (c : Calibration) (o : CalibrationOutcome) (w : Nat) (r : Reply)
      (on : s.inspection.work = .calibrating c) : Part s (s.endCalibration c o w r)
  /-- A scan goes on with another count, FIFO or expected line (R142, R144, R145). -/
  | scan (sc sc' : Scan) (on : s.inspection.work = .scanning sc) (bay : sc'.bay = sc.bay) (key : sc'.key = sc.key)
      (fifo : sc.fifo.length ≤ Config.fifoLines → sc'.fifo.length ≤ Config.fifoLines)
      (opens : sc'.openDefects.length ≤ sc.openDefects.length) : Part s (s.setWork (.scanning sc'))
  /-- A scan line is compared (R143 to R149). -/
  | compared (sc : Scan) (p : Plate) (coverage : List Nat) (line : ScanLine) (rest : List ScanLine)
      (on : s.inspection.work = .scanning sc) (resident : s.plate? sc.bay = some p) (fifo : sc.fifo = line :: rest) :
      Part s (s.compareLine sc p coverage line rest)
  /-- A scan ends (R155). -/
  | scanned (cause : UncheckedCause) : Part s (s.endScan cause)
  /-- A bay entry leaves the inspection queue and its scan is bound (R18, R150). -/
  | bound (n : Nat) (p : Plate) (rest : List InspectionEntry) (queue : s.inspectionQueue = .bay n :: rest)
      (resident : s.plate? n = some p) (idle : ∀ sc, s.inspection.work ≠ .scanning sc) :
      Part s (State.bindScan n p { s with inspectionQueue := rest })
  /-- An entry with no resident bay leaves the inspection queue (R17). -/
  | entryTaken (e : InspectionEntry) (rest : List InspectionEntry) (queue : s.inspectionQueue = e :: rest)
      (gone : ∀ n, e = .bay n → s.plate? n = none) : Part s { s with inspectionQueue := rest }
  /-- The decoder's buffers change within the work they are bound to (R49). -/
  | decoder (d : Decoder)
      (bound : ∀ b ∈ d.buffers, ∀ c, b.context = some c →
        ∃ b' ∈ s.decoder.buffers, ∃ c', b'.context = some c' ∧ c'.bay = c.bay ∧ c'.key = c.key)
      (charge : (d.buffers.map StripBuffer.charge).sum ≤ (s.decoder.buffers.map StripBuffer.charge).sum) :
      Part s { s with decoder := d }
  /-- A block is taken (R37, R38). -/
  | taken : Part s s.blockTake
  /-- A strip write is recorded and its buffer freed (R42, R65). -/
  | written (i : Nat) (ctx : StripContext) (lines : List Line) (served : Nat)
      (on : s.decoder.buffers[i]? = some (.writing ctx lines served)) :
      Part s (State.setBuffer i .free (s.modPlate ctx.bay (Plate.modStrip ctx.strip fun r => r.written ctx)))
  /-- A held approval is judged (R66). -/
  | heldJudged (n : Nat) : Part s (s.judgeHeld n)
  /-- The filler goes on with its strip (R94). -/
  | fill (f f' : FillContext) (on : s.filler.fill = some f) (bay : f'.bay = f.bay) (key : f'.key = f.key) :
      Part s { s with filler := { s.filler with fill := some f' } }
  /-- A hatch strip completes (R94, R95). -/
  | hatched (f : FillContext) (on : s.filler.fill = some f) : Part s (s.completeHatchStrip f)

/-- A chain of parts. -/
def Parts (s t : State) : Prop := Relation.ReflTransGen Part s t

@[refl] theorem Parts.refl {s : State} : Parts s s := Relation.ReflTransGen.refl

theorem Part.parts {s t : State} (h : Part s t) : Parts s t := Relation.ReflTransGen.single h

theorem Parts.trans {s t u : State} (h : Parts s t) (h' : Parts t u) : Parts s u := Relation.ReflTransGen.trans h h'

theorem Parts.tail {s t u : State} (h : Parts s t) (h' : Part t u) : Parts s u := Relation.ReflTransGen.tail h h'

/-- A condition that every part keeps is kept along a chain of parts. -/
theorem Parts.keep {P : State → Prop} (hP : ∀ s t, Part s t → P s → P t) {s t : State} (h : Parts s t) (hs : P s) :
    P t := by
  induction h with
  | refl => exact hs
  | tail _ hpart ih => exact hP _ _ hpart ih

/-- A chain of parts for every item of a list is one chain. -/
theorem Parts.foldl {α : Type} (f : State → α → State) (hf : ∀ s a, Parts s (f s a)) (l : List α) (s : State) :
    Parts s (l.foldl f s) := by
  induction l generalizing s with
  | nil => exact .refl
  | cons a l ih => exact (hf s a).trans (ih (f s a))

/-- A chain of parts goes on with a source set. -/
theorem Parts.source {s t : State} {n : Nat} (h : Parts s t) : Parts s (t.setSource n) := h.tail (.source n)

/-- A chain of parts goes on with a change of the store. -/
theorem Parts.store {s t : State} {f : Store → Store} (h : Parts s t) : Parts s (t.onStore f) := h.tail (.store _)

/-- A chain of parts goes on with a diverter pulse. -/
theorem Parts.pulse {s t : State} {reject : Bool} (h : Parts s t) : Parts s (t.requestPulse reject) := h.tail (.lines _)

/-- A chain of parts goes on with a change of an input line. -/
theorem Parts.input {s t : State} {n : Nat} {l : InputLine} (h : Parts s t) : Parts s (t.setInput n l) := h.tail (.lines _)

/-- A chain of parts goes on with a change of the Exposure Controller's own registers. -/
theorem Parts.exposure {s t : State} {f : Exposure → Exposure} (h : Parts s t)
    (same : (f t.exposure).state = .idle ↔ t.exposure.state = .idle)
    (bay : (f t.exposure).current = t.exposure.current) : Parts s (t.onExposure f) := h.tail (.exposure _ same bay)

variable (s : State)

/-! ### The Exposure Controller -/

theorem State.beginFetch_parts : Parts s s.beginFetch := by
  rcases s.beginFetch_cases with h | ⟨-, -, h⟩ <;> rw [h]
  refine .store (Part.parts ?_)
  exact .exposure _ Iff.rfl rfl

theorem State.autoEvent_parts : Parts s s.autoEvent := by
  rcases s.autoEvent_cases with h | ⟨-, -, allowed, h⟩ <;> rw [h]
  exact (Part.started allowed).parts

theorem State.interlockFall_parts (cause : AbortCause) : Parts s (s.interlockFall cause) := by
  unfold State.interlockFall
  split
  · exact .refl
  · rename_i busy; exact (Part.aborted cause busy).parts

theorem State.clearSpent_parts : Parts s s.clearSpent := by
  unfold State.clearSpent
  split
  · exact .source (.exposure .refl Iff.rfl rfl)
  · exact .refl

theorem State.passFetchComplete_parts : Parts s s.passFetchComplete := by
  unfold State.passFetchComplete
  split
  · exact .refl
  · split
    · split
      · dsimp only
        refine .trans ?_ (State.beginFetch_parts _)
        split
        · rename_i hload
          have hload' : s.exposure.state = .loading := hload
          exact .source (.exposure (.exposure .refl Iff.rfl rfl) (by simp [hload']) rfl)
        · exact .exposure .refl Iff.rfl rfl
      · exact .refl
    · exact .refl

theorem State.passClose_parts : Parts s s.passClose := by
  unfold State.passClose
  split
  · rename_i h
    unfold State.closePass
    dsimp only
    have dark : Parts s (s.onExposure fun e => { e with
        emitters := 0, passOpen := false, buffers := e.buffers.set (e.passCounter % 2) .empty }) :=
      .exposure .refl Iff.rfl rfl
    refine dark.trans ?_
    split
    · exact (Part.completed (by simp [h.1])).parts
    · exact State.beginFetch_parts _
  · exact .refl

theorem State.drumIndex_parts : Parts s s.drumIndex := by
  unfold State.drumIndex
  refine .trans s.passClose_parts ?_
  generalize s.passClose = u
  dsimp only
  split
  · rename_i hwait
    unfold State.firstPass
    split
    · exact .source (.exposure .refl (by simp [Exposure.openPass, hwait]) rfl)
    · exact .refl
  · rename_i hwrite
    have busy : u.exposure.state ≠ .idle := by simp [hwrite]
    unfold State.nextPass
    dsimp only
    split
    · exact (Part.aborted _ busy).parts
    · split
      · split
        · exact .exposure .refl (by simp [Exposure.openPass, hwrite]) rfl
        · exact (Part.aborted _ busy).parts
      · exact (Part.aborted _ busy).parts
  · exact .refl

theorem State.dotClock_parts : Parts s s.dotClock := by
  unfold State.dotClock
  split
  · exact .exposure .refl Iff.rfl rfl
  · exact .refl

/-! ### The Inspection Unit -/

theorem State.completePhase_parts (c : Calibration) (on : s.inspection.work = .calibrating c) :
    Parts s (s.completePhase c) := by
  have idle : ∀ sc, s.inspection.work ≠ .scanning sc := by simp [on]
  have tables : ∀ i : Inspection, i.work = .calibrating c → Parts s { s with inspection := i } :=
    fun i hi => (Part.inspection i idle (by simp [hi])).parts
  unfold State.completePhase
  split
  · refine .tail ?_ (.calibrated c _ _ _ ?_)
    · exact tables _ on
    · exact on
  · unfold State.completeWhite
    dsimp only
    split
    · refine .tail ?_ (.calibrated c _ _ _ ?_)
      · exact tables _ on
      · exact on
    · exact (Part.calibrated c _ _ _ on).parts

theorem State.cutCalibration_parts : Parts s s.cutCalibration := by
  unfold State.cutCalibration
  split
  · rename_i c on
    split
    · exact s.completePhase_parts c on
    · exact (Part.calibrated c _ _ _ on).parts
  · exact .refl

theorem State.darkCalibrationDone_parts : Parts s s.darkCalibrationDone := by
  unfold State.darkCalibrationDone
  split
  · rename_i c on
    split
    · rename_i h
      have := s.completePhase_parts c on
      rwa [State.completePhase, h.1] at this
    · exact .refl
  · exact .refl

theorem State.whiteCalibrationDone_parts : Parts s s.whiteCalibrationDone := by
  unfold State.whiteCalibrationDone
  split
  · rename_i c on
    split
    · rename_i h
      have := s.completePhase_parts c on
      rwa [State.completePhase, h.1] at this
    · exact .refl
  · exact .refl

theorem State.beginExpected_parts (y : Nat) : Parts s (s.beginExpected y) := by
  unfold State.beginExpected
  split
  · rename_i sc on
    refine .store (Part.parts ?_)
    exact .scan sc _ on rfl rfl (fun h => h) le_rfl
  · exact .refl

theorem State.compareIfReady_parts : Parts s s.compareIfReady := by
  unfold State.compareIfReady
  split
  · rename_i sc on
    split
    · rename_i line rest y coverage p fifo expected resident
      split
      · dsimp only
        refine .trans (Part.compared sc p coverage line rest on resident fifo).parts ?_
        split
        · exact State.beginExpected_parts _ _
        · exact (Part.scanned _).parts
      · exact .refl
    · exact .refl
  · exact .refl

theorem State.scanLine_parts (line : ScanLine) : Parts s (s.scanLine line) := by
  unfold State.scanLine
  split
  · exact .refl
  · rename_i c on
    unfold State.calibrationLine
    split
    · exact (Part.inspection _ (by simp [on]) (by simp)).parts
    · exact .refl
  · rename_i sc on
    unfold State.receiveLine
    dsimp only
    split
    · exact .refl
    · split
      · have hcount : Parts s (s.setWork (.scanning { sc with received := sc.received + 1 })) :=
          Part.parts (.scan sc _ on rfl rfl (fun h => h) le_rfl)
        split
        · exact hcount.tail (.scanned _)
        · exact hcount
      · split
        · rename_i hroom
          refine .trans (Part.parts (.scan sc _ on ?_ ?_ ?_ ?_)) (State.compareIfReady_parts _)
          · rfl
          · rfl
          · intro _; simp; omega
          · exact le_rfl
        · have hlag : Parts s (s.markLagged sc) := by
            refine .source (.store (Part.parts ?_))
            exact .scan sc _ on rfl rfl (by simp) (by simp)
          split
          · exact hlag.tail (.scanned _)
          · exact hlag

theorem State.expectedLineFull_parts : Parts s s.expectedLineFull := by
  unfold State.expectedLineFull
  split
  · rename_i sc on
    split
    · split
      · refine .trans (Part.parts ?_) (State.compareIfReady_parts _)
        exact .scan sc _ on rfl rfl (fun h => h) le_rfl
      · exact .refl
    · exact .refl
  · exact .refl

theorem State.judgeScanStart_parts (idle : ∀ sc, s.inspection.work ≠ .scanning sc) : Parts s s.judgeScanStart := by
  unfold State.judgeScanStart
  split
  · rename_i n rest queue
    dsimp only
    refine .trans ?_ (State.autoEvent_parts _)
    split
    · rename_i p resident
      exact (Part.bound n p rest queue resident idle).parts
    · rename_i gone
      exact (Part.entryTaken _ rest queue (by rintro _ ⟨⟩; exact gone)).parts
  · rename_i key rest queue
    refine .trans ?_ (State.autoEvent_parts _)
    exact .source (.pulse (.tail (Part.parts (.entryTaken _ rest queue (by simp))) (.inspection _ idle idle)))
  · exact .source (.pulse (Part.parts (.inspection _ idle idle)))

/-- After the end of a scan the Inspection Unit is IDLE. -/
theorem State.endScan_idle (cause : UncheckedCause) (sc : Scan) : (s.endScan cause).inspection.work ≠ .scanning sc := by
  unfold State.endScan
  split
  · split <;> simp
  · rename_i h; exact h sc

/-- After a calibration has ended the Inspection Unit is IDLE. -/
theorem State.cutCalibration_idle (c : Calibration) (on : s.inspection.work = .calibrating c) :
    s.cutCalibration.inspection.work = .idle := by
  unfold State.cutCalibration
  simp only [on]
  split
  · unfold State.completePhase State.completeDark State.completeWhite
    dsimp only
    (repeat' split) <;> simp [State.endCalibration]
  · simp [State.endCalibration]

theorem State.scanStart_parts : Parts s s.scanStart := by
  unfold State.scanStart
  split
  · rename_i on
    exact State.judgeScanStart_parts _ (by simp [on])
  · rename_i c on
    exact s.cutCalibration_parts.trans (State.judgeScanStart_parts _ (by simp [s.cutCalibration_idle c on]))
  · exact (Part.scanned _).parts.trans (State.judgeScanStart_parts _ (s.endScan_idle _))

/-! ### The Line Monitor -/

theorem State.reportEdge_parts (n : Nat) (level : Bool) : Parts s (s.reportEdge n level) := by
  unfold State.reportEdge
  split
  · exact s.interlockFall_parts _
  · exact s.clearSpent_parts.trans (State.interlockFall_parts _ _)
  · exact s.autoEvent_parts
  · exact s.interlockFall_parts _
  · exact s.scanStart_parts
  · unfold State.plateClear
    (repeat' split)
    · exact (Part.scanned _).parts
    · exact .refl
    · exact .refl
  · exact .refl

theorem State.markEdge_parts (n : Nat) (level : Bool) : Parts s (s.markEdge n level) := by
  unfold State.markEdge
  dsimp only
  split
  · split
    · exact .input .refl
    · exact .source (.input .refl)
  · exact .refl

theorem State.takeEdge_parts (n : Nat) : Parts s (s.takeEdge n) := by
  unfold State.takeEdge
  dsimp only
  split
  · exact (Part.lines _).parts
  · exact .trans (.trans (.input .refl) (State.reportEdge_parts _ _ _)) (State.markEdge_parts _ _ _)

theorem State.inputEdge_parts (n : Nat) : Parts s (s.inputEdge n) := by
  unfold State.inputEdge
  split
  · exact s.takeEdge_parts n
  · exact .refl

theorem State.takeDueEdges_parts : Parts s s.takeDueEdges :=
  Parts.foldl _ (fun s n => s.inputEdge_parts n) _ s

theorem State.lineTick_parts : Parts s s.lineTick := s.takeDueEdges_parts.tail (.lines _)

theorem State.rawLevelChange_parts (n : Nat) (level : Bool) : Parts s (s.rawLevelChange n level) := by
  unfold State.rawLevelChange
  dsimp only
  have level : Parts s ((s.inputEdge n).setInput n { (s.inputEdge n).input n with raw := level }) :=
    (s.inputEdge_parts n).input
  split
  · exact level.trans (State.takeEdge_parts _ n)
  · exact level

theorem State.takeUndebounced_parts : Parts s s.takeUndebounced := by
  refine Parts.foldl _ (fun u n => ?_) _ s
  split
  · exact u.takeEdge_parts n
  · exact .refl

theorem State.setLines_parts (body : List Byte) : Parts s (s.setLines body).1 := by
  unfold State.setLines
  split
  · dsimp only [done]
    have replaced : Parts s { s.takeDueEdges with lines := s.takeDueEdges.lines.withSettings body } :=
      s.takeDueEdges_parts.tail (.lines _)
    exact replaced.trans (State.takeUndebounced_parts _)
  · exact Parts.refl

end Sys2Proof.Machine
end

section
/-! SUPPORT. The chain of parts of every owner's work, of every frame and of every event, and so of every step. -/

namespace Sys2Proof.Machine

variable (s : State)

/-! ### The decoder and the filler -/

/-- The charges of a list with one item replaced by one charged no more. -/
theorem StripBuffer.charge_set_le (bs : List StripBuffer) (i : Nat) (b b' : StripBuffer) (hb : bs[i]? = some b)
    (hc : b'.charge ≤ b.charge) : ((bs.set i b').map charge).sum ≤ (bs.map charge).sum := by
  induction bs generalizing i with
  | nil => simp at hb
  | cons x xs ih =>
    cases i with
    | zero =>
      simp only [List.getElem?_cons_zero, Option.some.injEq] at hb
      subst hb
      simpa using hc
    | succ i => simpa using ih i (by simpa using hb)

/-- A buffer of the decoder that is not FREE is one of its places. -/
theorem getElem?_of_getD_free {bs : List StripBuffer} {i : Nat} {b : StripBuffer} (h : bs.getD i .free = b)
    (hb : b ≠ .free) : bs[i]? = some b := by
  rw [List.getD_eq_getElem?_getD] at h
  cases hg : bs[i]? with
  | none => rw [hg] at h; exact absurd h.symm hb
  | some x => rw [hg] at h; exact congrArg some h

/-- One buffer changes and keeps its bay, its plate and at most its charge. -/
theorem Part.buffer {i : Nat} {b b' : StripBuffer} {c : StripContext} {order : List Nat} (hb : s.decoder.buffers[i]? = some b)
    (hc : b.context = some c) (hc' : ∀ c', b'.context = some c' → c'.bay = c.bay ∧ c'.key = c.key)
    (charge : b'.charge ≤ b.charge) :
    Part s { s with decoder := { buffers := s.decoder.buffers.set i b', readyOrder := order } } := by
  refine .decoder _ (fun x hx cx hcx => ?_) (StripBuffer.charge_set_le _ i b b' hb charge)
  rcases List.mem_or_eq_of_mem_set hx with hx | rfl
  · exact ⟨x, hx, cx, hcx, rfl, rfl⟩
  · exact ⟨b, List.mem_of_getElem? hb, c, hc, (hc' cx hcx).1.symm, (hc' cx hcx).2.symm⟩

theorem State.proceed_parts {i : Nat} {ctx : StripContext} {block : Block} {lines lines' : List Line} {stage : DecodeStage}
    (k : Nat) (hb : s.decoder.buffers[i]? = some (.building ctx block lines stage)) :
    Parts s (s.proceed i ctx block lines' k) := by
  unfold State.proceed
  split
  · exact Part.parts (.buffer s hb rfl (by rintro _ ⟨⟩; exact ⟨rfl, rfl⟩) le_rfl)
  · rename_i j win _
    exact (Part.screening _).parts.tail (.buffer _ hb rfl (by rintro _ ⟨⟩; exact ⟨rfl, rfl⟩) le_rfl)

theorem State.windowApplied_parts : Parts s s.windowApplied := by
  unfold State.windowApplied
  split
  · exact .refl
  · rename_i c _
    split
    · rename_i ctx block lines k hb
      have idle : Parts s { s with screening := { s.screening with work := none } } := (Part.screening _).parts
      exact idle.trans (State.proceed_parts _ (k + 1) (getElem?_of_getD_free hb (by simp)))
    · exact .refl

theorem State.decodeEnd_parts : Parts s s.decodeEnd := by
  unfold State.decodeEnd
  split
  · exact .refl
  · rename_i i _
    split
    · rename_i ctx block lines cause hb
      refine (Part.buffer s (getElem?_of_getD_free hb (by simp)) rfl ?_ ?_).parts
      · split <;> (rintro _ ⟨⟩; exact ⟨rfl, rfl⟩)
      · split <;> exact Nat.zero_le _
    · exact .refl

theorem State.stripWriteStart_parts : Parts s s.stripWriteStart := by
  unfold State.stripWriteStart
  split
  · exact .refl
  · split
    · exact .refl
    · split
      · rename_i i rest _ ctx lines through hb
        split
        · exact .refl
        · refine .store (Part.parts ?_)
          exact .buffer s (getElem?_of_getD_free hb (by simp)) rfl (by rintro _ ⟨⟩; exact ⟨rfl, rfl⟩) le_rfl
      · exact .refl

theorem State.completeWrite_parts (takeFirst : Bool) {i : Nat} {ctx : StripContext} {lines : List Line} {served : Nat}
    (on : s.decoder.buffers[i]? = some (.writing ctx lines served)) : Parts s (s.completeWrite takeFirst i ctx) := by
  have recorded : Parts s (State.setBuffer i .free (State.setSource ctx.bay
      (s.modPlate ctx.bay (Plate.modStrip ctx.strip fun r => r.written ctx)))) :=
    .trans (Part.parts (.written i ctx lines served on)) (.source .refl)
  unfold State.completeWrite
  dsimp only
  refine recorded.trans ?_
  split
  · exact (Part.parts .taken).tail (.heldJudged _)
  · exact (Part.parts (.heldJudged _)).tail .taken

theorem State.stripWriteComplete_parts (takeFirst : Bool) : Parts s (s.stripWriteComplete takeFirst) := by
  unfold State.stripWriteComplete
  split
  · exact .refl
  · split
    · rename_i ctx lines served hb
      split
      · exact s.completeWrite_parts takeFirst (getElem?_of_getD_free hb (by simp))
      · exact .refl
    · exact .refl

theorem State.hatchStripComplete_parts : Parts s s.hatchStripComplete := by
  unfold State.hatchStripComplete
  split
  · rename_i f on
    split
    · exact (Part.hatched f on).parts
    · exact .refl
  · exact .refl

/-! ### The store -/

theorem State.servedPrefetch_parts (words : List StoreWord) : Parts s (s.servedPrefetch words) := by
  unfold State.servedPrefetch
  split
  · exact .refl
  · split
    · dsimp only
      split
      · exact .store (.exposure .refl Iff.rfl rfl)
      · exact .exposure .refl Iff.rfl rfl
    · exact .refl

theorem State.servedInspect_parts (words : List StoreWord) : Parts s (s.servedInspect words) := by
  unfold State.servedInspect
  split
  · rename_i sc on
    split
    · rename_i y got _
      dsimp only
      have more : Parts s (s.setWork (.scanning { sc with expected := .fetching y (got ++ words) })) :=
        Part.parts (.scan sc _ on rfl rfl (fun h => h) le_rfl)
      split
      · exact more.store
      · exact more
    · exact .refl
  · exact .refl

theorem State.servedDecoder_parts : Parts s s.servedDecoder := by
  unfold State.servedDecoder
  split
  · exact .refl
  · rename_i i _
    split
    · rename_i ctx lines served hb
      have more : Parts s (s.setBuffer i (.writing ctx lines (served + 1))) :=
        Part.parts
          (.buffer s (getElem?_of_getD_free hb (by simp)) rfl (by rintro _ ⟨⟩; exact ⟨rfl, rfl⟩) le_rfl)
      dsimp only
      split
      · exact more.store
      · exact more
    · exact .refl

theorem State.askFill_parts : Parts s s.askFill := by
  unfold State.askFill
  split
  · rename_i f on
    refine .store (Part.parts ?_)
    exact .fill f _ on rfl rfl
  · exact .refl

theorem State.servedFiller_parts : Parts s s.servedFiller := by
  unfold State.servedFiller
  split
  · exact .refl
  · rename_i f on
    have more : Parts s { s with filler := { s.filler with fill := some { f with served := f.served + 1 } } } :=
      Part.parts (.fill f _ on rfl rfl)
    dsimp only
    split
    · exact more.trans (State.askFill_parts _)
    · exact more

theorem State.completeBurst_parts (grantFirst : Bool) (asker : Asker) (b : Burst) (live : Bool) :
    Parts s (s.completeBurst grantFirst asker b live) := by
  unfold State.completeBurst
  dsimp only
  refine .store ?_
  have served : ∀ u : State, Parts u (u.served asker (s.store.burstWords b)) := fun u => by
    cases asker with
    | prefetch => exact u.servedPrefetch_parts _
    | inspect => exact u.servedInspect_parts _
    | decoder => exact u.servedDecoder_parts
    | filler => exact u.servedFiller_parts
  have start : Parts s (if grantFirst = true then (s.onStore (Store.afterBurst b)).onStore Store.grant
      else s.onStore (Store.afterBurst b)) := by
    split
    · exact .store (.store .refl)
    · exact .store .refl
  split
  · exact start.trans (served _)
  · exact start

/-! ### Resets and settings -/

theorem State.answerPlateWork_parts (approvals : List Nat) (calibration : Option Nat) :
    Parts s (s.answerPlateWork approvals calibration) := by
  refine Parts.foldl _ (fun u e => ?_) _ s
  split
  · exact (Part.answer _ _).parts
  · split
    · exact (Part.answer _ _).parts
    · exact .refl

theorem State.resetPlates_parts : Parts s s.resetPlates := by
  unfold State.resetPlates
  extract_lets u cleared cleared'
  have phase : Parts s u := by
    simp only [u]
    split
    · rename_i c on
      split
      · exact s.completePhase_parts c on
      · exact .refl
    · exact .refl
  have work : Parts u cleared := ((Part.parts .cleared).trans (State.answerPlateWork_parts _ _ _)).source
  have work' : Parts u cleared' := by
    simp only [cleared']
    split
    · exact work.source
    · exact work
  exact phase.trans (.source (work'.tail .announced))

/-! ### Owners -/

/-- A request that names a plate finds it in its bay (R4). -/
theorem State.namedPlate_ok {bay : Nat} {key : PlateKey} {p : Plate} (h : s.namedPlate bay key = .ok p) :
    s.plate? bay = some p ∧ p.key = key := by
  unfold State.namedPlate at h
  split at h
  · cases h
  · split at h
    · rename_i hp
      split at h
      · rename_i hk; cases h; exact ⟨hp, hk⟩
      · cases h
    · cases h

/-- What the owner does is a chain of parts, for every entry and state. -/
def Owner.Chained (owner : Owner) : Prop := ∀ (slot : Option Nat) (s : State), Parts s (owner slot s).1

theorem fixedBody_chained (n : Nat) (body : List Byte) {owner : Owner} (h : owner.Chained) :
    (fixedBody n body owner).Chained := by
  intro slot s
  unfold fixedBody
  split
  · exact h slot s
  · exact .refl

theorem plateRequest_chained (body : List Byte) {rule : Nat → Plate → Owner}
    (h : ∀ n p slot s, s.plate? n = some p → Parts s (rule n p slot s).1) : (plateRequest body rule).Chained := by
  intro slot s
  unfold plateRequest
  split
  · exact .refl
  · rename_i p hp
    exact h _ p slot s (s.namedPlate_ok hp).1

theorem ownConfigure_chained (body : List Byte) : (ownConfigure body).Chained := by
  refine fixedBody_chained 9 body fun slot s => ?_
  unfold State.configure
  split
  · exact .refl
  · rename_i c _
    split
    · rename_i rest; exact (Part.configured c rest).parts
    · exact .refl

theorem ownReset_chained (body : List Byte) : (ownReset body).Chained := by
  refine fixedBody_chained 1 body fun slot s => ?_
  unfold resetRule
  split
  · split
    · exact (Part.waits _).parts
    · exact (Part.fullReset _ _).parts
  · exact s.resetPlates_parts
  · exact .refl

theorem ownOpenPlate_chained (body : List Byte) : (ownOpenPlate body).Chained :=
  fixedBody_chained 12 body fun _ _ => (Part.opened _).parts

theorem ownStripBlock_chained (body : List Byte) : (ownStripBlock body).Chained := by
  intro slot s
  unfold ownStripBlock State.stripBlock
  split
  · exact .refl
  · rename_i b _
    split
    · exact (Part.foreign b).parts
    · unfold State.placeBlock
      split
      · exact .refl
      · split
        · unfold State.admitBlock
          split
          · exact .refl
          · split
            · exact .refl
            · rename_i room
              exact (Part.intake b (by simpa using room)).parts
        · exact .refl

theorem ownApprovePlate_chained (body : List Byte) : (ownApprovePlate body).Chained := by
  refine fixedBody_chained 6 body (plateRequest_chained body fun n p slot s resident => ?_)
  unfold approveRule
  split
  · exact .refl
  · rename_i filling
    have filling : p.state = .filling := not_not.1 filling
    split
    · exact .refl
    · rename_i free
      split
      · exact (Part.held n p slot resident filling).parts
      · exact (Part.judged n p slot resident filling (by simpa using free)).parts

theorem ownReleasePlate_chained (body : List Byte) : (ownReleasePlate body).Chained := by
  refine fixedBody_chained 6 body (plateRequest_chained body fun n p slot s resident => ?_)
  unfold releaseRule
  split
  · rename_i h; exact (Part.freed n p resident (by simp [h])).parts
  · rename_i h; exact (Part.freed n p resident (by simp [h])).parts
  · rename_i h; exact (Part.freed n p resident (by simp [h])).parts
  · rename_i h; exact (Part.freed n p resident (by simp [h])).parts
  all_goals exact .refl

theorem ownPriorityPlate_chained (body : List Byte) : (ownPriorityPlate body).Chained := by
  refine fixedBody_chained 6 body (plateRequest_chained body fun n p slot s resident => ?_)
  unfold priorityRule
  split
  · rename_i queued; exact (Part.priority n p resident queued).parts
  · exact .refl

theorem ownReexposePlate_chained (body : List Byte) : (ownReexposePlate body).Chained := by
  refine fixedBody_chained 6 body (plateRequest_chained body fun n p slot s resident => ?_)
  unfold reexposeRule
  split
  · exact .refl
  · rename_i held
    split
    · exact .refl
    · rename_i newest
      exact (Part.reexposed n p resident (not_not.1 held) (by simpa using newest)).parts

theorem ownReadStrips_chained (body : List Byte) : (ownReadStrips body).Chained := by
  refine fixedBody_chained 10 body (plateRequest_chained body fun n p slot s _ => ?_)
  unfold readStripsRule
  split <;> exact .refl

theorem ownReadDefects_chained (body : List Byte) : (ownReadDefects body).Chained := by
  refine fixedBody_chained 6 body (plateRequest_chained body fun n p slot s _ => ?_)
  unfold readDefectsRule
  split <;> exact .refl

theorem ownLoadScreen_chained (body : List Byte) : (ownLoadScreen body).Chained := by
  intro slot s
  unfold ownLoadScreen State.loadScreen
  split
  · exact .refl
  · split
    · exact .refl
    · exact (Part.screening _).parts

theorem ownLoadCurve_chained (body : List Byte) : (ownLoadCurve body).Chained := by
  intro slot s
  unfold ownLoadCurve State.loadCurve
  split
  · exact .refl
  · split
    · exact .refl
    · exact (Part.screening _).parts

theorem ownSetSkew_chained (body : List Byte) : (ownSetSkew body).Chained := by
  intro slot s
  unfold ownSetSkew State.setSkew
  split
  · exact .refl
  · split
    · exact .refl
    · exact .source (.exposure .refl Iff.rfl rfl)

theorem ownStartExposure_chained (body : List Byte) : (ownStartExposure body).Chained := by
  refine fixedBody_chained 0 body fun slot s => ?_
  unfold State.startExposure
  split
  · exact .refl
  · rename_i allowed
    split
    · have clear : Parts s (s.onExposure fun e => { e with autoHold := false }) := .exposure .refl Iff.rfl rfl
      exact clear.tail (.started allowed)
    · exact .refl

theorem ownAbortExposure_chained (body : List Byte) : (ownAbortExposure body).Chained := by
  refine fixedBody_chained 6 body fun slot s => ?_
  unfold State.abortExposure
  split
  · exact .refl
  · split
    · rename_i h
      have hold : Parts s (s.onExposure fun e => { e with autoHold := true }) := .exposure .refl Iff.rfl rfl
      exact hold.tail (.aborted _ h.1)
    · exact .refl

theorem ownCalibrateScanner_chained (body : List Byte) : (ownCalibrateScanner body).Chained := by
  refine fixedBody_chained 1 body fun slot s => ?_
  unfold calibrateRule
  split
  · exact .refl
  · split
    · exact .refl
    · rename_i free
      have idle : s.inspection.work = .idle := by
        by_contra h; exact free (.inl h)
      exact .source (Part.parts (.inspection _ (by simp [idle]) (by simp)))

theorem ownSetInspection_chained (body : List Byte) : (ownSetInspection body).Chained := by
  intro slot s
  unfold ownSetInspection State.setInspection
  split
  · exact .refl
  · exact (Part.settings _).parts

theorem ownClearLineEvents_chained (body : List Byte) : (ownClearLineEvents body).Chained :=
  fixedBody_chained 1 body fun _ _ => (Part.lines _).parts

/-- The work of the owner of any request is a chain of parts (R171). -/
theorem ownerOf_chained (kind : Byte) (body : List Byte) : (ownerOf kind body).Chained := by
  unfold ownerOf
  split
  · exact ownConfigure_chained body
  · exact fixedBody_chained 0 body fun _ _ => .refl
  · exact ownReset_chained body
  · exact ownOpenPlate_chained body
  · exact ownStripBlock_chained body
  · exact ownApprovePlate_chained body
  · exact ownReleasePlate_chained body
  · exact ownPriorityPlate_chained body
  · exact ownReexposePlate_chained body
  · exact fixedBody_chained 6 body (plateRequest_chained body fun _ _ _ _ _ => .refl)
  · exact ownReadStrips_chained body
  · exact ownReadDefects_chained body
  · exact ownLoadScreen_chained body
  · exact ownLoadCurve_chained body
  · exact ownSetSkew_chained body
  · exact ownStartExposure_chained body
  · exact ownAbortExposure_chained body
  · exact ownCalibrateScanner_chained body
  · exact ownSetInspection_chained body
  · exact fun _ s => s.setLines_parts body
  · exact fixedBody_chained 0 body fun _ _ => .refl
  · exact ownClearLineEvents_chained body
  · exact fun _ _ => .refl

/-! ### Frames -/

theorem State.request_parts (kind tag : Byte) {owner : Owner} (h : owner.Chained) : Parts s (s.request kind tag owner) := by
  unfold State.request
  split
  · rename_i room
    have work := (Part.parts (.entry tag kind room)).trans (h (some s.link.freeSlot) _)
    unfold deliver
    split
    · rename_i s' r hs'
      rw [hs'] at work
      exact work.tail (.answer _ _)
    · rename_i s' hs'
      rwa [hs'] at work
  · exact (Part.refused kind tag).parts

theorem State.takeFrame_parts (addr kind tag : Byte) {owner : Owner} (h : owner.Chained) :
    Parts s (s.takeFrame addr kind tag owner) := by
  unfold State.takeFrame
  split
  · exact s.request_parts kind tag h
  · split
    · exact h none s
    · exact .refl

theorem State.hunt_parts : Parts s s.hunt := (Part.receiver _).parts

theorem State.judgeFrame_parts (addr kind tag : Byte) (body : List Byte) (check : BitVec 16) :
    Parts s (s.judgeFrame addr kind tag body check) := by
  unfold State.judgeFrame
  split
  · exact s.hunt_parts
  · split
    · exact s.hunt_parts.trans (State.takeFrame_parts _ addr kind tag (ownerOf_chained kind body))
    · exact s.hunt_parts.trans (.source (Part.parts (.discard _ _)))

theorem State.takeCharacter_parts (c : Byte) : Parts s (s.takeCharacter c) := by
  unfold State.takeCharacter
  split
  · split
    · exact (Part.receiver _).parts
    · exact .refl
  · unfold State.joinCharacter
    split
    · exact s.judgeFrame_parts _ _ _ _ _
    · exact (Part.receiver _).parts

theorem State.takeCharacters_parts (chars : List Byte) : Parts s (s.takeCharacters chars) :=
  Parts.foldl _ (fun u c => u.takeCharacter_parts c) chars s

theorem State.endFrame_parts (addr kind tag : Byte) (body : List Byte) (check : BitVec 16) :
    Parts s (s.endFrame addr kind tag body check) := by
  unfold State.endFrame
  dsimp only
  split
  · exact s.judgeFrame_parts addr kind tag body check
  · exact s.takeCharacters_parts _

theorem State.receive_parts (addr kind tag : Byte) (body : List Byte) {owner : Owner} (h : owner.Chained) :
    Parts s (s.receive addr kind tag body owner) := by
  unfold State.receive
  dsimp only
  split
  · split
    · exact s.hunt_parts
    · exact s.hunt_parts.trans (State.takeFrame_parts _ addr kind tag h)
  · exact s.takeCharacters_parts _

theorem State.gap_parts : Parts s s.gap := by
  unfold State.gap
  split
  · exact .refl
  · exact .source ((Part.parts (.receiver .hunting)).tail (.discard _ _))

theorem State.answerSent_parts : Parts s s.answerSent := by
  unfold State.answerSent
  split
  · rename_i a sending
    split
    · exact (Part.fullReset _ _).parts
    · exact (Part.parts (.sent a sending)).tail .transmit
  · exact .refl

theorem State.noticeReported_parts (src : Nat) (due : Bool) : Parts s (s.noticeReported src due) := by
  unfold State.noticeReported
  split
  · rename_i h
    obtain ⟨p, resident, mark⟩ := (Option.any_eq_true ..).1 h.2
    exact (Part.freed src p resident (by simp [mark])).parts
  · exact .refl

theorem State.noticeSent_parts : Parts s s.noticeSent := by
  unfold State.noticeSent
  split
  · rename_i src body due sending
    exact .tail (.trans (Part.parts (.noticed src body due sending)) (State.noticeReported_parts _ src due)) .transmit
  · exact .refl

/-! ### Steps -/

/-- The meaning of a command, the transmitter's choice made first. -/
theorem run_parts {f : State → State} (h : ∀ u, Parts u (f u)) {s t : State} (ht : run f s = .next t) : Parts s t := by
  cases ht
  exact (Part.parts .transmit).trans (h _)

/-- Every command that goes on is a chain of parts. -/
theorem exec_parts (c : Instr) {s t : State} (h : exec c s = .next t) : Parts s t := by
  have frame : ∀ (addr kind tag : Byte) (body : List Byte),
      run (State.receive addr kind tag body (ownerOf kind body)) s = .next t → Parts s t :=
    fun addr kind tag body => run_parts fun u => u.receive_parts addr kind tag body (ownerOf_chained kind body)
  cases c with
  | configure addr tag body => exact frame addr 0x01 tag body h
  | readStatus addr tag body => exact frame addr 0x02 tag body h
  | resetFull addr tag body => exact frame addr 0x03 tag body h
  | resetPlates addr tag body => exact frame addr 0x03 tag body h
  | openPlate addr tag body => exact frame addr 0x04 tag body h
  | stripBlock addr tag body => exact frame addr 0x05 tag body h
  | approvePlate addr tag body => exact frame addr 0x06 tag body h
  | releasePlate addr tag body => exact frame addr 0x07 tag body h
  | priorityPlate addr tag body => exact frame addr 0x08 tag body h
  | reexposePlate addr tag body => exact frame addr 0x09 tag body h
  | readPlate addr tag body => exact frame addr 0x0A tag body h
  | readStrips addr tag body => exact frame addr 0x0B tag body h
  | readDefects addr tag body => exact frame addr 0x0C tag body h
  | loadScreen addr tag body => exact frame addr 0x0D tag body h
  | loadCurve addr tag body => exact frame addr 0x0E tag body h
  | setSkew addr tag body => exact frame addr 0x0F tag body h
  | startExposure addr tag body => exact frame addr 0x10 tag body h
  | abortExposure addr tag body => exact frame addr 0x11 tag body h
  | calibrateScanner addr tag body => exact frame addr 0x12 tag body h
  | setInspection addr tag body => exact frame addr 0x13 tag body h
  | setLines addr tag body => exact frame addr 0x14 tag body h
  | readLines addr tag body => exact frame addr 0x15 tag body h
  | clearLineEvents addr tag body => exact frame addr 0x16 tag body h
  | unknownKind addr kind tag body => exact frame addr kind tag body h
  | ignoredFrame addr kind tag body => exact frame addr kind tag body h
  | frameCheckFailed addr kind tag body check => exact run_parts (fun u => u.endFrame_parts addr kind tag body check) h
  | frameGapTimeout => exact run_parts State.gap_parts h
  | answerSent => exact run_parts State.answerSent_parts h
  | noticeSent => exact run_parts State.noticeSent_parts h
  | hardwareReset straps => exact run_parts (fun _ => (Part.fullReset _ _).parts) h
  | lineTick => exact run_parts State.lineTick_parts h
  | rawLevelChange line level => exact run_parts (fun u => u.rawLevelChange_parts line level) h
  | inputEdge line => exact run_parts (fun u => u.inputEdge_parts line) h
  | diverterPulseEnd => exact run_parts (fun _ => (Part.lines _).parts) h
  | refreshTimer => exact run_parts (fun _ => .store .refl) h
  | burstComplete grantFirst =>
    change execBurstComplete grantFirst s = .next t at h
    unfold execBurstComplete at h
    split at h
    · split at h
      · exact run_parts (fun u => u.completeBurst_parts grantFirst _ _ _) h
      · cases h
    · exact run_parts (fun _ => .refl) h
  | refreshComplete => exact run_parts (fun _ => .store .refl) h
  | blockTake => exact run_parts (fun _ => (Part.parts .taken)) h
  | decodeEnd => exact run_parts State.decodeEnd_parts h
  | windowApplied => exact run_parts State.windowApplied_parts h
  | stripWriteStart => exact run_parts State.stripWriteStart_parts h
  | stripWriteComplete takeFirst => exact run_parts (fun u => u.stripWriteComplete_parts takeFirst) h
  | hatchStripComplete => exact run_parts State.hatchStripComplete_parts h
  | passFetchComplete => exact run_parts State.passFetchComplete_parts h
  | drumIndex => exact run_parts State.drumIndex_parts h
  | passClose => exact run_parts State.passClose_parts h
  | scanLine samples => exact run_parts (fun u => u.scanLine_parts samples) h
  | darkCalibrationDone => exact run_parts State.darkCalibrationDone_parts h
  | whiteCalibrationDone => exact run_parts State.whiteCalibrationDone_parts h
  | expectedLineFull => exact run_parts State.expectedLineFull_parts h
  | dotClockPulse => exact run_parts State.dotClock_parts h
  | startCharacter character => exact run_parts (fun u => u.takeCharacter_parts character) h

/-- Every step that goes on is a chain of parts. -/
theorem step_parts {s t : State} (h : step s = .next t) : Parts s t := by
  unfold step at h
  split at h
  · cases h; exact .refl
  · exact (Part.parts (.pending _)).trans (exec_parts _ h)

/-- A condition that every part keeps is kept by every step. -/
theorem kept_of_parts {P : State → Prop} (hP : ∀ s t, Part s t → P s → P t) : Kept P :=
  fun _ _ hs h => (step_parts h).keep hP hs

end Sys2Proof.Machine
end

section
/-! SUPPORT. The sizes of the tables, queues and lists, each kept by every part of a step (R1, R17, R33, R36, R144, R147,
R171 to R173). -/

namespace Sys2Proof.Machine

variable (s : State)

/-! ### What approvals, OPEN PLATE and blocks leave alone -/

@[simp] theorem State.judgeApproval_settings (n : Nat) (entry : Option Nat) :
    (s.judgeApproval n entry).1.settings = s.settings := by
  rcases s.judgeApproval_cases n entry with ⟨r, h⟩ | ⟨p, -, h⟩ | ⟨p, -, -, h⟩ <;> rw [h] <;> simp
@[simp] theorem State.judgeApproval_inspectionQueue (n : Nat) (entry : Option Nat) :
    (s.judgeApproval n entry).1.inspectionQueue = s.inspectionQueue := by
  rcases s.judgeApproval_cases n entry with ⟨r, h⟩ | ⟨p, -, h⟩ | ⟨p, -, -, h⟩ <;> rw [h] <;> simp
@[simp] theorem State.judgeApproval_intake (n : Nat) (entry : Option Nat) :
    (s.judgeApproval n entry).1.intake = s.intake := by
  rcases s.judgeApproval_cases n entry with ⟨r, h⟩ | ⟨p, -, h⟩ | ⟨p, -, -, h⟩ <;> rw [h] <;> simp
@[simp] theorem State.judgeApproval_inspection (n : Nat) (entry : Option Nat) :
    (s.judgeApproval n entry).1.inspection = s.inspection := by
  rcases s.judgeApproval_cases n entry with ⟨r, h⟩ | ⟨p, -, h⟩ | ⟨p, -, -, h⟩ <;> rw [h] <;> simp

/-- A judgement of a held approval is a judgement of the state with the mark cleared, and perhaps an answer. -/
theorem State.judgeHeld_judged (n : Nat) :
    s.judgeHeld n = s ∨ ∃ p k r, s.plate? n = some p ∧ p.approvalHeld = true ∧
      s.judgeHeld n = (State.judgeApproval n p.approveEntry
        (s.modPlate n fun p => { p with approvalHeld := false, approveEntry := none })).1.answer? k r := by
  rcases s.judgeHeld_cases n with h | ⟨p, s', r, hp, held, hj, ⟨-, h⟩ | ⟨r', -, h⟩⟩
  · exact .inl h
  · exact .inr ⟨p, none, Reply.bare .done, hp, held, by rw [h, hj]; rfl⟩
  · exact .inr ⟨p, _, r', hp, held, by rw [h, hj]⟩

@[simp] theorem State.judgeHeld_settings (n : Nat) : (s.judgeHeld n).settings = s.settings := by
  rcases s.judgeHeld_judged n with h | ⟨p, k, r, -, -, h⟩ <;> rw [h]; simp
@[simp] theorem State.judgeHeld_inspectionQueue (n : Nat) : (s.judgeHeld n).inspectionQueue = s.inspectionQueue := by
  rcases s.judgeHeld_judged n with h | ⟨p, k, r, -, -, h⟩ <;> rw [h]; simp
@[simp] theorem State.judgeHeld_intake (n : Nat) : (s.judgeHeld n).intake = s.intake := by
  rcases s.judgeHeld_judged n with h | ⟨p, k, r, -, -, h⟩ <;> rw [h]; simp
@[simp] theorem State.judgeHeld_inspection (n : Nat) : (s.judgeHeld n).inspection = s.inspection := by
  rcases s.judgeHeld_judged n with h | ⟨p, k, r, -, -, h⟩ <;> rw [h]; simp

/-- A refusal touches the Link Controller alone (R172). -/
theorem State.refuseBusy_frame (kind tag : Byte) :
    s.refuseBusy kind tag = { s with link := (s.refuseBusy kind tag).link } := by
  unfold State.refuseBusy
  split <;> rfl

@[simp] theorem State.refuseBusy_settings (kind tag : Byte) : (s.refuseBusy kind tag).settings = s.settings := by
  rw [State.refuseBusy_frame]
@[simp] theorem State.refuseBusy_bays (kind tag : Byte) : (s.refuseBusy kind tag).bays = s.bays := by
  rw [State.refuseBusy_frame]
@[simp] theorem State.refuseBusy_approvalQueue (kind tag : Byte) : (s.refuseBusy kind tag).approvalQueue = s.approvalQueue := by
  rw [State.refuseBusy_frame]
@[simp] theorem State.refuseBusy_inspectionQueue (kind tag : Byte) : (s.refuseBusy kind tag).inspectionQueue = s.inspectionQueue := by
  rw [State.refuseBusy_frame]
@[simp] theorem State.refuseBusy_intake (kind tag : Byte) : (s.refuseBusy kind tag).intake = s.intake := by
  rw [State.refuseBusy_frame]
@[simp] theorem State.refuseBusy_decoder (kind tag : Byte) : (s.refuseBusy kind tag).decoder = s.decoder := by
  rw [State.refuseBusy_frame]
@[simp] theorem State.refuseBusy_filler (kind tag : Byte) : (s.refuseBusy kind tag).filler = s.filler := by
  rw [State.refuseBusy_frame]
@[simp] theorem State.refuseBusy_exposure (kind tag : Byte) : (s.refuseBusy kind tag).exposure = s.exposure := by
  rw [State.refuseBusy_frame]
@[simp] theorem State.refuseBusy_inspection (kind tag : Byte) : (s.refuseBusy kind tag).inspection = s.inspection := by
  rw [State.refuseBusy_frame]

/-- Bays freed one after another. -/
def State.freeBays (ns : List Nat) (s : State) : State := ns.foldl (fun s n => s.freeBay n) s

/-- All that OPEN PLATE can do: nothing, or free the predecessors it withdraws and fill a FREE bay (R5 to R7). -/
theorem State.openPlate_cases (f : OpenFields) :
    (∃ r, s.openPlate f = (s, r)) ∨
    ∃ n, (s.findPlate f.key).isSome = false ∧ s.superseded f.key = false ∧
      (s.freeBays (s.withdrawals f.key)).bays.findIdx? Option.isNone = some n ∧
      s.openPlate f = (s.freeBays (s.withdrawals f.key)).fillBay n (f.plate (s.hasPredecessor f.key)) := by
  unfold State.openPlate refuse
  split
  · exact .inl ⟨_, rfl⟩
  · split
    · exact .inl ⟨_, rfl⟩
    · split
      · exact .inl ⟨_, rfl⟩
      · split
        · exact .inl ⟨_, rfl⟩
        · rename_i fresh newest
          unfold State.chooseBay
          dsimp only
          split
          · rename_i n free
            exact .inr ⟨n, by simpa using fresh, by simpa using newest, free, rfl⟩
          · exact .inl ⟨_, rfl⟩

@[simp] theorem State.freeBays_nil : s.freeBays [] = s := rfl
@[simp] theorem State.freeBays_cons (n : Nat) (ns : List Nat) : s.freeBays (n :: ns) = (s.freeBay n).freeBays ns := rfl

@[simp] theorem State.freeBays_settings (ns : List Nat) : (s.freeBays ns).settings = s.settings := by
  induction ns generalizing s with
  | nil => rfl
  | cons n ns ih => simp [ih]
@[simp] theorem State.freeBays_inspectionQueue (ns : List Nat) : (s.freeBays ns).inspectionQueue = s.inspectionQueue := by
  induction ns generalizing s with
  | nil => rfl
  | cons n ns ih => simp [ih]
@[simp] theorem State.freeBays_intake (ns : List Nat) : (s.freeBays ns).intake = s.intake := by
  induction ns generalizing s with
  | nil => rfl
  | cons n ns ih => simp [ih]
@[simp] theorem State.freeBays_exposure (ns : List Nat) : (s.freeBays ns).exposure = s.exposure := by
  induction ns generalizing s with
  | nil => rfl
  | cons n ns ih => simp [ih]
@[simp] theorem State.freeBays_inspection (ns : List Nat) : (s.freeBays ns).inspection = s.inspection := by
  induction ns generalizing s with
  | nil => rfl
  | cons n ns ih => simp [ih]
@[simp] theorem State.freeBays_lines (ns : List Nat) : (s.freeBays ns).lines = s.lines := by
  induction ns generalizing s with
  | nil => rfl
  | cons n ns ih => simp [ih]
@[simp] theorem State.freeBays_pending (ns : List Nat) : (s.freeBays ns).pending = s.pending := by
  induction ns generalizing s with
  | nil => rfl
  | cons n ns ih => simp [ih]
@[simp] theorem State.freeBays_tables (ns : List Nat) : (s.freeBays ns).link.tables = s.link.tables := by
  induction ns generalizing s with
  | nil => rfl
  | cons n ns ih => simp [ih]

@[simp] theorem State.openPlate_settings (f : OpenFields) : (s.openPlate f).1.settings = s.settings := by
  rcases s.openPlate_cases f with ⟨r, h⟩ | ⟨n, -, -, -, h⟩ <;> rw [h]; simp [State.fillBay]
@[simp] theorem State.openPlate_inspectionQueue (f : OpenFields) :
    (s.openPlate f).1.inspectionQueue = s.inspectionQueue := by
  rcases s.openPlate_cases f with ⟨r, h⟩ | ⟨n, -, -, -, h⟩ <;> rw [h]; simp [State.fillBay]
@[simp] theorem State.openPlate_intake (f : OpenFields) : (s.openPlate f).1.intake = s.intake := by
  rcases s.openPlate_cases f with ⟨r, h⟩ | ⟨n, -, -, -, h⟩ <;> rw [h]; simp [State.fillBay]
@[simp] theorem State.openPlate_exposure (f : OpenFields) : (s.openPlate f).1.exposure = s.exposure := by
  rcases s.openPlate_cases f with ⟨r, h⟩ | ⟨n, -, -, -, h⟩ <;> rw [h]; simp [State.fillBay]
@[simp] theorem State.openPlate_inspection (f : OpenFields) : (s.openPlate f).1.inspection = s.inspection := by
  rcases s.openPlate_cases f with ⟨r, h⟩ | ⟨n, -, -, -, h⟩ <;> rw [h]; simp [State.fillBay]
@[simp] theorem State.openPlate_tables (f : OpenFields) : (s.openPlate f).1.link.tables = s.link.tables := by
  rcases s.openPlate_cases f with ⟨r, h⟩ | ⟨n, -, -, -, h⟩ <;> rw [h]
  simp only [State.fillBay, State.setSource_tables, State.setBay_link, State.freeBays_tables]

/-- A block refused NOT FOR ZONE changes at most a count of one plate (R30). -/
theorem State.countForeign_cases (b : Block) :
    s.countForeign b = s ∨
    ∃ n, s.countForeign b = s.modPlate n fun p => { p with zoneIgnored := satInc Config.countHold p.zoneIgnored } := by
  unfold State.countForeign
  split
  · exact .inr ⟨_, rfl⟩
  · exact .inl rfl

/-- A change of settings touches at most the settings, the bay table and the pending set. -/
theorem State.configured_frame (c : Settings) :
    ∃ bays link, s.configured c = { s with settings := c, bays, link } ∧ link.tables = s.link.tables ∧
      (bays = s.bays ∧ c.bayMode = s.settings.bayMode ∨ bays = List.replicate c.bayMode.count none) := by
  unfold State.configured
  split
  · rename_i h; exact ⟨_, _, rfl, rfl, .inl ⟨rfl, h⟩⟩
  · split
    · exact ⟨_, _, rfl, rfl, .inr rfl⟩
    · exact ⟨_, _, rfl, rfl, .inr rfl⟩

/-! ### The link's tables -/

theorem Link.tablesFit_reset (kind : ResetKind) (straps : BitVec 2) : (Link.reset kind straps).TablesFit := by
  simp [Link.TablesFit, Link.reset]

/-- An entry taken with room has a slot of its own (R171). -/
theorem Link.tablesFit_entry {l : Link} (tag kind : Byte) (room : l.outstanding.length < Config.outstandingMax)
    (h : l.TablesFit) : ({ l with outstanding := l.outstanding ++ [{ slot := l.freeSlot, tag, kind }] } : Link).TablesFit := by
  obtain ⟨-, busy, slots, waiting⟩ := h
  refine ⟨?_, busy, ?_, waiting⟩
  · simp only [List.length_append, List.length_singleton]
    unfold Config.outstandingMax at room; omega
  · rw [List.map_append, List.nodup_append]
    refine ⟨slots, by simp, ?_⟩
    intro a ha b hb
    obtain ⟨e, he, rfl⟩ := List.mem_map.1 ha
    simp only [List.map_cons, List.map_nil, List.mem_singleton] at hb
    exact hb ▸ (l.freeSlot_spec room).2 e he

/-- A refusal with room takes a place of the busy list for its answer (R172). -/
theorem State.tablesFit_refuseBusy (kind tag : Byte) (h : s.link.TablesFit) : (s.refuseBusy kind tag).link.TablesFit := by
  unfold State.refuseBusy
  split
  · rename_i room
    obtain ⟨size, busy, slots, waiting⟩ := h
    refine ⟨size, ?_, slots, ?_⟩
    · simp only [State.setSource_link, List.length_append, List.length_singleton]
      unfold Config.busyMax at room; omega
    · simp only [State.setSource_link, List.countP_append, List.length_append, List.length_singleton]
      simp only [List.countP_cons, List.countP_nil, Option.isNone_none, if_true]
      omega
  · exact h

/-- An answer sent frees its entry, or the busy list's oldest place (R172, R173). -/
theorem Link.tablesFit_answered {l : Link} {a : Answer} (sending : l.tx = .answer a) (h : l.TablesFit) :
    (l.answered a).TablesFit := by
  obtain ⟨size, busy, slots, waiting⟩ := h
  unfold Link.answered
  cases hs : a.slot with
  | some k =>
    simp only [sending, hs, Option.isNone_some] at waiting
    exact ⟨(List.length_filter_le _ _).trans size, busy, slots.sublist ((List.filter_sublist).map _), waiting⟩
  | none =>
    simp only [sending, hs, Option.isNone_none, if_true] at waiting
    refine ⟨size, ?_, slots, ?_⟩
    · simp only [List.length_drop]; omega
    · simp only [List.length_drop]; omega

theorem Part.keeps_tablesFit {s t : State} (h : Part s t) (fit : s.link.TablesFit) : t.link.TablesFit := by
  have same : t.link.tables = s.link.tables → t.link.TablesFit := fun h => (Link.tablesFit_congr h).2 fit
  cases h with
  | entry tag kind room => exact Link.tablesFit_entry tag kind room fit
  | refused kind tag => exact s.tablesFit_refuseBusy kind tag fit
  | sent a sending => exact Link.tablesFit_answered sending fit
  | noticed src body due sending =>
    obtain ⟨size, busy, slots, waiting⟩ := fit
    rw [sending] at waiting
    exact ⟨size, busy, slots, waiting⟩
  | fullReset kind straps => exact Link.tablesFit_reset kind straps
  | configured c rest =>
    obtain ⟨bays, link, h, hl, -⟩ := s.configured_frame c
    exact same (by rw [h]; exact hl)
  | foreign b =>
    rcases s.countForeign_cases b with h | ⟨n, h⟩ <;> exact same (by simp [h])
  | transmit => exact same s.transmit_tables
  | answer slot r => exact same (s.answer_tables slot r)
  | opened f => exact same (s.openPlate_tables f)
  | held n p slot => exact same (s.holdApproval_tables n slot)
  | judged n p slot => exact same (s.judgeApproval_tables n slot)
  | freed n p => exact same (s.freeBay_tables n)
  | reexposed n p => exact same (by rw [State.becomeQueued_tables, State.modPlate_link])
  | started => exact same s.takeStart_tables
  | completed => exact same s.completeExposure_tables
  | aborted cause => exact same (s.abort_tables cause)
  | calibrated c o w r => exact same (s.endCalibration_tables c o w r)
  | compared sc p coverage line rest => exact same (by rw [State.compareLine_link])
  | scanned cause => exact same (s.endScan_tables cause)
  | bound n p rest => exact same (by simp only [State.bindScan, State.setSource_tables, State.beginExpected_link,
      State.setWork_link, State.setBay_link])
  | taken => exact same (by rw [State.blockTake_link])
  | written i ctx lines served => exact same (by rw [State.setBuffer_link, State.modPlate_link])
  | heldJudged n => exact same (s.judgeHeld_tables n)
  | hatched f => exact same (s.completeHatchStrip_tables f)
  | pending | lines | store | screening | source | receiver | discard | waits | announced | cleared | intake | priority
  | exposure | inspection | settings | scan | entryTaken | decoder | fill => exact same rfl

/-! ### The inspection queue's room -/

/-- A start is taken only where the inspection queue has a place left for its plate (R118). -/
theorem State.processorRoom_takeStart (allowed : s.startRefusal = none) : s.takeStart.ProcessorRoom := by
  have room := (State.startRefusal_none allowed).2.2.1
  unfold Config.processorPlates at room
  unfold State.ProcessorRoom
  rw [State.takeStart_inspectionQueue]
  split <;> omega

theorem State.processorRoom_autoEvent (h : s.ProcessorRoom) : s.autoEvent.ProcessorRoom := by
  rcases s.autoEvent_cases with h' | ⟨-, -, allowed, h'⟩ <;> rw [h']
  · exact h
  · exact s.processorRoom_takeStart allowed

theorem State.processorRoom_becomeQueued (n : Nat) (atHead : Bool) (h : s.ProcessorRoom) :
    (s.becomeQueued n atHead).ProcessorRoom := by
  refine State.processorRoom_autoEvent _ ?_
  simpa [State.ProcessorRoom] using h

/-- An exposure that has ended leaves room, if its plate left the queue within its 4 entries. -/
theorem State.processorRoom_becomeIdle (h : s.inspectionQueue.length ≤ 4) : s.becomeIdle.ProcessorRoom := by
  refine State.processorRoom_autoEvent _ ?_
  simpa [State.ProcessorRoom] using h

theorem State.processorRoom_judgeApproval (n : Nat) (entry : Option Nat) (h : s.ProcessorRoom) :
    (s.judgeApproval n entry).1.ProcessorRoom := by
  rcases s.judgeApproval_cases n entry with ⟨r, h'⟩ | ⟨p, -, h'⟩ | ⟨p, -, -, h'⟩ <;> rw [h']
  · exact h
  · exact State.processorRoom_becomeQueued _ n _ h
  · simpa [State.ProcessorRoom] using h

theorem Part.keeps_processorRoom {s t : State} (h : Part s t) (room : s.ProcessorRoom) : t.ProcessorRoom := by
  have fewer : t.inspectionQueue.length ≤ s.inspectionQueue.length → t.exposure = s.exposure → t.ProcessorRoom :=
    fun hq he => by unfold State.ProcessorRoom at room ⊢; rw [he]; omega
  have same : t.inspectionQueue = s.inspectionQueue → t.exposure = s.exposure → t.ProcessorRoom :=
    fun hq => fewer (by rw [hq])
  have three : s.exposure.state ≠ .idle → s.inspectionQueue.length ≤ 3 := fun busy => by
    unfold State.ProcessorRoom at room; rw [if_neg busy] at room; omega
  have four : s.inspectionQueue.length ≤ 4 := by unfold State.ProcessorRoom at room; omega
  cases h with
  | fullReset kind straps => simp [State.ProcessorRoom, State.fullReset, State.reset, Exposure.reset]
  | cleared => simp [State.ProcessorRoom, State.clearPlates, Exposure.resetPlates]
  | configured c rest =>
    obtain ⟨bays, link, h, -⟩ := s.configured_frame c
    exact same (by rw [h]) (by rw [h])
  | judged n p slot => exact s.processorRoom_judgeApproval n slot room
  | heldJudged n =>
    rcases s.judgeHeld_judged n with h | ⟨p, k, r, -, -, h⟩ <;> rw [h]
    · exact room
    · have := State.processorRoom_judgeApproval
        (s.modPlate n fun p => { p with approvalHeld := false, approveEntry := none }) n p.approveEntry
        (by simpa [State.ProcessorRoom] using room)
      simpa [State.ProcessorRoom] using this
  | reexposed n p =>
    exact State.processorRoom_becomeQueued _ n false (by simpa [State.ProcessorRoom] using room)
  | exposure e same' bay =>
    simp only [State.ProcessorRoom, same'] at room ⊢
    exact room
  | started allowed => exact s.processorRoom_takeStart allowed
  | completed busy =>
    unfold State.completeExposure
    split
    · exact room
    · refine State.processorRoom_becomeIdle _ ?_
      have := three busy
      simp [State.bayCompleted]; omega
  | aborted cause busy =>
    unfold State.abort
    split
    · exact room
    · refine State.processorRoom_becomeIdle _ ?_
      have := three busy
      split
      · simp [State.baySpoiled]; omega
      · unfold State.bayReturned
        split <;> simp <;> omega
  | bound n p rest queue =>
    exact fewer (by simp [queue]) (by simp)
  | entryTaken e rest queue =>
    exact fewer (by simp [queue]) rfl
  | hatched f =>
    unfold State.completeHatchStrip
    dsimp only
    split
    · simpa [State.ProcessorRoom] using room
    · split
      · simpa [State.ProcessorRoom] using room
      · rename_i p _ _ _
        have queued := State.processorRoom_becomeQueued
          (State.modPlate f.bay (fun p => { p with approveEntry := none }) (State.setSource f.bay
            (s.modPlate f.bay (Plate.modStrip f.strip fun _ => { StripRecord.fresh with state := .missing })))) f.bay
          p.replate (by simpa [State.ProcessorRoom] using room)
        simpa [State.ProcessorRoom, State.completeFill] using queued
  | foreign b =>
    rcases s.countForeign_cases b with h | ⟨n, h⟩ <;> exact same (by simp [h]) (by simp [h])
  | held n p slot => exact same (by simp [State.holdApproval]) (by simp [State.holdApproval])
  | transmit | refused | answer | opened | freed | calibrated | scanned | compared | taken | written =>
    exact same (by simp) (by simp)
  | pending | lines | store | screening | source | receiver | discard | entry | sent | noticed | waits | announced
  | intake | priority | inspection | settings | scan | decoder | fill => exact same rfl rfl

end Sys2Proof.Machine
end

section
/-! SUPPORT. The bay table keeps one record per bay and the defect lists stay within the pool; the Intake Queue stays within
its blocks and its budget, and a scan within its FIFO and its table (R1, R33, R36, R144, R147). -/

namespace Sys2Proof.Machine

/-! ### Taking a block (R37 to R41) -/

/-- All that BLOCK_TAKE can do: nothing, or judge the oldest block, which the decoder may take (R37). -/
theorem State.blockTake_cases (s : State) :
    s.blockTake = s ∨ ∃ b rest, s.intake.queue = b :: rest ∧ s.decoder.mayTake b = true ∧
      s.blockTake = State.judgeBlock b { s with intake := { s.intake with queue := rest } } := by
  unfold State.blockTake
  split
  · exact .inl rfl
  · rename_i b rest queue
    split
    · rename_i may; exact .inr ⟨b, rest, queue, may, rfl⟩
    · exact .inl rfl

/-- All that the second look at a taken block can do: drop it, count it as a duplicate, or bind a buffer to it (R38, R40,
R41). -/
theorem State.judgeBlock_cases (b : Block) (s : State) :
    State.judgeBlock b s = s.dropBlock ∨
    (∃ n p, s.findPlate b.key = some n ∧ s.plate? n = some p ∧ p.state = .filling ∧
      State.judgeBlock b s = s.modPlate n fun p => { p with duplicates := satInc Config.countHold p.duplicates }) ∨
    (∃ n p, s.findPlate b.key = some n ∧ s.plate? n = some p ∧ p.state = .filling ∧
      State.judgeBlock b s = s.bindBlock ((s.decoder.buffers.findIdx? StripBuffer.isFree).getD 0) n p b) := by
  unfold State.judgeBlock
  split
  · exact .inl rfl
  · rename_i n found
    split
    · exact .inl rfl
    · rename_i p resident
      split
      · rename_i h
        split
        · exact .inr (.inr ⟨n, p, found, resident, h.1, rfl⟩)
        · exact .inr (.inl ⟨n, p, found, resident, h.1, rfl⟩)
      · exact .inl rfl

/-- A buffer bound to a block is BUILDING for its plate, and perhaps the Screening Unit applies its first window (R50). -/
theorem State.bindBlock_eq (i n : Nat) (p : Plate) (b : Block) (s : State) :
    ∃ ctx lines stage sc, ctx.bay = n ∧ ctx.key = b.key ∧
      s.bindBlock i n p b = State.setBuffer i (.building ctx b lines stage) { s with screening := sc } := by
  unfold State.bindBlock
  dsimp only
  split
  · split
    · unfold State.proceed
      split
      · exact ⟨_, _, _, s.screening, rfl, rfl, rfl⟩
      · exact ⟨_, _, _, _, rfl, rfl, rfl⟩
    · exact ⟨_, _, _, s.screening, rfl, rfl, rfl⟩
  · exact ⟨_, _, _, s.screening, rfl, rfl, rfl⟩

/-! ### The matching of a scan line (R147 to R149) -/

/-- The records of a list and the pool's free ones together. -/
def Tracker.total (t : Tracker) : Nat := t.list.length + t.free

theorem Tracker.openFor_total (y : Nat) (t : Tracker) (r : Run) : (t.openFor y r).total = t.total := by
  unfold Tracker.openFor Tracker.total
  split
  · rename_i h; simp only [List.length_append, List.length_singleton]; omega
  · rfl

theorem Tracker.joinInto_total (y : Nat) (t : Tracker) (oldest : Nat) (others : List Nat) (runs : List Run) :
    (t.joinInto y oldest others runs).total = t.total := by
  have parts := List.length_eq_length_filter_add (l := t.list) fun d => others.contains d.number
  simp only [Tracker.joinInto, Tracker.total, List.length_map]
  omega

theorem Tracker.openFor_opens (y : Nat) (t : Tracker) (r : Run) (h : t.opens.length ≤ Config.openMax) :
    (t.openFor y r).opens.length ≤ Config.openMax := by
  unfold Tracker.openFor
  split
  · rename_i room; simp only [List.length_append, List.length_singleton]; omega
  · exact h

theorem Tracker.takeGroup_total (y : Nat) (t : Tracker) (g : Group) : (t.takeGroup y g).total = t.total := by
  unfold Tracker.takeGroup
  split
  · generalize g.runs = runs
    induction runs generalizing t with
    | nil => rfl
    | cons r runs ih => exact (ih _).trans (t.openFor_total y r)
  · exact t.joinInto_total y _ _ _

theorem Tracker.takeGroup_opens (y : Nat) (t : Tracker) (g : Group) (h : t.opens.length ≤ Config.openMax) :
    (t.takeGroup y g).opens.length ≤ Config.openMax := by
  unfold Tracker.takeGroup
  split
  · generalize g.runs = runs
    induction runs generalizing t with
    | nil => exact h
    | cons r runs ih => exact ih _ (t.openFor_opens y r h)
  · simp only [Tracker.joinInto, List.length_map]
    exact (List.length_filter_le _ _).trans h

/-- The matching of a line takes as many records of the pool as the list gains. -/
theorem Tracker.matchLine_total (y : Nat) (t : Tracker) (runs : List Run) : (t.matchLine y runs).total = t.total := by
  have groups : ∀ (gs : List Group) (t : Tracker), (gs.foldl (Tracker.takeGroup y) t).total = t.total := fun gs => by
    induction gs with
    | nil => exact fun _ => rfl
    | cons g gs ih => exact fun t => (ih _).trans (t.takeGroup_total y g)
  exact groups _ t

/-- The matching of a line leaves 32 defects open at most. -/
theorem Tracker.matchLine_opens (y : Nat) (t : Tracker) (runs : List Run) (h : t.opens.length ≤ Config.openMax) :
    (t.matchLine y runs).opens.length ≤ Config.openMax := by
  have groups : ∀ (gs : List Group) (t : Tracker), t.opens.length ≤ Config.openMax →
      (gs.foldl (Tracker.takeGroup y) t).opens.length ≤ Config.openMax := fun gs => by
    induction gs with
    | nil => exact fun _ h => h
    | cons g gs ih => exact fun t h => ih _ (t.takeGroup_opens y g h)
  exact (List.length_filter_le _ _).trans (groups _ t h)

/-! ### The records of the bay table -/

/-- The defect records of a bay. -/
def bayRecords : Option Plate → Nat
  | some p => p.defects.length
  | none => 0

/-- The defect records of all bays (R147). -/
def records (bays : List (Option Plate)) : Nat := (bays.map bayRecords).sum

theorem State.poolFits_iff (s : State) : s.PoolFits ↔ records s.bays ≤ Config.poolRecords := Iff.rfl

theorem State.freeRecords_eq (s : State) : s.freeRecords = Config.poolRecords - records s.bays := rfl

@[simp] theorem records_replicate (n : Nat) : records (List.replicate n none) = 0 := by
  simp [records, bayRecords]

theorem records_set {bays : List (Option Plate)} {n : Nat} {o : Option Plate} (h : bays[n]? = some o) (o' : Option Plate) :
    records (bays.set n o') + bayRecords o = records bays + bayRecords o' := by
  induction bays generalizing n with
  | nil => simp at h
  | cons x xs ih =>
    cases n with
    | zero =>
      simp only [List.getElem?_cons_zero, Option.some.injEq] at h
      subst h
      simp only [List.set_cons_zero, records, List.map_cons, List.sum_cons]
      omega
    | succ n =>
      have := ih (by simpa using h)
      simp only [List.set_cons_succ, records, List.map_cons, List.sum_cons] at this ⊢
      omega

theorem State.getElem?_bays {s : State} {n : Nat} {p : Plate} (h : s.plate? n = some p) : s.bays[n]? = some (some p) :=
  Option.join_eq_some_iff.1 h

/-- The bay table of `t` has as many bays as that of `s`, and no more defect records. -/
def State.NoMoreRecords (s t : State) : Prop := t.bays.length = s.bays.length ∧ records t.bays ≤ records s.bays

theorem State.NoMoreRecords.refl {s t : State} (h : t.bays = s.bays) : s.NoMoreRecords t := by
  unfold State.NoMoreRecords; rw [h]; exact ⟨rfl, le_rfl⟩

theorem State.NoMoreRecords.trans {s t u : State} (h : s.NoMoreRecords t) (h' : t.NoMoreRecords u) : s.NoMoreRecords u :=
  ⟨h'.1.trans h.1, h'.2.trans h.2⟩

/-- A bay set to no more records than it has. -/
theorem State.noMoreRecords_setBay (s : State) (n : Nat) (o : Option Plate)
    (h : ∀ o', s.bays[n]? = some o' → bayRecords o ≤ bayRecords o') : s.NoMoreRecords (s.setBay n o) := by
  refine ⟨by simp [State.setBay], ?_⟩
  show records (s.bays.set n o) ≤ records s.bays
  cases hb : s.bays[n]? with
  | none => rw [List.set_eq_of_length_le (List.getElem?_eq_none_iff.1 hb)]
  | some o' =>
    have := records_set hb o
    have := h o' hb
    omega

theorem State.noMoreRecords_setBay_some {s : State} {n : Nat} {p : Plate} (hp : s.plate? n = some p) (p' : Plate)
    (h : p'.defects.length ≤ p.defects.length) : s.NoMoreRecords (s.setBay n (some p')) := by
  refine s.noMoreRecords_setBay n _ fun o' ho => ?_
  rw [State.getElem?_bays hp] at ho
  cases ho
  exact h

theorem State.noMoreRecords_modPlate (s : State) (n : Nat) (f : Plate → Plate)
    (h : ∀ p, (f p).defects.length ≤ p.defects.length) : s.NoMoreRecords (s.modPlate n f) := by
  cases hp : s.plate? n with
  | none => rw [s.modPlate_none f hp]; exact .refl rfl
  | some p => rw [s.modPlate_some f hp]; exact State.noMoreRecords_setBay_some hp _ (h p)

theorem State.noMoreRecords_freeBay (s : State) (n : Nat) : s.NoMoreRecords (s.freeBay n) := by
  unfold State.freeBay
  split
  · rename_i p hp
    exact .trans (.refl (t := s.letGo n p) (by simp)) (State.noMoreRecords_setBay _ n none fun _ _ => Nat.zero_le _)
  · exact .refl rfl

theorem State.noMoreRecords_freeBays (s : State) (ns : List Nat) : s.NoMoreRecords (s.freeBays ns) := by
  induction ns generalizing s with
  | nil => exact .refl rfl
  | cons n ns ih => exact (s.noMoreRecords_freeBay n).trans (ih _)

theorem State.noMoreRecords_takeStart (s : State) : s.NoMoreRecords s.takeStart := by
  rcases s.takeStart_cases with h | ⟨n, rest, p, -, hp, h⟩ <;> rw [h]
  · exact .refl rfl
  · refine .trans (State.noMoreRecords_setBay_some hp { p with state := .exposing } le_rfl) (.refl ?_)
    simp [State.setBay]

theorem State.noMoreRecords_autoEvent (s : State) : s.NoMoreRecords s.autoEvent := by
  rcases s.autoEvent_cases with h | ⟨-, -, -, h⟩ <;> rw [h]
  · exact .refl rfl
  · exact s.noMoreRecords_takeStart

theorem State.noMoreRecords_becomeQueued (s : State) (n : Nat) (atHead : Bool) :
    s.NoMoreRecords (s.becomeQueued n atHead) := by
  refine .trans ?_ (State.noMoreRecords_autoEvent _)
  exact State.noMoreRecords_modPlate { s with approvalQueue := _ } n _ fun _ => le_rfl

theorem State.noMoreRecords_becomeIdle (s : State) : s.NoMoreRecords s.becomeIdle :=
  .trans (.refl rfl) (State.noMoreRecords_autoEvent _)

theorem State.noMoreRecords_judgeApproval (s : State) (n : Nat) (entry : Option Nat) :
    s.NoMoreRecords (s.judgeApproval n entry).1 := by
  have abandoned : s.NoMoreRecords (s.abandonBay n) := .refl rfl
  rcases s.judgeApproval_cases n entry with ⟨r, h⟩ | ⟨p, -, h⟩ | ⟨p, -, -, h⟩ <;> rw [h]
  · exact .refl rfl
  · exact abandoned.trans (State.noMoreRecords_becomeQueued _ n _)
  · have approving := (s.abandonBay n).noMoreRecords_modPlate n
      (fun p => { p with state := .approving, approveEntry := entry }) fun _ => le_rfl
    exact abandoned.trans (approving.trans (.refl (by simp)))

theorem State.noMoreRecords_blockTake (s : State) : s.NoMoreRecords s.blockTake := by
  rcases s.blockTake_cases with h | ⟨b, rest, -, -, h⟩ <;> rw [h]
  · exact .refl rfl
  · rcases State.judgeBlock_cases b { s with intake := { s.intake with queue := rest } } with
      h | ⟨n, p, -, -, -, h⟩ | ⟨n, p, -, -, -, h⟩ <;> rw [h]
    · exact .refl rfl
    · exact State.noMoreRecords_modPlate { s with intake := { s.intake with queue := rest } } n _ fun _ => le_rfl
    · exact .refl (by simp)

theorem State.noMoreRecords_judgeHeld (s : State) (n : Nat) : s.NoMoreRecords (s.judgeHeld n) := by
  rcases s.judgeHeld_judged n with h | ⟨p, k, r, -, -, h⟩ <;> rw [h]
  · exact .refl rfl
  · have clear := s.noMoreRecords_modPlate n (fun p => { p with approvalHeld := false, approveEntry := none })
      fun _ => le_rfl
    exact (clear.trans (State.noMoreRecords_judgeApproval _ n p.approveEntry)).trans (.refl (by simp))

theorem State.noMoreRecords_completeHatchStrip (s : State) (f : FillContext) :
    s.NoMoreRecords (s.completeHatchStrip f) := by
  have recorded := s.noMoreRecords_modPlate f.bay
    (Plate.modStrip f.strip fun _ => { StripRecord.fresh with state := .missing }) fun _ => le_rfl
  unfold State.completeHatchStrip
  dsimp only
  refine recorded.trans ?_
  split
  · exact .refl rfl
  · rename_i p hp
    split
    · exact .refl (by simp)
    · unfold State.completeFill
      have clear := State.noMoreRecords_modPlate (State.setSource f.bay (s.modPlate f.bay
          (Plate.modStrip f.strip fun _ => { StripRecord.fresh with state := .missing }))) f.bay
        (fun p => { p with approveEntry := none }) fun _ => le_rfl
      exact (clear.trans (State.noMoreRecords_becomeQueued _ f.bay p.replate)).trans (.refl (by simp))

/-- The bay of a scan that ends is HELD, with a verdict and perhaps due for its release (R19, R155). -/
theorem State.endScan_bays {s : State} {sc : Scan} {p : Plate} (cause : UncheckedCause)
    (on : s.inspection.work = .scanning sc) (hp : s.plate? sc.bay = some p) :
    ∃ v due, (s.endScan cause).bays =
      (s.setBay sc.bay (some { p with state := .held, verdict := v, autoDue := due })).bays := by
  unfold State.endScan
  simp only [on, hp, State.setSource_bays, State.onStore_bays, State.onInspection_bays, State.requestPulse_bays,
    State.forgetDue_bays]
  exact ⟨_, _, rfl⟩

theorem State.noMoreRecords_endScan (s : State) (cause : UncheckedCause) : s.NoMoreRecords (s.endScan cause) := by
  cases on : s.inspection.work with
  | idle | calibrating => unfold State.endScan; rw [on]; exact .refl rfl
  | scanning sc =>
    cases hp : s.plate? sc.bay with
    | none => unfold State.endScan; simp only [on, hp]; exact .refl rfl
    | some p =>
      obtain ⟨v, due, bays⟩ := State.endScan_bays cause on hp
      exact (State.noMoreRecords_setBay_some hp { p with state := .held, verdict := v, autoDue := due } le_rfl).trans
        (.refl bays)

theorem State.noMoreRecords_completeExposure (s : State) : s.NoMoreRecords s.completeExposure := by
  unfold State.completeExposure
  split
  · exact .refl rfl
  · refine .trans ?_ (State.noMoreRecords_becomeIdle _)
    unfold State.bayCompleted
    refine .trans ?_ (.refl (State.setSource_bays _ _))
    exact .trans (.refl rfl) (State.noMoreRecords_modPlate _ _ _ fun _ => le_rfl)

theorem State.noMoreRecords_abort (s : State) (cause : AbortCause) : s.NoMoreRecords (s.abort cause) := by
  unfold State.abort
  split
  · exact .refl rfl
  · refine .trans ?_ (State.noMoreRecords_becomeIdle _)
    split
    · unfold State.baySpoiled
      refine .trans ?_ (.refl (State.setSource_bays _ _))
      exact .trans (.refl rfl) (State.noMoreRecords_modPlate _ _ _ fun _ => le_rfl)
    · unfold State.bayReturned
      split
      · exact .trans (.refl rfl) (State.noMoreRecords_freeBay _ _)
      · exact .trans (.refl rfl) (State.noMoreRecords_becomeQueued _ _ _)

/-! ### The bay table and the pool -/

/-- A scan line compared keeps the pool's limit. -/
theorem State.compareLine_records {s : State} {sc : Scan} {p : Plate} (coverage : List Nat) (line : ScanLine)
    (rest : List ScanLine) (resident : s.plate? sc.bay = some p) (pool : records s.bays ≤ Config.poolRecords) :
    records (s.compareLine sc p coverage line rest).bays ≤ Config.poolRecords := by
  unfold State.compareLine
  dsimp only
  generalize formRuns sc.settings _ = runs
  have total := Tracker.matchLine_total sc.next
    { list := p.defects, opens := sc.openDefects, nextNumber := sc.nextNumber, untracked := p.untracked,
      free := s.freeRecords } runs
  generalize Tracker.matchLine sc.next _ runs = t at total ⊢
  have set := records_set (State.getElem?_bays resident) (some { p with defects := t.list, untracked := t.untracked })
  simp only [Tracker.total, State.freeRecords_eq, bayRecords, State.setWork_bays, State.setBay] at total set ⊢
  omega

/-! ### The Intake Queue -/

/-- The body bytes the decoder's buffers have charged (R36, R37). -/
def Decoder.charge (d : Decoder) : Nat := (d.buffers.map StripBuffer.charge).sum

theorem State.charged_eq (s : State) :
    s.charged = (s.intake.queue.map fun b => b.body.length).sum + s.decoder.charge := rfl

/-- The Intake Queue of `t` is that of `s`, and the decoder's buffers have no more charged. -/
def State.NoMoreCharged (s t : State) : Prop := t.intake = s.intake ∧ t.decoder.charge ≤ s.decoder.charge

theorem State.NoMoreCharged.refl {s t : State} (hi : t.intake = s.intake) (hd : t.decoder = s.decoder) :
    s.NoMoreCharged t := by
  unfold State.NoMoreCharged; rw [hi, hd]; exact ⟨rfl, le_rfl⟩

theorem State.NoMoreCharged.trans {s t u : State} (h : s.NoMoreCharged t) (h' : t.NoMoreCharged u) : s.NoMoreCharged u :=
  ⟨h'.1.trans h.1, h'.2.trans h.2⟩

theorem State.NoMoreCharged.fits {s t : State} (h : s.NoMoreCharged t) (fits : s.IntakeFits) : t.IntakeFits := by
  obtain ⟨hi, hd⟩ := h
  obtain ⟨size, charge⟩ := fits
  rw [State.charged_eq] at charge
  exact ⟨by rw [hi]; exact size, by rw [State.charged_eq, hi]; omega⟩

/-- Buffers abandoned have nothing charged (R37, R67). -/
theorem State.noMoreCharged_abandonBay (s : State) (n : Nat) : s.NoMoreCharged (s.abandonBay n) := by
  refine ⟨rfl, ?_⟩
  simp only [State.abandonBay, Decoder.charge, List.map_map]
  refine List.sum_le_sum fun b _ => ?_
  simp only [Function.comp_apply]
  split
  · exact Nat.zero_le _
  · exact le_rfl

theorem State.noMoreCharged_freeBay (s : State) (n : Nat) : s.NoMoreCharged (s.freeBay n) := by
  unfold State.freeBay
  split
  · rename_i p hp
    refine .trans ?_ (.refl (State.setSource_intake _ _) (State.setSource_decoder _ _))
    refine .trans ?_ (.refl (State.setBay_intake _ _ _) (State.setBay_decoder _ _ _))
    unfold State.letGo
    split
    · refine (s.noMoreCharged_abandonBay n).trans ?_
      dsimp only
      split
      · exact .refl (by simp) (by simp)
      · exact .refl rfl rfl
    · exact .refl (by simp) (by simp)
    · exact .refl rfl rfl
    · exact .refl rfl rfl
  · exact .refl rfl rfl

theorem State.noMoreCharged_freeBays (s : State) (ns : List Nat) : s.NoMoreCharged (s.freeBays ns) := by
  induction ns generalizing s with
  | nil => exact .refl rfl rfl
  | cons n ns ih => exact (s.noMoreCharged_freeBay n).trans (ih _)

theorem State.noMoreCharged_abort (s : State) (cause : AbortCause) : s.NoMoreCharged (s.abort cause) := by
  unfold State.abort
  split
  · exact .refl rfl rfl
  · dsimp only
    refine .trans ?_ (.refl (State.becomeIdle_intake _) (State.becomeIdle_decoder _))
    split
    · exact .refl (by simp) (by simp)
    · unfold State.bayReturned
      split
      · exact .trans (.refl rfl rfl) (State.noMoreCharged_freeBay _ _)
      · exact .refl (by simp) (by simp)

theorem State.noMoreCharged_judgeApproval (s : State) (n : Nat) (entry : Option Nat) :
    s.NoMoreCharged (s.judgeApproval n entry).1 := by
  rcases s.judgeApproval_cases n entry with ⟨r, h⟩ | ⟨p, -, h⟩ | ⟨p, -, -, h⟩ <;> rw [h]
  · exact .refl rfl rfl
  · exact (s.noMoreCharged_abandonBay n).trans (.refl (by simp) (by simp))
  · exact (s.noMoreCharged_abandonBay n).trans (.refl (by simp) (by simp))

theorem StripBuffer.letPass_charge (b : StripBuffer) : b.letPass.charge = b.charge := by
  cases b <;> rfl

/-- A buffer let through has as much charged. -/
theorem Decoder.letFirstPass_charge (n : Nat) (d : Decoder) : (d.letFirstPass n).charge ≤ d.charge := by
  unfold Decoder.letFirstPass
  split
  · exact le_rfl
  · split
    · rename_i i _
      cases hb : d.buffers[i]? with
      | none => rw [List.set_eq_of_length_le (List.getElem?_eq_none_iff.1 hb)]
      | some b =>
        refine StripBuffer.charge_set_le _ i b _ hb ?_
        rw [List.getD_eq_getElem?_getD, hb]
        exact (StripBuffer.letPass_charge b).le
    · exact le_rfl

/-- The decoder takes a block only with a buffer FREE (R37). -/
theorem Decoder.mayTake_free {d : Decoder} {b : Block} (h : d.mayTake b = true) :
    d.buffers[(d.buffers.findIdx? StripBuffer.isFree).getD 0]? = some .free := by
  have free : d.buffers.any StripBuffer.isFree = true := by
    simp only [Decoder.mayTake, Bool.and_eq_true] at h
    exact h.1.2
  cases hi : d.buffers.findIdx? StripBuffer.isFree with
  | none =>
    rw [List.findIdx?_eq_none_iff] at hi
    obtain ⟨x, hx, hf⟩ := List.any_eq_true.1 free
    simp [hi x hx] at hf
  | some i =>
    obtain ⟨hlt, hfree, -⟩ := List.findIdx?_eq_some_iff_getElem.1 hi
    simp only [Option.getD_some, List.getElem?_eq_getElem hlt]
    cases hb : d.buffers[i] with
    | free => rfl
    | building | ready | writing => rw [hb] at hfree; cases hfree

/-- The charges of a list with one item replaced. -/
theorem StripBuffer.charge_set {bs : List StripBuffer} {i : Nat} {b : StripBuffer} (hb : bs[i]? = some b)
    (b' : StripBuffer) : ((bs.set i b').map charge).sum + b.charge = (bs.map charge).sum + b'.charge := by
  induction bs generalizing i with
  | nil => simp at hb
  | cons x xs ih =>
    cases i with
    | zero =>
      simp only [List.getElem?_cons_zero, Option.some.injEq] at hb
      subst hb
      simp only [List.set_cons_zero, List.map_cons, List.sum_cons]
      omega
    | succ i =>
      have := ih (by simpa using hb)
      simp only [List.set_cons_succ, List.map_cons, List.sum_cons]
      omega

/-- The charge of a taken block goes from the queue to its buffer, or is let go (R37). -/
theorem State.intakeFits_blockTake {s : State} (fits : s.IntakeFits) : s.blockTake.IntakeFits := by
  rcases s.blockTake_cases with h | ⟨b, rest, queue, may, h⟩
  · rw [h]; exact fits
  · obtain ⟨size, charge⟩ := fits
    rw [State.charged_eq, queue, List.map_cons, List.sum_cons] at charge
    rw [queue, List.length_cons] at size
    rw [h]
    rcases State.judgeBlock_cases b { s with intake := { s.intake with queue := rest } } with
      h | ⟨n, p, -, -, -, h⟩ | ⟨n, p, -, -, -, h⟩ <;> rw [h]
    · exact ⟨by simp only [State.dropBlock]; omega, by simp only [State.charged_eq, State.dropBlock]; omega⟩
    · simp only [State.IntakeFits, State.charged_eq, State.modPlate_intake, State.modPlate_decoder]
      exact ⟨by omega, by omega⟩
    · obtain ⟨ctx, lines, stage, sc, -, -, bound⟩ := State.bindBlock_eq
        ((s.decoder.buffers.findIdx? StripBuffer.isFree).getD 0) n p b { s with intake := { s.intake with queue := rest } }
      rw [bound]
      have set := StripBuffer.charge_set (Decoder.mayTake_free may) (.building ctx b lines stage)
      simp only [StripBuffer.charge] at set
      simp only [State.IntakeFits, State.charged_eq, State.setBuffer, Decoder.charge] at charge ⊢
      exact ⟨by omega, by omega⟩

/-! ### Every part keeps them -/

theorem Part.keeps_bayTableFits {s t : State} (h : Part s t) (fits : s.BayTableFits) : t.BayTableFits := by
  have table : t.settings = s.settings → t.bays.length = s.bays.length → t.BayTableFits :=
    fun hs hb => by unfold State.BayTableFits at fits ⊢; rw [hs, hb]; exact fits
  cases h with
  | fullReset kind straps => rfl
  | cleared => exact table rfl (by simp [State.clearPlates])
  | configured c rest =>
    obtain ⟨bays, link, h, -, ⟨hb, hm⟩ | hb⟩ := s.configured_frame c <;> rw [h]
    · unfold State.BayTableFits at fits ⊢; simp only [hb, hm]; exact fits
    · unfold State.BayTableFits; simp only [hb, List.length_replicate]
  | opened f =>
    refine table (by simp) ?_
    rcases s.openPlate_cases f with ⟨r, h⟩ | ⟨n, -, -, -, h⟩ <;> rw [h]
    simp only [State.fillBay, State.setSource_bays, State.setBay, List.length_set]
    exact (s.noMoreRecords_freeBays _).1
  | foreign b =>
    rcases s.countForeign_cases b with h | ⟨n, h⟩ <;> exact table (by simp [h]) (by simp [h])
  | held n p slot => exact table (by simp [State.holdApproval]) (by simp [State.holdApproval])
  | judged n p slot => exact table (by simp) (s.noMoreRecords_judgeApproval n slot).1
  | heldJudged n => exact table (by simp) (s.noMoreRecords_judgeHeld n).1
  | freed n p => exact table (by simp) (s.noMoreRecords_freeBay n).1
  | reexposed n p =>
    exact table (by simp) ((State.noMoreRecords_becomeQueued _ n false).1.trans (by simp))
  | started => exact table (by simp) s.noMoreRecords_takeStart.1
  | completed => exact table (by simp) s.noMoreRecords_completeExposure.1
  | aborted cause => exact table (by simp) (s.noMoreRecords_abort cause).1
  | scanned cause => exact table (by simp) (s.noMoreRecords_endScan cause).1
  | hatched f => exact table (by simp) (s.noMoreRecords_completeHatchStrip f).1
  | bound n p rest => exact table (by simp) (by simp [State.bindScan, State.setBay])
  | compared sc p coverage line rest => exact table (by simp) (by simp [State.compareLine, State.setBay])
  | written i ctx lines served => exact table (by simp) (by simp)
  | taken => exact table (by simp) s.noMoreRecords_blockTake.1
  | transmit | refused | answer | calibrated => exact table (by simp) (by simp)
  | pending | lines | store | screening | source | receiver | discard | entry | sent | noticed | waits | announced
  | intake | priority | exposure | inspection | settings | scan | entryTaken | decoder | fill => exact table rfl rfl


theorem Part.keeps_poolFits {s t : State} (h : Part s t) (fits : s.PoolFits) : t.PoolFits := by
  rw [State.poolFits_iff] at fits ⊢
  have same : t.bays = s.bays → records t.bays ≤ Config.poolRecords := fun hb => by rw [hb]; exact fits
  have fewer : s.NoMoreRecords t → records t.bays ≤ Config.poolRecords := fun h => h.2.trans fits
  cases h with
  | fullReset kind straps =>
    show records (List.replicate 8 none) ≤ _
    rw [records_replicate]; exact Nat.zero_le _
  | cleared => simp [State.clearPlates, List.map_const']
  | configured c rest =>
    obtain ⟨bays, link, h, -, ⟨hb, -⟩ | hb⟩ := s.configured_frame c <;> rw [h]
    · simp only [hb]; exact fits
    · simp only [hb, records_replicate]; exact Nat.zero_le _
  | opened f =>
    refine fewer ?_
    rcases s.openPlate_cases f with ⟨r, h⟩ | ⟨n, -, -, -, h⟩ <;> rw [h]
    · exact .refl rfl
    · have filled := State.noMoreRecords_setBay (s.freeBays (s.withdrawals f.key)) n
        (some (f.plate (s.hasPredecessor f.key))) fun _ _ => Nat.zero_le _
      exact (s.noMoreRecords_freeBays _).trans (filled.trans (.refl (State.setSource_bays _ n)))
  | foreign b =>
    refine fewer ?_
    rcases s.countForeign_cases b with h | ⟨n, h⟩ <;> rw [h]
    · exact .refl rfl
    · exact s.noMoreRecords_modPlate n _ fun _ => le_rfl
  | held n p slot =>
    exact fewer (s.noMoreRecords_modPlate n (fun p => { p with approvalHeld := true, approveEntry := slot }) fun _ => le_rfl)
  | judged n p slot => exact fewer (s.noMoreRecords_judgeApproval n slot)
  | heldJudged n => exact fewer (s.noMoreRecords_judgeHeld n)
  | freed n p => exact fewer (s.noMoreRecords_freeBay n)
  | reexposed n p =>
    exact fewer ((s.noMoreRecords_modPlate n _ fun _ => Nat.zero_le _).trans (State.noMoreRecords_becomeQueued _ n false))
  | started => exact fewer s.noMoreRecords_takeStart
  | completed => exact fewer s.noMoreRecords_completeExposure
  | aborted cause => exact fewer (s.noMoreRecords_abort cause)
  | scanned cause => exact fewer (s.noMoreRecords_endScan cause)
  | hatched f => exact fewer (s.noMoreRecords_completeHatchStrip f)
  | bound n p rest queue resident =>
    exact fewer (.trans (State.noMoreRecords_setBay_some (s := { s with inspectionQueue := rest }) resident
      { p with state := .inspecting } le_rfl) (.refl (by simp [State.bindScan])))
  | compared sc p coverage line rest on resident => exact State.compareLine_records coverage line rest resident fits
  | written i ctx lines served => 
    exact fewer (s.noMoreRecords_modPlate ctx.bay (Plate.modStrip ctx.strip fun r => r.written ctx) fun _ => le_rfl)
  | taken => exact fewer s.noMoreRecords_blockTake
  | transmit | refused | answer | calibrated => exact same (by simp)
  | pending | lines | store | screening | source | receiver | discard | entry | sent | noticed | waits | announced
  | intake | priority | exposure | inspection | settings | scan | entryTaken | decoder | fill => exact same rfl

theorem Part.keeps_intakeFits {s t : State} (h : Part s t) (fits : s.IntakeFits) : t.IntakeFits := by
  have fewer : s.NoMoreCharged t → t.IntakeFits := fun h => h.fits fits
  have same : t.intake = s.intake → t.decoder = s.decoder → t.IntakeFits := fun hi hd => fewer (.refl hi hd)
  cases h with
  | fullReset kind straps => exact ⟨Nat.zero_le _, Nat.zero_le _⟩
  | cleared => exact ⟨Nat.zero_le _, Nat.zero_le _⟩
  | configured c rest =>
    obtain ⟨bays, link, h, -⟩ := s.configured_frame c
    exact same (by rw [h]) (by rw [h])
  | opened f =>
    refine fewer ?_
    rcases s.openPlate_cases f with ⟨r, h⟩ | ⟨n, -, -, -, h⟩ <;> rw [h]
    · exact .refl rfl rfl
    · exact s.noMoreCharged_freeBays _
  | intake b room =>
    simp only [State.noRoom, Bool.or_eq_false_iff, decide_eq_false_iff_not, State.charged_eq] at room
    obtain ⟨places, budget⟩ := room
    have budget := of_decide_eq_false budget
    simp only [State.IntakeFits, State.charged_eq, List.length_append, List.length_singleton, List.map_append,
      List.map_cons, List.map_nil, List.sum_append, List.sum_singleton]
    exact ⟨by omega, by omega⟩
  | foreign b => rcases s.countForeign_cases b with h | ⟨n, h⟩ <;> exact same (by simp [h]) (by simp [h])
  | held n p slot => exact fewer ⟨by simp [State.holdApproval], by
      simpa [State.holdApproval] using Decoder.letFirstPass_charge n s.decoder⟩
  | judged n p slot => exact fewer (s.noMoreCharged_judgeApproval n slot)
  | heldJudged n =>
    rcases s.judgeHeld_judged n with h | ⟨p, k, r, -, -, h⟩ <;> rw [h]
    · exact fits
    · refine (State.NoMoreCharged.trans (.refl (by simp) (by simp)) ((State.noMoreCharged_judgeApproval
        (s.modPlate n fun p => { p with approvalHeld := false, approveEntry := none }) n p.approveEntry).trans
        (.refl (by simp) (by simp)))).fits fits
  | freed n p => exact fewer (s.noMoreCharged_freeBay n)
  | aborted cause => exact fewer (s.noMoreCharged_abort cause)
  | decoder d bound charge => exact fewer ⟨rfl, charge⟩
  | taken => exact State.intakeFits_blockTake fits
  | written i ctx lines served on =>
    exact fewer ⟨by simp, by
      simpa [State.setBuffer, Decoder.charge] using
        StripBuffer.charge_set_le s.decoder.buffers i _ .free on (Nat.zero_le _)⟩
  | hatched f => exact same (by simp) (by simp)
  | transmit | refused | answer | calibrated | reexposed | started | completed | scanned | bound
  | compared => exact same (by simp) (by simp)
  | pending | lines | store | screening | source | receiver | discard | entry | sent | noticed | waits | announced
  | priority | exposure | inspection | settings | scan | entryTaken | fill => exact same rfl rfl

theorem Part.keeps_scanFits {s t : State} (h : Part s t) (fits : s.ScanFits) : t.ScanFits := by
  have same : t.inspection.work = s.inspection.work → t.ScanFits := fun h sc on => fits sc (h ▸ on)
  have off : (∀ sc, t.inspection.work ≠ .scanning sc) → t.ScanFits := fun h sc on => absurd on (h sc)
  cases h with
  | fullReset kind straps => exact off (by simp [State.fullReset, State.reset, Inspection.reset])
  | cleared => exact off (by simp [State.clearPlates, Inspection.resetPlates])
  | inspection i idle off' => exact off off'
  | calibrated c o w r => exact off (by simp [State.endCalibration])
  | scanned cause => exact off (s.endScan_idle cause)
  | scan sc sc' on bay key fifo opens =>
    rintro _ ⟨⟩
    obtain ⟨lines, defects⟩ := fits sc on
    exact ⟨fifo lines, opens.trans defects⟩
  | compared sc p coverage line rest on resident fifo =>
    rintro _ ⟨⟩
    obtain ⟨lines, defects⟩ := fits sc on
    rw [fifo, List.length_cons] at lines
    exact ⟨by simp only; omega, Tracker.matchLine_opens _ _ _ defects⟩
  | bound n p rest queue resident idle =>
    intro sc on
    simp only [State.bindScan, State.beginExpected, State.setSource_inspection, State.setWork, State.onStore_inspection,
      InspectionUnit.scanning.injEq] at on
    subst on
    exact ⟨Nat.zero_le _, Nat.zero_le _⟩
  | configured c rest =>
    obtain ⟨bays, link, h, -⟩ := s.configured_frame c
    exact same (by rw [h])
  | foreign b => rcases s.countForeign_cases b with h | ⟨n, h⟩ <;> exact same (by simp [h])
  | held n p slot => exact same (by simp [State.holdApproval])
  | transmit | refused | answer | opened | judged | heldJudged | freed | reexposed | started | completed | aborted
  | hatched | taken | written => exact same (by simp)
  | pending | lines | store | screening | source | receiver | discard | entry | sent | noticed | waits | announced
  | intake | priority | exposure | settings | entryTaken | decoder | fill => exact same rfl

end Sys2Proof.Machine
end

section
/-! SUPPORT. The agreement of the bay table with the queues and blocks that work on its plates, told bay by bay: what the
others say of a bay is one record, and the bay's plate says what that record must be (R3, R9, R11, R13, R17, R18, R20,
R93). -/

namespace Sys2Proof.Machine

/-! ### What a bay's plate says -/

/-- The key of a bay's plate, if the bay is in this state. -/
def keyIn (st : PlateState) (o : Option Plate) : Option PlateKey := o.bind fun p => if p.state = st then some p.key else none

@[simp] theorem keyIn_none (st : PlateState) : keyIn st none = none := rfl

@[simp] theorem keyIn_some (st : PlateState) (p : Plate) : keyIn st (some p) = if p.state = st then some p.key else none := rfl

theorem State.bayHolds_iff {s : State} {n : Nat} {key : PlateKey} {st : PlateState} :
    s.BayHolds n key st ↔ keyIn st (s.plate? n) = some key := by
  unfold State.BayHolds
  cases s.plate? n with
  | none => simp
  | some p => simp [and_comm]

theorem State.bayIs_iff {s : State} {n : Nat} {st : PlateState} : s.BayIs n st ↔ (keyIn st (s.plate? n)).isSome = true := by
  unfold State.BayIs
  simp only [State.bayHolds_iff, Option.isSome_iff_exists]

/-- The marks of a bay's plate stand only where its state allows them (R9, R20). -/
def MarksFit (o : Option Plate) : Prop :=
  ∀ p, o = some p → (p.approvalHeld = true → p.state = .filling) ∧ (p.autoDue = true → p.state = .held)

/-! ### What the others say of a bay -/

/-- The plate key with which a block names this bay. -/
def keyAtBay (n : Nat) (o : Option (Nat × PlateKey)) : Option PlateKey := o.bind fun c => if c.1 = n then some c.2 else none

@[simp] theorem keyAtBay_none (n : Nat) : keyAtBay n none = none := rfl

@[simp] theorem keyAtBay_self (n : Nat) (key : PlateKey) : keyAtBay n (some (n, key)) = some key := by simp [keyAtBay]

theorem keyAtBay_other {m n : Nat} (h : m ≠ n) (key : PlateKey) : keyAtBay m (some (n, key)) = none := by
  simp [keyAtBay, Ne.symm h]

theorem keyAtBay_eq_some {n : Nat} {o : Option (Nat × PlateKey)} {key : PlateKey} :
    keyAtBay n o = some key ↔ o = some (n, key) := by
  rcases o with _ | ⟨m, k⟩
  · simp
  · simp only [keyAtBay, Option.bind_some, Option.some.injEq, Prod.mk.injEq]
    split <;> simp_all

/-- What the queues and blocks say of one bay: its places in the approval queue, the inspection queue and the fill list, and
the plate of it that the drum, the scanner and the filler are at. -/
structure View where
  queued : Nat
  entries : Nat
  listed : Nat
  drum : Option PlateKey
  scan : Option PlateKey
  fill : Option PlateKey

/-- The plate a scan is of. -/
def State.scanned (s : State) : Option (Nat × PlateKey) := s.scan?.map fun sc => (sc.bay, sc.key)

/-- The plate a filler is at. -/
def Filler.filling (F : Filler) : Option (Nat × PlateKey) := F.fill.map fun f => (f.bay, f.key)

/-- What the queues and blocks say of bay n, the filler being this one. -/
def State.view (F : Filler) (s : State) (n : Nat) : View :=
  { queued := s.approvalQueue.count n
    entries := s.inspectionQueue.count (.bay n)
    listed := F.list.count n
    drum := keyAtBay n s.exposure.current
    scan := keyAtBay n s.scanned
    fill := keyAtBay n F.filling }

/-- A strip buffer works on this bay for the plate of this key. -/
def State.Works (s : State) (n : Nat) (key : PlateKey) : Prop :=
  ∃ b ∈ s.decoder.buffers, ∃ c, b.context = some c ∧ c.bay = n ∧ c.key = key

/-- What is said of a bay is what its plate's state asks. -/
structure View.Fits (v : View) (o : Option Plate) : Prop where
  queued : v.queued = if (keyIn .queued o).isSome then 1 else 0
  entries : v.entries = if (keyIn .exposed o).isSome then 1 else 0
  drum : v.drum = keyIn .exposing o
  scan : v.scan = keyIn .inspecting o
  served : v.listed + (if v.fill.isSome then 1 else 0) = if (keyIn .approving o).isSome then 1 else 0
  fill : ∀ key, v.fill = some key → keyIn .approving o = some key
  listed : ∀ p, 0 < v.listed → o = some p → p.anyAbsent = true

/-- Bay n and those who work on it agree, the filler being this one. -/
structure State.AgreesAt (F : Filler) (s : State) (n : Nat) : Prop where
  fits : (s.view F n).Fits (s.plate? n)
  works : ∀ key, s.Works n key → keyIn .filling (s.plate? n) = some key
  marks : MarksFit (s.plate? n)

/-- All bays and those who work on them agree, the filler being this one. -/
structure State.Agrees (F : Filler) (s : State) : Prop where
  laws : s.BayTableLaws
  drum : s.exposure.current = none ↔ s.exposure.state = .idle
  at_ : ∀ n, s.AgreesAt F n

/-! ### The laws, bay by bay -/

/-- A count of at most one, positive exactly where a condition holds. -/
theorem count_eq_ite_iff {c : Nat} {b : Bool} : (c ≤ 1 ∧ (0 < c ↔ b = true)) ↔ c = if b then 1 else 0 := by
  cases b <;> simp <;> omega

theorem State.approvalQueueAgrees_iff (s : State) :
    s.ApprovalQueueAgrees ↔ ∀ n, s.approvalQueue.count n = if (keyIn .queued (s.plate? n)).isSome then 1 else 0 := by
  unfold State.ApprovalQueueAgrees
  simp only [State.bayIs_iff, List.nodup_iff_count_le_one, ← List.count_pos_iff, ← forall_and, count_eq_ite_iff]

theorem State.inspectionQueueAgrees_iff (s : State) :
    s.InspectionQueueAgrees ↔
      ∀ n, s.inspectionQueue.count (.bay n) = if (keyIn .exposed (s.plate? n)).isSome then 1 else 0 := by
  unfold State.InspectionQueueAgrees
  simp only [State.bayIs_iff, ← List.count_pos_iff, and_comm, count_eq_ite_iff]

theorem keyAtBay_agrees_iff {s : State} {o : Option (Nat × PlateKey)} {st : PlateState} :
    (∀ n key, o = some (n, key) ↔ s.BayHolds n key st) ↔ ∀ n, keyAtBay n o = keyIn st (s.plate? n) := by
  refine forall_congr' fun n => ?_
  rw [Option.ext_iff]
  simp only [State.bayHolds_iff, keyAtBay_eq_some]

theorem State.scanAgrees_iff (s : State) :
    s.ScanAgrees ↔ ∀ n, keyAtBay n s.scanned = keyIn .inspecting (s.plate? n) := by
  rw [← keyAtBay_agrees_iff]
  refine forall_congr' fun n => forall_congr' fun key => iff_congr ?_ Iff.rfl
  unfold State.scanned State.scan?
  cases s.inspection.work <;> simp

theorem Plate.anyAbsent_iff (p : Plate) : p.anyAbsent = true ↔ ∃ r ∈ p.strips, r.state = .absent := by
  simp [Plate.anyAbsent]

theorem State.fillerAgrees_iff (s : State) :
    s.FillerAgrees ↔
      (∀ n, s.filler.list.count n + (if (keyAtBay n s.filler.filling).isSome then 1 else 0) =
        if (keyIn .approving (s.plate? n)).isSome then 1 else 0) ∧
      (∀ n key, keyAtBay n s.filler.filling = some key → keyIn .approving (s.plate? n) = some key) ∧
      (∀ n p, 0 < s.filler.list.count n → s.plate? n = some p → p.anyAbsent = true) ∧
      (s.filler.fill = none → s.filler.list = []) := by
  have count : ∀ n, ((s.filler.fill.map FillContext.bay).toList ++ s.filler.list).count n =
      s.filler.list.count n + (if (keyAtBay n s.filler.filling).isSome then 1 else 0) := fun n => by
    unfold Filler.filling keyAtBay
    cases s.filler.fill with
    | none => simp
    | some f => by_cases hf : f.bay = n <;> simp [hf]
  have served : (((s.filler.fill.map FillContext.bay).toList ++ s.filler.list).Nodup ∧
      ∀ n, n ∈ (s.filler.fill.map FillContext.bay).toList ++ s.filler.list ↔ s.BayIs n .approving) ↔
      ∀ n, s.filler.list.count n + (if (keyAtBay n s.filler.filling).isSome then 1 else 0) =
        if (keyIn .approving (s.plate? n)).isSome then 1 else 0 := by
    simp only [List.nodup_iff_count_le_one, ← List.count_pos_iff, count, State.bayIs_iff, ← forall_and,
      count_eq_ite_iff]
  have fill : (∀ f, s.filler.fill = some f → s.BayHolds f.bay f.key .approving) ↔
      ∀ n key, keyAtBay n s.filler.filling = some key → keyIn .approving (s.plate? n) = some key := by
    simp only [keyAtBay_eq_some, State.bayHolds_iff, Filler.filling, Option.map_eq_some_iff, Prod.mk.injEq]
    exact ⟨fun h n key ⟨f, hf, hn, hk⟩ => hn ▸ hk ▸ h f hf, fun h f hf => h _ _ ⟨f, hf, rfl, rfl⟩⟩
  unfold State.FillerAgrees
  rw [← and_assoc, served, fill]
  simp only [List.count_pos_iff, Plate.anyAbsent_iff]

theorem State.decoderAgrees_iff (s : State) :
    s.DecoderAgrees ↔ ∀ n key, s.Works n key → keyIn .filling (s.plate? n) = some key := by
  unfold State.DecoderAgrees State.Works
  simp only [State.bayHolds_iff]
  exact ⟨fun h n key ⟨b, hb, c, hc, hn, hk⟩ => hn ▸ hk ▸ h b hb c hc, fun h b hb c hc => h _ _ ⟨b, hb, c, hc, rfl, rfl⟩⟩

theorem State.marksAgree_iff (s : State) : s.MarksAgree ↔ ∀ n, MarksFit (s.plate? n) := Iff.rfl

theorem State.platesAgree_iff (s : State) :
    s.PlatesAgree ↔ s.Agrees s.filler ∧ (s.filler.fill = none → s.filler.list = []) := by
  unfold State.PlatesAgree State.ExposureAgrees
  rw [State.approvalQueueAgrees_iff, State.inspectionQueueAgrees_iff, keyAtBay_agrees_iff, State.scanAgrees_iff,
    State.fillerAgrees_iff, State.decoderAgrees_iff, State.marksAgree_iff]
  constructor
  · rintro ⟨laws, queued, ⟨drum, exposing⟩, entries, scan, ⟨served, fill, listed, empty⟩, works, marks⟩
    exact ⟨⟨laws, drum, fun n => ⟨⟨queued n, entries n, exposing n, scan n, served n, fill n, listed n⟩, works n, marks n⟩⟩,
      empty⟩
  · rintro ⟨⟨laws, drum, at_⟩, empty⟩
    exact ⟨laws, fun n => (at_ n).fits.queued, ⟨drum, fun n => (at_ n).fits.drum⟩, fun n => (at_ n).fits.entries,
      fun n => (at_ n).fits.scan,
      ⟨fun n => (at_ n).fits.served, fun n => (at_ n).fits.fill, fun n => (at_ n).fits.listed, empty⟩,
      fun n => (at_ n).works, fun n => (at_ n).marks⟩

end Sys2Proof.Machine
end

section
/-! SUPPORT. How a change of one bay keeps the agreement: the states' views, the laws of the bay table, and the starts,
queueings and withdrawals that every owner shares. -/

namespace Sys2Proof.Machine

/-! ### The view of each state -/

/-- Nothing is said of the bay. -/
def View.empty : View := { queued := 0, entries := 0, listed := 0, drum := none, scan := none, fill := none }

theorem View.fits_none {v : View} : v.Fits none ↔ v = .empty := by
  constructor
  · rintro ⟨queued, entries, drum, scan, served, fill, -⟩
    rcases v with ⟨_, _, _, _, _, f⟩
    cases f <;> simp_all [View.empty]
  · rintro rfl
    constructor <;> simp [View.empty]

/-- A FILLING or HELD bay is on no queue and no block is at its plate. -/
theorem View.fits_apart {v : View} {p : Plate} (h : p.state = .filling ∨ p.state = .held) :
    v.Fits (some p) ↔ v = .empty := by
  constructor
  · rintro ⟨queued, entries, drum, scan, served, fill, -⟩
    cases v
    rcases h with h | h <;> simp_all [View.empty]
  · rintro rfl
    rcases h with h | h <;> constructor <;> simp [View.empty, h]

theorem View.fits_queued {v : View} {p : Plate} (h : p.state = .queued) :
    v.Fits (some p) ↔ v = { View.empty with queued := 1 } := by
  constructor
  · rintro ⟨queued, entries, drum, scan, served, fill, -⟩
    cases v
    simp_all [View.empty]
  · rintro rfl
    constructor <;> simp [View.empty, h]

theorem View.fits_exposing {v : View} {p : Plate} (h : p.state = .exposing) :
    v.Fits (some p) ↔ v = { View.empty with drum := some p.key } := by
  constructor
  · rintro ⟨queued, entries, drum, scan, served, fill, -⟩
    cases v
    simp_all [View.empty]
  · rintro rfl
    constructor <;> simp [View.empty, h]

theorem View.fits_exposed {v : View} {p : Plate} (h : p.state = .exposed) :
    v.Fits (some p) ↔ v = { View.empty with entries := 1 } := by
  constructor
  · rintro ⟨queued, entries, drum, scan, served, fill, -⟩
    cases v
    simp_all [View.empty]
  · rintro rfl
    constructor <;> simp [View.empty, h]

theorem View.fits_inspecting {v : View} {p : Plate} (h : p.state = .inspecting) :
    v.Fits (some p) ↔ v = { View.empty with scan := some p.key } := by
  constructor
  · rintro ⟨queued, entries, drum, scan, served, fill, -⟩
    cases v
    simp_all [View.empty]
  · rintro rfl
    constructor <;> simp [View.empty, h]

/-- The filler is at an APPROVING bay's plate, or the bay is on its list with an ABSENT strip (R93). -/
theorem View.fits_approving {v : View} {p : Plate} (h : p.state = .approving) :
    v.Fits (some p) ↔
      v = { View.empty with fill := some p.key } ∨ v = { View.empty with listed := 1 } ∧ p.anyAbsent = true := by
  constructor
  · rintro ⟨queued, entries, drum, scan, served, fill, listed⟩
    rcases v with ⟨_, _, _, _, _, f⟩
    cases f <;> simp_all [View.empty]
  · rintro (rfl | ⟨rfl, absent⟩) <;> constructor <;> simp_all [View.empty]

/-! ### Changes of one bay -/

/-- What the agreement at a bay is about is as it was, or less. -/
theorem State.AgreesAt.congr {F F' : Filler} {s t : State} {n : Nat} (h : s.AgreesAt F n)
    (plate : t.plate? n = s.plate? n) (view : t.view F' n = s.view F n) (works : ∀ key, t.Works n key → s.Works n key) :
    t.AgreesAt F' n := by
  refine ⟨?_, fun key w => ?_, ?_⟩
  · rw [plate, view]; exact h.fits
  · rw [plate]; exact h.works key (works key w)
  · rw [plate]; exact h.marks

/-- Every bay but n, and what the others say of it, is as it was. -/
structure State.Elsewhere (F F' : Filler) (s t : State) (n : Nat) : Prop where
  plate : ∀ m, m ≠ n → t.plate? m = s.plate? m
  view : ∀ m, m ≠ n → t.view F' m = s.view F m
  works : ∀ m, m ≠ n → ∀ key, t.Works m key → s.Works m key

/-- A change of one bay keeps the agreement, if the bay agrees after it and the laws of the table stand. -/
theorem State.Agrees.change {F F' : Filler} {s t : State} (h : s.Agrees F) (n : Nat) (elsewhere : State.Elsewhere F F' s t n)
    (laws : t.BayTableLaws) (drum : t.exposure.current = none ↔ t.exposure.state = .idle) (here : t.AgreesAt F' n) :
    t.Agrees F' := by
  refine ⟨laws, drum, fun m => ?_⟩
  by_cases hm : m = n
  · exact hm ▸ here
  · exact (h.at_ m).congr (elsewhere.plate m hm) (elsewhere.view m hm) (elsewhere.works m hm)

/-- What the others say depends on the queues, the current bay and the scan. -/
theorem State.view_congr {F : Filler} {s t : State} (approval : t.approvalQueue = s.approvalQueue)
    (inspection : t.inspectionQueue = s.inspectionQueue) (current : t.exposure.current = s.exposure.current)
    (scan : t.scanned = s.scanned) (n : Nat) : t.view F n = s.view F n := by
  unfold State.view; rw [approval, inspection, current, scan]

theorem State.works_congr {s t : State} (h : t.decoder.buffers = s.decoder.buffers) (n : Nat) (key : PlateKey) :
    t.Works n key ↔ s.Works n key := by
  unfold State.Works; rw [h]

theorem State.bayTableLaws_congr {s t : State} (h : t.bays = s.bays) : t.BayTableLaws ↔ s.BayTableLaws := by
  unfold State.BayTableLaws
  simp only [State.plate?_congr h]

/-- A change that touches neither the bay table nor those who work on its plates. -/
theorem State.Agrees.frame {F : Filler} {s t : State} (h : s.Agrees F) (bays : t.bays = s.bays)
    (approval : t.approvalQueue = s.approvalQueue) (inspection : t.inspectionQueue = s.inspectionQueue)
    (current : t.exposure.current = s.exposure.current) (idle : t.exposure.state = .idle ↔ s.exposure.state = .idle)
    (scan : t.scanned = s.scanned) (decoder : ∀ n key, t.Works n key → s.Works n key) : t.Agrees F :=
  ⟨(State.bayTableLaws_congr bays).2 h.laws, by rw [current, idle]; exact h.drum, fun n =>
    (h.at_ n).congr (State.plate?_congr bays n) (State.view_congr approval inspection current scan n) (decoder n)⟩

/-! ### The laws of the bay table (R3) -/

/-- Every plate of `t` but bay n's is in `s` in the same bay with the same key, and on its way there if it is on its
way. -/
def State.Carried (s t : State) (n : Nat) : Prop :=
  ∀ m, m ≠ n → ∀ q, t.plate? m = some q → ∃ q', s.plate? m = some q' ∧ q'.key = q.key ∧ (q.OnItsWay → q'.OnItsWay)

theorem State.Carried.of_plate {s t : State} {n : Nat} (h : ∀ m, m ≠ n → t.plate? m = s.plate? m) : s.Carried t n :=
  fun m hm q hq => ⟨q, h m hm ▸ hq, rfl, id⟩

/-- No bay gains a key or comes on its way. -/
theorem State.BayTableLaws.of_carried {s t : State} {n : Nat} (h : s.BayTableLaws) (others : s.Carried t n)
    (here : ∀ q, t.plate? n = some q → ∃ q', s.plate? n = some q' ∧ q'.key = q.key ∧ (q.OnItsWay → q'.OnItsWay)) :
    t.BayTableLaws := by
  have all : ∀ m q, t.plate? m = some q → ∃ q', s.plate? m = some q' ∧ q'.key = q.key ∧ (q.OnItsWay → q'.OnItsWay) :=
    fun m q hq => by
      by_cases hm : m = n
      · subst hm; exact here q hq
      · exact others m hm q hq
  intro i j p q hp hq
  obtain ⟨p', hp', kp, wp⟩ := all i p hp
  obtain ⟨q', hq', kq, wq⟩ := all j q hq
  obtain ⟨keys, page⟩ := h i j p' q' hp' hq'
  rw [kp, kq] at keys page
  exact ⟨keys, fun he hg hs way =>
    ⟨(page he hg hs (wp way)).1, fun way' => (page he hg hs (wp way)).2 (wq way')⟩⟩

theorem PlateKey.samePage_iff (a b : PlateKey) :
    a.samePage b = true ↔ a.edition = b.edition ∧ a.page = b.page ∧ a.separation = b.separation := by
  simp [PlateKey.samePage]

/-- A bay whose plate is the newest of its page-separation, with no other of it on its way. -/
theorem State.BayTableLaws.enter {s t : State} {n : Nat} {p : Plate} (h : s.BayTableLaws) (others : s.Carried t n)
    (here : t.plate? n = some p)
    (newest : ∀ m, m ≠ n → ∀ q, t.plate? m = some q → q.key ≠ p.key ∧
      (q.key.samePage p.key = true → q.key.version ≤ p.key.version ∧ ¬ q.OnItsWay)) : t.BayTableLaws := by
  intro i j a b ha hb
  by_cases hi : i = n
  · subst hi
    obtain rfl : p = a := by simpa [here] using ha
    by_cases hj : j = i
    · subst hj
      obtain rfl : p = b := by simpa [here] using hb
      exact ⟨fun _ => rfl, fun _ _ _ _ => ⟨le_rfl, fun _ => rfl⟩⟩
    · obtain ⟨key, page⟩ := newest j hj b hb
      refine ⟨fun hk => absurd hk.symm key, fun he hg hs _ => ?_⟩
      obtain ⟨version, off⟩ := page ((PlateKey.samePage_iff _ _).2 ⟨he.symm, hg.symm, hs.symm⟩)
      exact ⟨version, fun way => absurd way off⟩
  · by_cases hj : j = n
    · subst hj
      obtain rfl : p = b := by simpa [here] using hb
      obtain ⟨key, page⟩ := newest i hi a ha
      exact ⟨fun hk => absurd hk key, fun he hg hs way =>
        absurd way (page ((PlateKey.samePage_iff _ _).2 ⟨he, hg, hs⟩)).2⟩
    · obtain ⟨a', ha', ka, wa⟩ := others i hi a ha
      obtain ⟨b', hb', kb, wb⟩ := others j hj b hb
      obtain ⟨keys, page⟩ := h i j a' b' ha' hb'
      rw [ka, kb] at keys page
      exact ⟨keys, fun he hg hs way =>
        ⟨(page he hg hs (wa way)).1, fun way' => (page he hg hs (wa way)).2 (wb way')⟩⟩

/-- A resident plate that is not superseded may come back on its way: no other of its page-separation is (R3, R16, R22). -/
theorem State.BayTableLaws.requeue {s t : State} {n : Nat} {p p' : Plate} (h : s.BayTableLaws) (hp : s.plate? n = some p)
    (newest : s.superseded p.key = false) (others : ∀ m, m ≠ n → t.plate? m = s.plate? m) (here : t.plate? n = some p')
    (key : p'.key = p.key) : t.BayTableLaws := by
  refine h.enter (.of_plate others) here fun m hm q hq => ?_
  rw [others m hm] at hq
  rw [key]
  have keys : q.key ≠ p.key := fun hk => hm ((h m n q p hq hp).1 hk)
  refine ⟨keys, fun page => ?_⟩
  have version := State.superseded_false newest hq page
  refine ⟨version, fun way => keys ?_⟩
  obtain ⟨he, hg, hs⟩ := (PlateKey.samePage_iff _ _).1 page
  have back := ((h m n q p hq hp).2 he hg hs way).1
  have hv : q.key.version = p.key.version := by omega
  cases hqk : q.key; cases hpk : p.key
  simp_all

end Sys2Proof.Machine
end

section
/-! SUPPORT. Starts, queueings, withdrawals and judgements keep the agreement of the plates. -/

namespace Sys2Proof.Machine

variable {F F' : Filler} {s t : State}

/-! ### Reading the agreement -/

theorem keyIn_isSome {st : PlateState} {o : Option Plate} (h : (keyIn st o).isSome = true) :
    ∃ p, o = some p ∧ p.state = st := by
  rcases o with _ | p
  · simp at h
  · exact ⟨p, rfl, by simpa using h⟩

theorem keyIn_eq_some {st : PlateState} {o : Option Plate} {key : PlateKey} (h : keyIn st o = some key) :
    ∃ p, o = some p ∧ p.state = st ∧ p.key = key := by
  obtain ⟨p, hp, hst⟩ := keyIn_isSome (Option.isSome_of_eq_some h)
  exact ⟨p, hp, hst, by simpa [hp, hst] using h⟩

/-- What is said of a resident bay fits its plate. -/
theorem State.Agrees.fits (h : s.Agrees F) {n : Nat} {p : Plate} (hp : s.plate? n = some p) : (s.view F n).Fits (some p) :=
  hp ▸ (h.at_ n).fits

theorem State.Agrees.marks (h : s.Agrees F) {n : Nat} {p : Plate} (hp : s.plate? n = some p) :
    (p.approvalHeld = true → p.state = .filling) ∧ (p.autoDue = true → p.state = .held) :=
  (h.at_ n).marks p hp

/-- No strip buffer works on a bay that is not FILLING. -/
theorem State.Agrees.not_works (h : s.Agrees F) {n : Nat} {p : Plate} (hp : s.plate? n = some p) (off : p.state ≠ .filling)
    (key : PlateKey) : ¬ s.Works n key := fun w => by
  have := (h.at_ n).works key w
  simp [hp, off] at this

theorem State.Agrees.queued_of_mem (h : s.Agrees F) {n : Nat} (hn : n ∈ s.approvalQueue) :
    ∃ p, s.plate? n = some p ∧ p.state = .queued := by
  refine keyIn_isSome ?_
  have count := (h.at_ n).fits.queued
  have pos : 0 < s.approvalQueue.count n := List.count_pos_iff.2 hn
  by_contra off
  simp only [State.view, off, if_false] at count
  omega

/-- The plate of a bay that a bay set in the table holds. -/
theorem State.plate?_eq_of_setBay {n : Nat} {o : Option Plate} (hn : n < s.bays.length)
    (bays : t.bays = (s.setBay n o).bays) : t.plate? n = o := by
  rw [State.plate?_congr bays, State.plate?_setBay s hn]

theorem State.plate?_other_of_setBay {m n : Nat} {o : Option Plate} (hm : m ≠ n) (bays : t.bays = (s.setBay n o).bays) :
    t.plate? m = s.plate? m := by
  rw [State.plate?_congr bays, State.plate?_setBay_other s hm]

/-! ### Starts (R13, R118, R120) -/

@[simp] theorem State.beginFetch_current (s : State) : s.beginFetch.exposure.current = s.exposure.current := by
  rcases s.beginFetch_cases with h | ⟨-, -, h⟩ <;> rw [h]; simp
@[simp] theorem State.beginFetch_state (s : State) : s.beginFetch.exposure.state = s.exposure.state := by
  rcases s.beginFetch_cases with h | ⟨-, -, h⟩ <;> rw [h]; simp

theorem State.Agrees.takeStart (h : s.Agrees F) (allowed : s.startRefusal = none) : s.takeStart.Agrees F := by
  obtain ⟨idle, nonempty, -⟩ := State.startRefusal_none allowed
  obtain ⟨n, rest, queue⟩ := List.exists_cons_of_ne_nil nonempty
  obtain ⟨p, hp, queued⟩ := h.queued_of_mem (n := n) (by simp [queue])
  have view := (View.fits_queued queued).1 (h.fits hp)
  have current : s.exposure.current = none := h.drum.2 idle
  rcases s.takeStart_cases with h' | ⟨n', rest', p', queue', hp', h'⟩
  · rw [h']; exact h
  obtain ⟨rfl, rfl⟩ : n' = n ∧ rest' = rest := by simpa [queue] using queue'.symm
  obtain rfl : p' = p := by simpa [hp] using hp'.symm
  have bays : s.takeStart.bays = (s.setBay n' (some { p' with state := .exposing })).bays := by rw [h']; simp [State.setBay]
  have others : ∀ m, m ≠ n' → s.takeStart.plate? m = s.plate? m := fun m hm => State.plate?_other_of_setBay hm bays
  have here := State.plate?_eq_of_setBay (State.plate?_lt hp) bays
  have works : ∀ m key, s.takeStart.Works m key → s.Works m key := fun m key =>
    (State.works_congr (by rw [h']; simp) m key).1
  have said : ∀ m, s.takeStart.view F m =
      { s.view F m with queued := rest'.count m, drum := keyAtBay m (some (n', p'.key)) } := fun m => by
    rw [h']; simp [State.view, State.scanned, State.scan?]
  refine h.change n' ⟨others, fun m hm => ?_, fun m _ => works m⟩ ?_ ?_ ?_
  · rw [said, keyAtBay_other hm]
    simp [State.view, queue, current, List.count_cons_of_ne (Ne.symm hm)]
  · refine h.laws.of_carried (.of_plate others) fun q hq => ?_
    obtain rfl := Option.some.inj (here.symm.trans hq)
    exact ⟨p', hp, rfl, fun way => by simp [Plate.OnItsWay] at way⟩
  · rw [h']; simp
  · refine ⟨?_, fun key w => absurd (works n' key w) (h.not_works hp (by simp [queued]) key), ?_⟩
    · have count : rest'.count n' = 0 := by
        have := congrArg View.queued view
        simpa [State.view, queue, View.empty] using this
      rw [here, View.fits_exposing rfl, said, view, count, keyAtBay_self]
      rfl
    · rw [here]
      rintro _ ⟨⟩
      have marks := h.marks hp
      simp only [queued] at marks
      exact ⟨fun held => absurd (marks.1 held) (by simp), fun due => absurd (marks.2 due) (by simp)⟩

theorem State.Agrees.autoEvent (h : s.Agrees F) : s.autoEvent.Agrees F := by
  rcases s.autoEvent_cases with h' | ⟨-, -, allowed, h'⟩ <;> rw [h']
  · exact h
  · exact h.takeStart allowed

/-! ### Queueings (R11) -/

/-- The bay table after a change of a plate depends on the bay table alone. -/
theorem State.modPlate_bays_congr {s t : State} (h : t.bays = s.bays) (n : Nat) (f : Plate → Plate) :
    (t.modPlate n f).bays = (s.modPlate n f).bays := by
  unfold State.modPlate
  rw [State.plate?_congr h]
  split
  · simp only [State.setBay, h]
  · exact h

/-- The bay is QUEUED and its source set, the AUTO event not yet reported. -/
def State.enqueue (n : Nat) (atHead : Bool) (s : State) : State :=
  State.setSource n <| State.modPlate n (fun p => { p with state := .queued })
    { s with approvalQueue := if atHead then n :: s.approvalQueue else s.approvalQueue ++ [n] }

theorem State.becomeQueued_eq (n : Nat) (atHead : Bool) (s : State) :
    s.becomeQueued n atHead = (s.enqueue n atHead).autoEvent := rfl

theorem State.enqueue_bays (n : Nat) (atHead : Bool) (s : State) :
    (s.enqueue n atHead).bays = (s.modPlate n fun p => { p with state := .queued }).bays := by
  unfold State.enqueue
  rw [State.setSource_bays]
  refine State.modPlate_bays_congr ?_ n _
  rfl

theorem State.enqueue_plate? (n : Nat) (atHead : Bool) (s : State) :
    (s.enqueue n atHead).plate? n = (s.plate? n).map fun p => { p with state := .queued } := by
  rw [State.plate?_congr (s.enqueue_bays n atHead), State.plate?_modPlate]

theorem State.enqueue_plate?_other {m n : Nat} (hm : m ≠ n) (atHead : Bool) (s : State) :
    (s.enqueue n atHead).plate? m = s.plate? m := by
  rw [State.plate?_congr (s.enqueue_bays n atHead), State.plate?_modPlate_other _ hm]

theorem State.enqueue_view (n : Nat) (atHead : Bool) (s : State) (m : Nat) :
    (s.enqueue n atHead).view F m =
      { s.view F m with queued := (s.view F m).queued + if m = n then 1 else 0 } := by
  have count : (if atHead then n :: s.approvalQueue else s.approvalQueue ++ [n]).count m =
      s.approvalQueue.count m + if m = n then 1 else 0 := by
    by_cases hm : m = n
    · subst hm; cases atHead <;> simp
    · cases atHead <;> simp [hm, List.count_cons_of_ne (Ne.symm hm)]
  simp [State.view, State.enqueue, State.scanned, State.scan?, count]

theorem State.enqueue_works (n : Nat) (atHead : Bool) (s : State) (m : Nat) (key : PlateKey) :
    (s.enqueue n atHead).Works m key ↔ s.Works m key := State.works_congr (by simp [State.enqueue]) m key

/-- A bay on no queue, with no block at its plate, agrees. -/
theorem State.AgreesAt.of_apart {n : Nat} {p : Plate} (hp : s.plate? n = some p) (apart : p.state = .filling ∨ p.state = .held)
    (view : s.view F n = .empty) (works : ∀ key, s.Works n key → p.state = .filling ∧ p.key = key)
    (marks : (p.approvalHeld = true → p.state = .filling) ∧ (p.autoDue = true → p.state = .held)) : s.AgreesAt F n := by
  refine ⟨?_, fun key w => ?_, ?_⟩ <;> rw [hp]
  · exact (View.fits_apart apart).2 view
  · obtain ⟨hst, hk⟩ := works key w; simp [hst, hk]
  · rintro _ ⟨⟩; exact marks

/-- A bay of any other state, with no marks and no strip buffer, agrees where what is said of it fits. -/
theorem State.AgreesAt.of_fits {n : Nat} {p : Plate} (hp : s.plate? n = some p) (fits : (s.view F n).Fits (some p))
    (works : ∀ key, ¬ s.Works n key) (held : p.approvalHeld = false) (due : p.autoDue = false) : s.AgreesAt F n := by
  refine ⟨?_, fun key w => absurd w (works key), ?_⟩ <;> rw [hp]
  · exact fits
  · rintro _ ⟨⟩; simp [held, due]

/-- A bay of which nothing is said becomes QUEUED, and all agree (R11). -/
theorem State.Agrees.becomeQueued {n : Nat} {p : Plate} (h : s.Agrees F) (elsewhere : State.Elsewhere F F' s t n)
    (hp : t.plate? n = some p) (view : t.view F' n = .empty) (works : ∀ key, ¬ t.Works n key)
    (held : p.approvalHeld = false) (due : p.autoDue = false)
    (laws : ∀ u : State, (∀ m, m ≠ n → u.plate? m = s.plate? m) → u.plate? n = some { p with state := .queued } →
      u.BayTableLaws)
    (drum : t.exposure.current = none ↔ t.exposure.state = .idle) (atHead : Bool) :
    (t.becomeQueued n atHead).Agrees F' := by
  have others : ∀ m, m ≠ n → (t.enqueue n atHead).plate? m = s.plate? m := fun m hm =>
    (State.enqueue_plate?_other hm atHead t).trans (elsewhere.plate m hm)
  have here : (t.enqueue n atHead).plate? n = some { p with state := .queued } := by
    rw [State.enqueue_plate?, hp]; rfl
  rw [State.becomeQueued_eq]
  refine State.Agrees.autoEvent (h.change n ⟨others, fun m hm => ?_, fun m hm key w => ?_⟩ (laws _ others here) ?_ ?_)
  · rw [State.enqueue_view, ← elsewhere.view m hm, if_neg hm]; rfl
  · exact elsewhere.works m hm key ((State.enqueue_works n atHead t m key).1 w)
  · simpa [State.enqueue] using drum
  · refine .of_fits here ((View.fits_queued rfl).2 ?_) (fun key w => ?_) held due
    · rw [State.enqueue_view, view, if_pos rfl]; rfl
    · exact works key ((State.enqueue_works n atHead t n key).1 w)

/-! ### The filler (R93, R95, R96) -/

/-- An IDLE filler has an empty fill list. -/
def Filler.Tidy (F : Filler) : Prop := F.fill = none → F.list = []

/-- The filler that has let go of its bay, its list as it was. -/
def Filler.released (F : Filler) : Filler := { fill := none, list := F.list }

theorem State.startFill_filler {n : Nat} {p : Plate} (hp : s.plate? n = some p) (absent : p.anyAbsent = true) :
    ∃ f : FillContext, f.bay = n ∧ f.key = p.key ∧ (s.startFill n).filler = { s.filler with fill := some f } := by
  obtain ⟨i, hi⟩ := Plate.nextAbsent_some absent
  unfold State.startFill
  simp only [hp, hi, State.askFill, State.onStore_filler]
  exact ⟨_, rfl, rfl, rfl⟩

/-- The bay at the head of a fill list is APPROVING with an ABSENT strip. -/
theorem State.AgreesAt.listed {n : Nat} (h : s.AgreesAt F n) (listed : n ∈ F.list) :
    ∃ p, s.plate? n = some p ∧ p.state = .approving ∧ p.anyAbsent = true ∧
      s.view F n = { View.empty with listed := 1 } := by
  have pos : 0 < F.list.count n := List.count_pos_iff.2 listed
  obtain ⟨p, hp, approving⟩ : ∃ p, s.plate? n = some p ∧ p.state = .approving := by
    refine keyIn_isSome ?_
    by_contra off
    have served := h.fits.served
    simp only [State.view, off] at served
    simp at served
    omega
  have fits := h.fits
  rw [hp] at fits
  rcases (View.fits_approving approving).1 fits with view | ⟨view, absent⟩
  · have := congrArg View.listed view
    simp only [State.view, View.empty] at this
    omega
  · exact ⟨p, hp, approving, absent, view⟩

/-- The filler that goes on is IDLE with its list empty, or at the plate of the bay that was at the head of its list. -/
theorem State.nextFill_filler (heads : ∀ n ∈ s.filler.list, s.AgreesAt s.filler.released n) :
    (s.filler.list = [] ∧ s.nextFill.filler = s.filler.released) ∨
    ∃ n rest p, ∃ f : FillContext, s.filler.list = n :: rest ∧ s.plate? n = some p ∧ p.state = .approving ∧
      s.view s.filler.released n = { View.empty with listed := 1 } ∧ f.bay = n ∧ f.key = p.key ∧
      s.nextFill.filler = { fill := some f, list := rest } := by
  cases hl : s.filler.list with
  | nil => left; unfold State.nextFill Filler.released; simp [hl]
  | cons n rest =>
    right
    obtain ⟨p, hp, approving, absent, view⟩ := (heads n (by simp [hl])).listed (by simp [Filler.released, hl])
    obtain ⟨f, hbay, hkey, filler⟩ := State.startFill_filler (s := { s with filler := { fill := none, list := rest } }) hp absent
    refine ⟨n, rest, p, f, rfl, hp, approving, view, hbay, hkey, ?_⟩
    unfold State.nextFill
    simp only [hl]
    exact filler

/-- What is said of a bay that was not on the list is as it was. -/
theorem State.nextFill_view (heads : ∀ n ∈ s.filler.list, s.AgreesAt s.filler.released n) {m : Nat}
    (hm : m ∉ s.filler.list) : s.nextFill.view s.nextFill.filler m = s.view s.filler.released m := by
  rcases State.nextFill_filler heads with ⟨-, filler⟩ | ⟨n, rest, p, f, hl, -, -, -, hbay, hkey, filler⟩ <;> rw [filler]
  · exact State.view_congr (by simp) (by simp) (by simp) (by simp [State.scanned, State.scan?]) m
  · simp only [hl, List.mem_cons, not_or] at hm
    simp [State.view, State.scanned, State.scan?, Filler.filling, Filler.released, hl, hbay, keyAtBay_other hm.1,
      List.count_cons_of_ne (Ne.symm hm.1)]

/-- The filler goes on to the head of its list, and each bay that agreed with the list agrees. -/
theorem State.nextFill_agreesAt (heads : ∀ n ∈ s.filler.list, s.AgreesAt s.filler.released n) {m : Nat}
    (h : s.AgreesAt s.filler.released m) : s.nextFill.AgreesAt s.nextFill.filler m := by
  have plate : ∀ k, s.nextFill.plate? k = s.plate? k := State.plate?_congr (by simp)
  have works : ∀ k key, s.nextFill.Works k key → s.Works k key := fun k key => (State.works_congr (by simp) k key).1
  by_cases listed : m ∈ s.filler.list
  · rcases State.nextFill_filler heads with ⟨hl, -⟩ | ⟨n, rest, p, f, hl, hp, approving, view, hbay, hkey, filler⟩
    · simp [hl] at listed
    · have said : ∀ k, s.nextFill.view s.nextFill.filler k =
          { s.view s.filler.released k with listed := rest.count k, fill := keyAtBay k (some (n, p.key)) } := fun k => by
        rw [filler]
        simp [State.view, State.scanned, State.scan?, Filler.filling, hbay, hkey]
      by_cases hm : m = n
      · subst hm
        have count : rest.count m = 0 := by
          have := congrArg View.listed view
          simpa [State.view, Filler.released, hl, View.empty] using this
        have marks := h.marks
        refine ⟨?_, fun key w => ?_, ?_⟩
        · rw [plate, hp, View.fits_approving approving, said, view, count, keyAtBay_self]
          exact .inl rfl
        · rw [plate]; exact h.works key (works m key w)
        · rw [plate]; exact marks
      · refine h.congr (plate m) ?_ (works m)
        rw [said, keyAtBay_other hm]
        simp [State.view, Filler.released, Filler.filling, hl, List.count_cons_of_ne (Ne.symm hm)]
  · exact h.congr (plate m) (State.nextFill_view heads listed) (works m)

theorem State.nextFill_tidy (heads : ∀ n ∈ s.filler.list, s.AgreesAt s.filler.released n) : s.nextFill.filler.Tidy := by
  rcases State.nextFill_filler heads with ⟨hl, filler⟩ | ⟨n, rest, p, f, -, -, -, -, -, -, filler⟩ <;> rw [filler]
  · exact fun _ => hl
  · simp [Filler.Tidy]

end Sys2Proof.Machine
end

section
/-! SUPPORT. Freeing a bay, judging its approval and ending its fill keep the agreement of the plates. -/

namespace Sys2Proof.Machine

variable {F F' : Filler} {s t : State}

/-! ### Abandoned buffers (R67) -/

/-- Abandoned buffers work on the bay no longer, and the others work on as they did. -/
theorem State.abandonBay_works (s : State) (n m : Nat) (key : PlateKey) :
    (s.abandonBay n).Works m key ↔ m ≠ n ∧ s.Works m key := by
  have forBay : ∀ (b : StripBuffer) (c : StripContext), b.context = some c → (b.forBay n = true ↔ c.bay = n) := by
    intro b c hc; simp [StripBuffer.forBay, hc]
  constructor
  · rintro ⟨b, hb, c, hc, hbay, hkey⟩
    obtain ⟨b', hb', rfl⟩ := List.mem_map.1 hb
    split at hc
    · simp [StripBuffer.context] at hc
    · rename_i off
      rw [forBay b' c hc] at off
      exact ⟨fun hm => off (hbay.trans hm), b', hb', c, hc, hbay, hkey⟩
  · rintro ⟨hm, b, hb, c, hc, hbay, hkey⟩
    refine ⟨b, List.mem_map.2 ⟨b, hb, if_neg ?_⟩, c, hc, hbay, hkey⟩
    rw [forBay b c hc, hbay]
    exact hm

theorem State.abandonBay_plate? (s : State) (n m : Nat) : (s.abandonBay n).plate? m = s.plate? m :=
  State.plate?_congr rfl m

theorem State.abandonBay_view (s : State) (n m : Nat) : (s.abandonBay n).view F m = s.view F m :=
  State.view_congr rfl rfl rfl rfl m

/-! ### Freeing (R8) -/

/-- A fill stopped leaves nothing said of its bay, and the others agreeing (R96). -/
theorem State.Agrees.stopFill (h : s.Agrees s.filler) (tidy : s.filler.Tidy) {n : Nat} {p : Plate}
    (hp : s.plate? n = some p) (approving : p.state = .approving) :
    (∀ m, m ≠ n → (s.stopFill n).AgreesAt (s.stopFill n).filler m) ∧
    (s.stopFill n).view (s.stopFill n).filler n = .empty ∧ (s.stopFill n).filler.Tidy := by
  have said := (View.fits_approving approving).1 (h.fits hp)
  have works : ∀ m key, (s.stopFill n).Works m key → s.Works m key := fun m key => (State.works_congr (by simp) m key).1
  unfold State.stopFill at works ⊢
  split at works
  · rename_i on
    obtain ⟨f, hf, hbay⟩ := (Option.any_eq_true ..).1 on
    have hbay : f.bay = n := by simpa using hbay
    rw [if_pos on]
    have view : s.view s.filler n = { View.empty with fill := some p.key } := by
      rcases said with said | ⟨said, -⟩
      · exact said
      · have := congrArg View.fill said
        simp [State.view, Filler.filling, hf, hbay, View.empty] at this
    have unlisted : n ∉ s.filler.list := by
      have := congrArg View.listed view
      simp only [State.view, View.empty] at this
      exact List.count_eq_zero.1 this
    have released : ∀ m, m ≠ n → (s.onStore (Store.stop .filler)).AgreesAt
        (s.onStore (Store.stop .filler)).filler.released m := fun m hm => by
      refine (h.at_ m).congr (State.plate?_congr rfl m) ?_ fun key w => w
      simp [State.view, Filler.released, Filler.filling, hf, hbay, keyAtBay_other hm, State.scanned, State.scan?]
    have heads : ∀ m ∈ (s.onStore (Store.stop .filler)).filler.list, (s.onStore (Store.stop .filler)).AgreesAt
        (s.onStore (Store.stop .filler)).filler.released m := fun m hm =>
      released m fun hmn => unlisted (hmn ▸ hm)
    refine ⟨fun m hm => State.nextFill_agreesAt heads (released m hm), ?_, State.nextFill_tidy heads⟩
    rw [State.nextFill_view heads unlisted]
    have view' : s.view s.filler.released n = { s.view s.filler n with fill := none } := rfl
    exact view'.trans (by rw [view]; rfl)
  · rename_i off
    rw [if_neg off]
    have away : keyAtBay n s.filler.filling = none := by
      cases hf : s.filler.fill with
      | none => simp [Filler.filling, hf]
      | some f =>
        simp only [hf, Option.any_some, decide_eq_true_eq] at off
        simp [Filler.filling, hf, keyAtBay_other (Ne.symm off)]
    refine ⟨fun m hm => (h.at_ m).congr (State.plate?_congr rfl m) ?_ fun key w => w, ?_, ?_⟩
    · simp [State.view, Filler.filling, State.scanned, State.scan?, List.count_filter, hm]
    · have view : s.view s.filler n = { View.empty with listed := 1 } := by
        rcases said with said | ⟨said, -⟩
        · have := congrArg View.fill said
          simp [State.view, away] at this
        · exact said
      have filtered : (s.filler.list.filter fun m => decide (m ≠ n)).count n = 0 := by
        simp [List.count_eq_zero]
      have shown : State.view { fill := s.filler.fill, list := s.filler.list.filter fun m => decide (m ≠ n) } s n =
          { s.view s.filler n with listed := 0 } := by
        unfold State.view
        rw [filtered]; rfl
      exact shown.trans (by rw [view]; rfl)
    · exact fun none => by simp [tidy none]

/-- What a bay's neighbours have let go of says nothing of it, and the other bays agree (R8). -/
theorem State.Agrees.letGo (h : s.Agrees s.filler) (tidy : s.filler.Tidy) {n : Nat} {p : Plate} (hp : s.plate? n = some p)
    (releasable : p.state = .filling ∨ p.state = .approving ∨ p.state = .queued ∨ p.state = .held) :
    (∀ m, m ≠ n → (s.letGo n p).AgreesAt (s.letGo n p).filler m) ∧
    (s.letGo n p).view (s.letGo n p).filler n = .empty ∧ (∀ key, ¬ (s.letGo n p).Works n key) ∧
    (s.letGo n p).filler.Tidy := by
  have answered : ∀ (u : State) (k : Option Nat) (r : Reply) (m : Nat), (u.answer? k r).plate? m = u.plate? m ∧
      (u.answer? k r).view (u.answer? k r).filler m = u.view u.filler m ∧
      ∀ key, (u.answer? k r).Works m key ↔ u.Works m key := fun u k r m =>
    ⟨State.plate?_congr (by simp) m, by
      rw [State.answer?_filler]
      exact State.view_congr (by simp) (by simp) (by simp) (by simp [State.scanned, State.scan?]) m,
      State.works_congr (by simp) m⟩
  rcases releasable with hst | hst | hst | hst
  · have abandoned : ∀ u : State, u.plate? = s.plate? → (∀ m, u.view u.filler m = s.view s.filler m) →
        (∀ m key, u.Works m key ↔ m ≠ n ∧ s.Works m key) → u.filler = s.filler →
        (∀ m, m ≠ n → u.AgreesAt u.filler m) ∧ u.view u.filler n = .empty ∧ (∀ key, ¬ u.Works n key) ∧ u.filler.Tidy :=
      fun u plate view works filler =>
        ⟨fun m _ => (h.at_ m).congr (congrFun plate m) (view m) fun key w => ((works m key).1 w).2,
          (view n).trans ((View.fits_apart (.inl hst)).1 (h.fits hp)), fun key w => ((works n key).1 w).1 rfl,
          filler ▸ tidy⟩
    unfold State.letGo
    simp only [hst]
    split
    · refine abandoned _ (funext fun m => ?_) (fun m => ?_) (fun m key => ?_) (by simp)
      · exact (answered _ _ _ m).1.trans (State.plate?_congr rfl m)
      · exact (answered _ _ _ m).2.1.trans (s.abandonBay_view n m)
      · exact ((answered _ _ _ m).2.2 key).trans (s.abandonBay_works n m key)
    · exact abandoned _ rfl (s.abandonBay_view n) (s.abandonBay_works n) rfl
  · obtain ⟨others, view, tidy'⟩ := h.stopFill tidy hp hst
    unfold State.letGo
    simp only [hst]
    refine ⟨fun m hm => ?_, ?_, fun key w => ?_, by simpa using tidy'⟩
    · exact (others m hm).congr (answered _ _ _ m).1 (answered _ _ _ m).2.1 fun key => ((answered _ _ _ m).2.2 key).1
    · exact (answered _ _ _ n).2.1.trans view
    · exact h.not_works hp (by simp [hst]) key ((State.works_congr (by simp) n key).1 w)
  · have view := (View.fits_queued hst).1 (h.fits hp)
    unfold State.letGo
    simp only [hst]
    refine ⟨fun m hm => (h.at_ m).congr (State.plate?_congr rfl m) ?_ fun key w => w, ?_,
      h.not_works hp (by simp [hst]), tidy⟩
    · simp [State.view, State.scanned, State.scan?, List.count_filter, hm]
    · have filtered : (s.approvalQueue.filter fun m => decide (m ≠ n)).count n = 0 := by simp [List.count_eq_zero]
      have shown : State.view s.filler { s with approvalQueue := s.approvalQueue.filter fun m => decide (m ≠ n) } n =
          { s.view s.filler n with queued := 0 } := by
        unfold State.view
        rw [filtered]; rfl
      exact shown.trans (by rw [view]; rfl)
  · unfold State.letGo
    simp only [hst]
    exact ⟨fun m _ => h.at_ m, (View.fits_apart (.inr hst)).1 (h.fits hp), h.not_works hp (by simp [hst]), tidy⟩

/-- A freed bay and all others agree (R8, R20, R21). -/
theorem State.Agrees.freeBay (h : s.Agrees s.filler) (tidy : s.filler.Tidy) {n : Nat} {p : Plate} (hp : s.plate? n = some p)
    (releasable : p.state = .filling ∨ p.state = .approving ∨ p.state = .queued ∨ p.state = .held) :
    (s.freeBay n).Agrees (s.freeBay n).filler ∧ (s.freeBay n).filler.Tidy := by
  obtain ⟨others, view, works, tidy'⟩ := h.letGo tidy hp releasable
  have freed : s.freeBay n = State.setSource n (State.setBay n none (s.letGo n p)) := by
    unfold State.freeBay; simp only [hp]
  have filler : (s.freeBay n).filler = (s.letGo n p).filler := by rw [freed]; simp
  have said : ∀ m, (s.freeBay n).view (s.freeBay n).filler m = (s.letGo n p).view (s.letGo n p).filler m := fun m => by
    rw [filler, freed]
    exact State.view_congr rfl rfl rfl rfl m
  have works' : ∀ m key, (s.freeBay n).Works m key → (s.letGo n p).Works m key := fun m key => by
    rw [freed]; exact id
  have plate := State.plate?_freeBay hp
  rw [filler]
  refine ⟨⟨?_, ?_, fun m => ?_⟩, tidy'⟩
  · refine h.laws.of_carried (n := n) (fun m hm q hq => ⟨q, ?_, rfl, id⟩) fun q hq => ?_
    · rw [plate, if_neg hm] at hq; exact hq
    · rw [plate, if_pos rfl] at hq; cases hq
  · simpa using h.drum
  · by_cases hm : m = n
    · subst hm
      have here : (s.freeBay m).plate? m = none := by rw [plate, if_pos rfl]
      refine ⟨?_, fun key w => absurd (works' m key w) (works key), ?_⟩
      · rw [here, ← filler, said, view, View.fits_none]
      · rw [here]; rintro _ ⟨⟩
    · refine (others m hm).congr ?_ (by have := said m; rwa [filler] at this) (works' m)
      rw [plate, if_neg hm]
      exact (State.plate?_congr (by simp) m).symm

/-! ### Approvals (R9) -/

/-- All that the judgement of an approval can do, with the plate's policy and strips that ask it (R9). -/
theorem State.judgeApproval_outcomes {n : Nat} {p : Plate} (hp : s.plate? n = some p) (entry : Option Nat) :
    (p.policy = .hold ∧ p.allGood = false ∧ s.judgeApproval n entry = (s, some (Reply.bare .damageOpen))) ∨
    ((p.policy = .hold ∧ p.allGood = true ∨ p.policy = .hatch ∧ p.anyAbsent = false) ∧
      s.judgeApproval n entry = ((s.abandonBay n).becomeQueued n p.replate, some (Reply.bare .done))) ∨
    (p.policy = .hatch ∧ p.anyAbsent = true ∧
      s.judgeApproval n entry = (State.handToFiller n (State.setSource n
        ((s.abandonBay n).modPlate n fun p => { p with state := .approving, approveEntry := entry })), none)) := by
  unfold State.judgeApproval
  simp only [hp]
  cases hpol : p.policy with
  | hold => by_cases hg : p.allGood = true <;> simp [hg]
  | hatch => by_cases ha : p.anyAbsent = true <;> simp [ha]

/-- A bay handed to the filler is at the end of its list, or its plate is the filler's (R93). -/
theorem State.handToFiller_filler (tidy : s.filler.Tidy) {n : Nat} {p : Plate} (hp : s.plate? n = some p)
    (absent : p.anyAbsent = true) :
    (s.filler.fill ≠ none ∧ (s.handToFiller n).filler = { s.filler with list := s.filler.list ++ [n] }) ∨
    ∃ f : FillContext, f.bay = n ∧ f.key = p.key ∧ s.filler = { fill := none, list := [] } ∧
      (s.handToFiller n).filler = { fill := some f, list := [] } := by
  unfold State.handToFiller
  split
  · rename_i idle
    have idle : s.filler.fill = none := Option.isNone_iff_eq_none.1 idle
    have none : s.filler = { fill := none, list := [] } := by
      rcases hF : s.filler with ⟨f, l⟩
      rw [hF] at tidy idle
      cases (show f = none from idle)
      rw [show l = [] from tidy rfl]
    obtain ⟨f, hbay, hkey, filler⟩ := State.startFill_filler hp absent
    exact .inr ⟨f, hbay, hkey, none, by rw [filler, none]⟩
  · rename_i busy
    exact .inl ⟨by simpa using busy, rfl⟩

/-- The judgement of a FILLING bay's approval keeps the agreement (R9). -/
theorem State.Agrees.judgeApproval (h : s.Agrees s.filler) (tidy : s.filler.Tidy) {n : Nat} {p : Plate}
    (hp : s.plate? n = some p) (filling : p.state = .filling) (free : p.approvalHeld = false) (entry : Option Nat) :
    (s.judgeApproval n entry).1.Agrees (s.judgeApproval n entry).1.filler ∧ (s.judgeApproval n entry).1.filler.Tidy := by
  have due : p.autoDue = false := by
    have := (h.marks hp).2
    simpa [filling] using this
  have view : s.view s.filler n = .empty := (View.fits_apart (.inl filling)).1 (h.fits hp)
  rcases State.judgeApproval_outcomes hp entry with ⟨-, -, hj⟩ | ⟨-, hj⟩ | ⟨-, absent, hj⟩ <;> rw [hj]
  · exact ⟨h, tidy⟩
  · have hp' : (s.abandonBay n).plate? n = some p := (State.plate?_congr rfl n).trans hp
    have filler : ((s.abandonBay n).becomeQueued n p.replate).filler = s.filler := by simp
    rw [filler]
    refine ⟨h.becomeQueued (t := s.abandonBay n) ⟨fun m _ => State.plate?_congr rfl m, fun m _ => s.abandonBay_view n m,
      fun m _ key w => ((s.abandonBay_works n m key).1 w).2⟩ hp' ((s.abandonBay_view n n).trans view)
      (fun key w => ((s.abandonBay_works n n key).1 w).1 rfl) free due (fun u others here => ?_) h.drum p.replate, tidy⟩
    refine h.laws.of_carried (.of_plate others) fun q hq => ?_
    obtain rfl := Option.some.inj (here.symm.trans hq)
    exact ⟨p, hp, rfl, fun _ => .inl filling⟩
  · let approving : Plate := { p with state := .approving, approveEntry := entry }
    let u : State := State.setSource n
      ((s.abandonBay n).modPlate n fun p => { p with state := .approving, approveEntry := entry })
    show (u.handToFiller n).Agrees (u.handToFiller n).filler ∧ (u.handToFiller n).filler.Tidy
    have hu : u.plate? n = some approving :=
      (State.plate?_modPlate (s.abandonBay n) n _).trans (by rw [s.abandonBay_plate?, hp]; rfl)
    have others : ∀ m, m ≠ n → u.plate? m = s.plate? m := fun m hm =>
      (State.plate?_modPlate_other (s.abandonBay n) hm _).trans (State.plate?_congr rfl m)
    have plate : ∀ m, (u.handToFiller n).plate? m = u.plate? m := State.plate?_congr (by simp)
    have filler : u.filler = s.filler := by simp [u]
    have works : ∀ m key, (u.handToFiller n).Works m key → m ≠ n ∧ s.Works m key := fun m key w =>
      (s.abandonBay_works n m key).1 ((State.works_congr (by simp [u]) m key).1 w)
    have said : ∀ m, (u.handToFiller n).view (u.handToFiller n).filler m =
        { s.view s.filler m with
          listed := (u.handToFiller n).filler.list.count m
          fill := keyAtBay m (u.handToFiller n).filler.filling } := fun m => by
      simp [State.view, State.scanned, State.scan?, u]
    have laws : (u.handToFiller n).BayTableLaws := by
      refine h.laws.of_carried (n := n) (.of_plate fun m hm => (plate m).trans (others m hm)) fun q hq => ?_
      obtain rfl := Option.some.inj (hu.symm.trans ((plate n).symm.trans hq))
      exact ⟨p, hp, rfl, fun _ => .inl filling⟩
    have drum : (u.handToFiller n).exposure.current = none ↔ (u.handToFiller n).exposure.state = .idle := by
      simpa [u] using h.drum
    have agrees (fits : ((u.handToFiller n).view (u.handToFiller n).filler n).Fits (some approving)) :
        (u.handToFiller n).AgreesAt (u.handToFiller n).filler n :=
      .of_fits ((plate n).trans hu) fits (fun key w => (works n key w).1 rfl) free due
    rcases State.handToFiller_filler (s := u) (filler ▸ tidy) hu absent with
      ⟨busy, filler'⟩ | ⟨f, hbay, hkey, idle, filler'⟩
    · rw [filler] at busy filler'
      have tidy' : (u.handToFiller n).filler.Tidy := fun none => absurd (by rw [filler'] at none; exact none) busy
      refine ⟨h.change n ⟨fun m hm => (plate m).trans (others m hm), fun m hm => ?_, fun m _ key w => (works m key w).2⟩
        laws drum (agrees ?_), tidy'⟩
      · rw [said, filler']
        simp [State.view, Filler.filling, Ne.symm hm]
      · have listed : s.filler.list.count n = 0 := congrArg View.listed view
        have away : keyAtBay n s.filler.filling = none := congrArg View.fill view
        rw [View.fits_approving rfl, said, filler', view]
        refine .inr ⟨?_, absent⟩
        simpa [View.empty, listed, Filler.filling] using away
    · rw [filler] at idle
      have tidy' : (u.handToFiller n).filler.Tidy := by rw [filler']; simp [Filler.Tidy]
      refine ⟨h.change n ⟨fun m hm => (plate m).trans (others m hm), fun m hm => ?_, fun m _ key w => (works m key w).2⟩
        laws drum (agrees ?_), tidy'⟩
      · rw [said, filler', idle]
        simp [State.view, Filler.filling, hbay, keyAtBay_other hm]
      · rw [View.fits_approving rfl, said, filler', view]
        left
        simp [View.empty, Filler.filling, hbay, hkey, approving]

end Sys2Proof.Machine
end

section
/-! SUPPORT. Exposures, scans, fills, openings and the decoder's work keep the agreement of the plates; so does every part of
a step. -/

namespace Sys2Proof.Machine

variable {F F' : Filler} {s t : State}

/-! ### A plate replaced in its state -/

/-- A plate replaced by one of its key and state, with nothing else said of any bay. -/
theorem State.Agrees.replace {n : Nat} {p p' : Plate} (h : s.Agrees F) (hp : s.plate? n = some p)
    (bays : t.bays = (s.setBay n (some p')).bays) (key : p'.key = p.key) (state : p'.state = p.state)
    (marks : (p'.approvalHeld = true → p.state = .filling) ∧ (p'.autoDue = true → p.state = .held))
    (absent : 0 < F.list.count n → p'.anyAbsent = true)
    (view : ∀ m, t.view F' m = s.view F m) (works : ∀ m key, t.Works m key → s.Works m key)
    (drum : t.exposure.current = none ↔ t.exposure.state = .idle) : t.Agrees F' := by
  have here : t.plate? n = some p' := State.plate?_eq_of_setBay (State.plate?_lt hp) bays
  have others : ∀ m, m ≠ n → t.plate? m = s.plate? m := fun m hm => State.plate?_other_of_setBay hm bays
  have same : ∀ st, keyIn st (some p') = keyIn st (some p) := fun st => by simp [key, state]
  refine h.change n ⟨others, fun m _ => view m, fun m _ => works m⟩ ?_ drum ⟨?_, fun k w => ?_, ?_⟩
  · refine h.laws.of_carried (.of_plate others) fun q hq => ?_
    obtain rfl := Option.some.inj (here.symm.trans hq)
    exact ⟨p, hp, key.symm, fun way => by simpa [Plate.OnItsWay, state] using way⟩
  · obtain ⟨queued, entries, drum, scan, served, fill, listed⟩ := h.fits hp
    rw [here, view]
    simp only [← same] at queued entries drum scan served fill
    exact ⟨queued, entries, drum, scan, served, fill, by rintro _ pos ⟨⟩; exact absent pos⟩
  · rw [here, same, ← hp]; exact (h.at_ n).works k (works n k w)
  · rw [here]; rintro _ ⟨⟩; rw [state]; exact marks

/-- A plate changed in its place, its key and state kept. -/
theorem State.Agrees.modPlate (h : s.Agrees F) (n : Nat) (f : Plate → Plate)
    (keeps : ∀ p, s.plate? n = some p → (f p).key = p.key ∧ (f p).state = p.state ∧
      ((f p).approvalHeld = true → p.state = .filling) ∧ ((f p).autoDue = true → p.state = .held) ∧
      (0 < F.list.count n → (f p).anyAbsent = true)) : (s.modPlate n f).Agrees F := by
  cases hp : s.plate? n with
  | none => rw [s.modPlate_none f hp]; exact h
  | some p =>
    obtain ⟨key, state, held, due, absent⟩ := keeps p hp
    rw [s.modPlate_some f hp]
    exact h.replace hp rfl key state ⟨held, due⟩ absent (State.view_congr rfl rfl rfl rfl) (fun _ _ => id) h.drum

/-- A mark or count that neither a state nor a queue depends on. -/
theorem State.Agrees.modPlate_of_same (h : s.Agrees F) (n : Nat) (f : Plate → Plate)
    (same : ∀ p, (f p).key = p.key ∧ (f p).state = p.state ∧ (f p).strips = p.strips ∧
      ((f p).approvalHeld = true → p.approvalHeld = true) ∧ ((f p).autoDue = true → p.autoDue = true)) :
    (s.modPlate n f).Agrees F := by
  refine h.modPlate n f fun p hp => ?_
  obtain ⟨key, state, strips, held, due⟩ := same p
  obtain ⟨held', due'⟩ := h.marks hp
  refine ⟨key, state, fun x => held' (held x), fun x => due' (due x), fun pos => ?_⟩
  have := (h.fits hp).listed p pos rfl
  simpa [Plate.anyAbsent, strips] using this

theorem State.Agrees.judgeHeld (h : s.Agrees s.filler) (tidy : s.filler.Tidy) (n : Nat) :
    (s.judgeHeld n).Agrees (s.judgeHeld n).filler ∧ (s.judgeHeld n).filler.Tidy := by
  rcases s.judgeHeld_judged n with h' | ⟨p, k, r, hp, held, h'⟩ <;> rw [h']
  · exact ⟨h, tidy⟩
  · have filling : p.state = .filling := (h.marks hp).1 held
    have clear : (s.modPlate n fun p => { p with approvalHeld := false, approveEntry := none }).Agrees
        (s.modPlate n fun p => { p with approvalHeld := false, approveEntry := none }).filler := by
      rw [State.modPlate_filler]
      exact h.modPlate_of_same n _ fun p => ⟨rfl, rfl, rfl, by simp, id⟩
    have hp' : (s.modPlate n fun p => { p with approvalHeld := false, approveEntry := none }).plate? n =
        some { p with approvalHeld := false, approveEntry := none } := by rw [State.plate?_modPlate, hp]; rfl
    obtain ⟨judged, tidy'⟩ := clear.judgeApproval (by simpa using tidy) hp' filling rfl p.approveEntry
    rw [State.answer?_filler]
    exact ⟨judged.frame (by simp) (by simp) (by simp) (by simp) (by simp) (by simp [State.scanned, State.scan?])
      fun m key => (State.works_congr (by simp) m key).1, tidy'⟩

/-! ### A bay opened (R5 to R7) -/

theorem State.Agrees.freeBays (ns : List Nat) (nodup : ns.Nodup) (h : s.Agrees s.filler) (tidy : s.filler.Tidy)
    (resident : ∀ n ∈ ns, ∃ p, s.plate? n = some p ∧ p.OnItsWay) :
    (s.freeBays ns).Agrees (s.freeBays ns).filler ∧ (s.freeBays ns).filler.Tidy ∧
    ∀ m, (s.freeBays ns).plate? m = if m ∈ ns then none else s.plate? m := by
  induction ns generalizing s with
  | nil => exact ⟨h, tidy, fun m => by simp⟩
  | cons n ns ih =>
    obtain ⟨p, hp, way⟩ := resident n (by simp)
    obtain ⟨fresh, rest⟩ := List.nodup_cons.1 nodup
    have plate := State.plate?_freeBay hp
    obtain ⟨freed, tidy'⟩ := h.freeBay tidy hp (way.imp id (.imp id .inl))
    obtain ⟨agrees, tidy'', plates⟩ := ih rest freed tidy' fun m hm => by
      obtain ⟨q, hq, way⟩ := resident m (by simp [hm])
      exact ⟨q, by rw [plate, if_neg fun e => fresh (by rwa [← e])]; exact hq, way⟩
    refine ⟨agrees, tidy'', fun m => (plates m).trans ?_⟩
    by_cases hm : m = n <;> simp [hm, plate]

theorem State.mem_withdrawals {key : PlateKey} {n : Nat} :
    n ∈ s.withdrawals key ↔ ∃ p, s.plate? n = some p ∧ p.key.samePage key = true ∧ p.OnItsWay := by
  have way : ∀ p : Plate, p.withdrawable = true ↔ p.OnItsWay := fun p => by
    unfold Plate.withdrawable Plate.OnItsWay
    cases p.state <;> simp
  simp only [State.withdrawals, State.bayNumbers, List.mem_filter, List.mem_range, Option.any_eq_true, Bool.and_eq_true, way]
  exact ⟨fun ⟨_, h⟩ => h, fun ⟨p, hp, h⟩ => ⟨State.plate?_lt hp, p, hp, h⟩⟩

theorem State.Agrees.openPlate (h : s.Agrees s.filler) (tidy : s.filler.Tidy) (f : OpenFields) :
    (s.openPlate f).1.Agrees (s.openPlate f).1.filler ∧ (s.openPlate f).1.filler.Tidy := by
  rcases s.openPlate_cases f with ⟨r, h'⟩ | ⟨n, fresh, newest, free, h'⟩ <;> rw [h']
  · exact ⟨h, tidy⟩
  obtain ⟨freed, tidy', plates⟩ := h.freeBays (s.withdrawals f.key) (List.nodup_range.filter _) tidy fun m hm => by
    obtain ⟨p, hp, -, way⟩ := State.mem_withdrawals.1 hm
    exact ⟨p, hp, way⟩
  generalize s.freeBays (s.withdrawals f.key) = u at freed tidy' plates free ⊢
  generalize s.hasPredecessor f.key = replate
  obtain ⟨hn, hnone, -⟩ := List.findIdx?_eq_some_iff_getElem.1 free
  have none : u.plate? n = none := by
    unfold State.plate?
    rw [List.getElem?_eq_getElem hn, Option.isNone_iff_eq_none.1 hnone]; rfl
  have bays : (u.fillBay n (f.plate replate)).1.bays = (u.setBay n (some (f.plate replate))).bays := rfl
  have here := State.plate?_eq_of_setBay hn bays
  have others : ∀ m, m ≠ n → (u.fillBay n (f.plate replate)).1.plate? m = u.plate? m := fun m hm =>
    State.plate?_other_of_setBay hm bays
  have view : ∀ m, (u.fillBay n (f.plate replate)).1.view u.filler m = u.view u.filler m := State.view_congr rfl rfl rfl rfl
  have at_n := freed.at_ n
  refine ⟨freed.change n ⟨others, fun m _ => view m, fun m _ _ => id⟩ ?_ freed.drum ?_, tidy'⟩
  · refine freed.laws.enter (.of_plate others) here fun m hm q hq => ?_
    rw [others m hm, plates] at hq
    split at hq
    · cases hq
    · rename_i kept
      have absent : s.findPlate f.key = Option.none := by simpa using fresh
      refine ⟨State.findPlate_none absent hq, fun page => ⟨State.superseded_false newest hq page, fun way => ?_⟩⟩
      exact kept (State.mem_withdrawals.2 ⟨q, hq, page, way⟩)
  · refine .of_apart here (.inl rfl) ((view n).trans ?_) (fun key w => ?_) (by simp [OpenFields.plate])
    · have fits := at_n.fits
      rwa [none, View.fits_none] at fits
    · have := at_n.works key w
      simp [none] at this

end Sys2Proof.Machine
end

section
/-! SUPPORT. The ends of exposures, scans and fills keep the agreement of the plates; so does every part of a step. -/

namespace Sys2Proof.Machine

variable {F F' : Filler} {s t : State}

/-! ### The ends of an exposure (R14 to R16) -/

/-- The current bay holds the plate it names, EXPOSING (R13). -/
theorem State.Agrees.current (h : s.Agrees F) {n : Nat} {key : PlateKey} (on : s.exposure.current = some (n, key)) :
    ∃ p, s.plate? n = some p ∧ p.state = .exposing ∧ p.key = key ∧
      s.view F n = { View.empty with drum := some key } := by
  have drum := (h.at_ n).fits.drum
  simp only [State.view, on, keyAtBay_self] at drum
  obtain ⟨p, hp, exposing, hk⟩ := keyIn_eq_some drum.symm
  exact ⟨p, hp, exposing, hk, hk ▸ (View.fits_exposing exposing).1 (h.fits hp)⟩

/-- A bay neither FILLING nor HELD has no mark. -/
theorem State.Agrees.unmarked (h : s.Agrees F) {n : Nat} {p : Plate} (hp : s.plate? n = some p)
    (off : p.state ≠ .filling ∧ p.state ≠ .held) : p.approvalHeld = false ∧ p.autoDue = false := by
  obtain ⟨held, due⟩ := h.marks hp
  exact ⟨by simpa [off.1] using held, by simpa [off.2] using due⟩

/-- The bay table after a change of one plate holds the changed plate. -/
theorem State.plate?_of_modPlate {n : Nat} {p : Plate} {f : Plate → Plate} (hp : s.plate? n = some p)
    (bays : t.bays = (s.modPlate n f).bays) : t.plate? n = some (f p) ∧ ∀ m, m ≠ n → t.plate? m = s.plate? m := by
  refine ⟨?_, fun m hm => ?_⟩
  · rw [State.plate?_congr bays, State.plate?_modPlate, hp]; rfl
  · rw [State.plate?_congr bays, State.plate?_modPlate_other _ hm]

/-- The exposure is over: all agree if the bay that was EXPOSING does. -/
theorem State.Agrees.leaveDrum {n : Nat} {key : PlateKey} (h : s.Agrees F) (on : s.exposure.current = some (n, key))
    (plate : ∀ m, m ≠ n → t.plate? m = s.plate? m) (approval : ∀ m, m ≠ n → t.approvalQueue.count m = s.approvalQueue.count m)
    (inspection : ∀ m, m ≠ n → t.inspectionQueue.count (.bay m) = s.inspectionQueue.count (.bay m))
    (ended : t.exposure.current = none ∧ t.exposure.state = .idle) (scan : t.scanned = s.scanned)
    (decoder : t.decoder.buffers = s.decoder.buffers) (laws : t.BayTableLaws)
    (here : (∀ key, ¬ t.Works n key) → t.view F n = { View.empty with
      queued := t.approvalQueue.count n, entries := t.inspectionQueue.count (.bay n) } → t.AgreesAt F n) : t.Agrees F := by
  obtain ⟨p, hp, exposing, -, view⟩ := h.current on
  have works : ∀ m key, t.Works m key → s.Works m key := fun m key => (State.works_congr decoder m key).1
  refine h.change n ⟨plate, fun m hm => ?_, fun m _ => works m⟩ laws (by simp [ended.1, ended.2]) (here (fun k w => ?_) ?_)
  · unfold State.view
    rw [approval m hm, inspection m hm, ended.1, scan, on, keyAtBay_other hm]; rfl
  · exact h.not_works hp (by simp [exposing]) k (works n k w)
  · have : t.view F n = { s.view F n with
        queued := t.approvalQueue.count n, entries := t.inspectionQueue.count (.bay n), drum := none } := by
      unfold State.view
      rw [ended.1, scan]; rfl
    rw [this, view]; rfl

theorem State.Agrees.completeExposure (h : s.Agrees F) : s.completeExposure.Agrees F := by
  unfold State.completeExposure
  split
  · exact h
  rename_i n key on
  obtain ⟨p, hp, exposing, -, view⟩ := h.current on
  obtain ⟨held, due⟩ := h.unmarked hp (by simp [exposing])
  unfold State.becomeIdle
  refine State.Agrees.autoEvent ?_
  generalize hw : State.setSource sourceExposure _ = w
  obtain ⟨here, others⟩ := State.plate?_of_modPlate (t := w) (f := fun p => { p with
    state := .exposed, outcome := .complete, exposures := satInc 255 p.exposures }) hp
    (by rw [← hw]; exact State.modPlate_bays_congr (by rfl) n _)
  have queue : w.approvalQueue = s.approvalQueue := by rw [← hw]; simp
  have entries : w.inspectionQueue = s.inspectionQueue ++ [.bay n] := by rw [← hw]; simp [State.bayCompleted]
  refine h.leaveDrum on others (fun m _ => by rw [queue]) (fun m hm => ?_) (by simp [← hw])
    (by simp [← hw, State.scanned, State.scan?]) (by simp [← hw]) ?_ fun works said => .of_fits here ?_ works held due
  · rw [entries]; simp [Ne.symm hm]
  · refine h.laws.of_carried (.of_plate others) fun q hq => ?_
    obtain rfl := Option.some.inj (here.symm.trans hq)
    exact ⟨p, hp, rfl, fun way => by simp [Plate.OnItsWay] at way⟩
  · have gone : s.approvalQueue.count n = 0 := congrArg View.queued view
    have gone' : s.inspectionQueue.count (.bay n) = 0 := congrArg View.entries view
    rw [View.fits_exposed rfl, said, queue, entries, List.count_append, gone, gone']
    simp [View.empty]

/-- A plate aborted before any pass is freed if superseded, and otherwise QUEUED again at the head; the exposure being in
progress, no start is taken (R16). -/
theorem State.bayReturned_eq (u : State) (n : Nat) (key : PlateKey) (busy : u.exposure.state ≠ .idle) :
    u.bayReturned n key = if u.superseded key then u.freeBay n else u.enqueue n true := by
  unfold State.bayReturned
  split
  · rfl
  · rw [State.becomeQueued_eq]
    rcases (u.enqueue n true).autoEvent_cases with h | ⟨-, -, allowed, -⟩
    · exact h
    · exact absurd (State.startRefusal_none allowed).1 (by simpa [State.enqueue] using busy)

theorem State.Agrees.abort (h : s.Agrees F) (cause : AbortCause) (busy : s.exposure.state ≠ .idle) :
    (s.abort cause).Agrees F := by
  unfold State.abort
  split
  · exact h
  rename_i n key on
  obtain ⟨p, hp, exposing, hkey, view⟩ := h.current on
  obtain ⟨held, due⟩ := h.unmarked hp (by simp [exposing])
  have gone : s.approvalQueue.count n = 0 := congrArg View.queued view
  have gone' : s.inspectionQueue.count (.bay n) = 0 := congrArg View.entries view
  unfold State.becomeIdle
  refine State.Agrees.autoEvent ?_
  generalize hu : s.stopExposing.onExposure _ = u
  have bays : u.bays = s.bays := by simp [← hu]
  have queue : u.approvalQueue = s.approvalQueue := by simp [← hu]
  have entries : u.inspectionQueue = s.inspectionQueue := by simp [← hu]
  have scan : u.scanned = s.scanned := by simp [← hu, State.scanned, State.scan?]
  have decoder : u.decoder = s.decoder := by simp [← hu]
  have busy' : u.exposure.state ≠ .idle := by simpa [← hu, State.stopExposing] using busy
  have hp' : u.plate? n = some p := (State.plate?_congr bays n).trans hp
  split
  · generalize hw : State.setSource sourceExposure _ = w
    obtain ⟨here, others⟩ := State.plate?_of_modPlate (t := w) (f := fun p => { p with
      state := .held, outcome := .aborted cause s.exposure.passCounter, verdict := .aborted,
      exposures := satInc 255 p.exposures }) hp
      (by rw [← hw]; exact State.modPlate_bays_congr (by exact bays) n _)
    have queue' : w.approvalQueue = s.approvalQueue := by simp [← hw, queue]
    have entries' : w.inspectionQueue = s.inspectionQueue ++ [.aborted key] := by
      simp [← hw, State.baySpoiled, entries]
    refine h.leaveDrum on others (fun m _ => by rw [queue']) (fun m hm => ?_) (by simp [← hw])
      (by rw [← scan]; simp [← hw, State.scanned, State.scan?]) (by simp [← hw, decoder]) ?_ fun works said =>
        .of_apart here (.inr rfl) ?_ (fun k w => absurd w (works k)) ?_
    · rw [entries']; simp
    · refine h.laws.of_carried (.of_plate others) fun q hq => ?_
      obtain rfl := Option.some.inj (here.symm.trans hq)
      exact ⟨p, hp, rfl, fun way => by simp [Plate.OnItsWay] at way⟩
    · rw [said, queue', entries', List.count_append, gone, gone']
      simp [View.empty]
    · simp [held]
  · rw [State.bayReturned_eq u n key busy']
    split
    · generalize hw : State.setSource sourceExposure _ = w
      have freed : u.freeBay n = State.setSource n (u.setBay n none) := by
        unfold State.freeBay State.letGo; simp only [hp', exposing]
      have bays' : w.bays = (s.setBay n none).bays := by
        rw [← hw, freed]; simp [State.setBay, bays]
      have here : w.plate? n = none := State.plate?_eq_of_setBay (State.plate?_lt hp) bays'
      have others : ∀ m, m ≠ n → w.plate? m = s.plate? m := fun m hm => State.plate?_other_of_setBay hm bays'
      have queue' : w.approvalQueue = s.approvalQueue := by rw [← hw, freed]; simp [queue]
      have entries' : w.inspectionQueue = s.inspectionQueue := by rw [← hw, freed]; simp [entries]
      refine h.leaveDrum on others (fun m _ => by rw [queue']) (fun m _ => by rw [entries']) (by simp [← hw])
        (by rw [← scan, ← hw, freed]; simp [State.scanned, State.scan?]) (by rw [← hw, freed]; simp [decoder]) ?_
        fun works said => ⟨?_, fun k w => absurd w (works k), ?_⟩
      · exact h.laws.of_carried (.of_plate others) fun q hq => by rw [here] at hq; cases hq
      · rw [here, View.fits_none, said, queue', entries', gone, gone']; rfl
      · rw [here]; rintro _ ⟨⟩
    · rename_i newest
      generalize hw : State.setSource sourceExposure _ = w
      obtain ⟨here, others⟩ := State.plate?_of_modPlate (t := w) (f := fun p => { p with state := .queued }) hp
        (by rw [← hw]; exact (State.enqueue_bays n true u).trans (State.modPlate_bays_congr bays n _))
      have queue' : w.approvalQueue = n :: s.approvalQueue := by rw [← hw]; simp [State.enqueue, queue]
      have entries' : w.inspectionQueue = s.inspectionQueue := by rw [← hw]; simp [State.enqueue, entries]
      refine h.leaveDrum on others (fun m hm => ?_) (fun m _ => by rw [entries']) (by simp [← hw])
        (by rw [← scan, ← hw]; simp [State.enqueue, State.scanned, State.scan?])
        (by rw [← hw]; simp [State.enqueue, decoder]) ?_
        fun works said => .of_fits here ?_ works held due
      · rw [queue', List.count_cons_of_ne (Ne.symm hm)]
      · refine h.laws.requeue hp ?_ others here rfl
        rw [hkey]
        simpa [State.superseded, bays] using newest
      · rw [View.fits_queued rfl, said, queue', entries', List.count_cons_self, gone, gone']; rfl

end Sys2Proof.Machine
end

section
/-! SUPPORT. The scans, the fills and the decoder's work keep the agreement of the plates; so does every part of a step. -/

namespace Sys2Proof.Machine

variable {F F' : Filler} {s t : State}

/-! ### Scans (R18, R19, R150, R155) -/

theorem State.scanned_of_scanning {sc : Scan} (on : s.inspection.work = .scanning sc) :
    s.scanned = some (sc.bay, sc.key) := by simp [State.scanned, State.scan?, on]

theorem State.scanned_of_not_scanning (off : ∀ sc, s.inspection.work ≠ .scanning sc) : s.scanned = none := by
  unfold State.scanned State.scan?
  split
  · rename_i sc on; exact absurd on (off sc)
  · rfl

theorem State.scanned_congr (h : t.inspection.work = s.inspection.work) : t.scanned = s.scanned := by
  unfold State.scanned State.scan?; rw [h]

/-- The bay of a scan holds the plate of the scan, INSPECTING (R18). -/
theorem State.Agrees.scanning (h : s.Agrees F) {sc : Scan} (on : s.inspection.work = .scanning sc) :
    ∃ p, s.plate? sc.bay = some p ∧ p.state = .inspecting ∧ p.key = sc.key ∧
      s.view F sc.bay = { View.empty with scan := some sc.key } := by
  have scan := (h.at_ sc.bay).fits.scan
  simp only [State.view, State.scanned_of_scanning on, keyAtBay_self] at scan
  obtain ⟨p, hp, inspecting, hk⟩ := keyIn_eq_some scan.symm
  exact ⟨p, hp, inspecting, hk, hk ▸ (View.fits_inspecting inspecting).1 (h.fits hp)⟩

theorem State.Agrees.endScan (h : s.Agrees F) (cause : UncheckedCause) : (s.endScan cause).Agrees F := by
  cases on : s.inspection.work with
  | idle | calibrating => unfold State.endScan; rw [on]; exact h
  | scanning sc =>
    obtain ⟨p, hp, inspecting, -, view⟩ := h.scanning on
    obtain ⟨held, -⟩ := h.unmarked hp (by simp [inspecting])
    obtain ⟨v, due, bays⟩ := State.endScan_bays cause on hp
    have here := State.plate?_eq_of_setBay (State.plate?_lt hp) bays
    have others : ∀ m, m ≠ sc.bay → (s.endScan cause).plate? m = s.plate? m := fun m hm =>
      State.plate?_other_of_setBay hm bays
    have ended : (s.endScan cause).scanned = none := State.scanned_of_not_scanning (s.endScan_idle cause)
    have works : ∀ m key, (s.endScan cause).Works m key → s.Works m key := fun m key =>
      (State.works_congr (by simp) m key).1
    have said : ∀ m, (s.endScan cause).view F m = { s.view F m with scan := none } := fun m => by
      simp [State.view, ended]
    refine h.change sc.bay ⟨others, fun m hm => ?_, fun m _ => works m⟩ ?_ (by simpa using h.drum)
      (.of_apart here (.inr rfl) ?_ (fun k w => absurd (works _ k w) (h.not_works hp (by simp [inspecting]) k)) ?_)
    · rw [said]
      simp [State.view, State.scanned_of_scanning on, keyAtBay_other hm]
    · refine h.laws.of_carried (.of_plate others) fun q hq => ?_
      obtain rfl := Option.some.inj (here.symm.trans hq)
      exact ⟨p, hp, rfl, fun way => by simp [Plate.OnItsWay] at way⟩
    · rw [said, view]; rfl
    · simp [held]

/-- The bay at the head of the inspection queue is EXPOSED and becomes INSPECTING with its scan (R18). -/
theorem State.Agrees.bindScan (h : s.Agrees F) {n : Nat} {p : Plate} {rest : List InspectionEntry}
    (queue : s.inspectionQueue = .bay n :: rest) (hp : s.plate? n = some p) (idle : ∀ sc, s.inspection.work ≠ .scanning sc) :
    (State.bindScan n p { s with inspectionQueue := rest }).Agrees F := by
  have exposed : p.state = .exposed := by
    obtain ⟨q, hq, exposed⟩ : ∃ q, s.plate? n = some q ∧ q.state = .exposed := by
      refine keyIn_isSome ?_
      by_contra off
      have entries := (h.at_ n).fits.entries
      simp only [State.view, queue, List.count_cons_self, off] at entries
      simp at entries
    exact Option.some.inj (hp.symm.trans hq) ▸ exposed
  have view := (View.fits_exposed exposed).1 (h.fits hp)
  obtain ⟨held, due⟩ := h.unmarked hp (by simp [exposed])
  generalize ht : State.bindScan n p { s with inspectionQueue := rest } = t
  have bays : t.bays = (s.setBay n (some { p with state := .inspecting })).bays := by
    rw [← ht]; simp [State.bindScan, State.setBay]
  have here := State.plate?_eq_of_setBay (State.plate?_lt hp) bays
  have others : ∀ m, m ≠ n → t.plate? m = s.plate? m := fun m hm => State.plate?_other_of_setBay hm bays
  have entries : t.inspectionQueue = rest := by rw [← ht]; simp
  have scan : t.scanned = some (n, p.key) := by
    rw [← ht]
    simp [State.bindScan, State.beginExpected, State.scanned, State.scan?, State.setWork]
  have works : ∀ m key, t.Works m key → s.Works m key := fun m key => (State.works_congr (by simp [← ht]) m key).1
  have said : ∀ m, t.view F m =
      { s.view F m with entries := rest.count (.bay m), scan := keyAtBay m (some (n, p.key)) } := fun m => by
    unfold State.view
    rw [entries, scan]
    simp [← ht]
  refine h.change n ⟨others, fun m hm => ?_, fun m _ => works m⟩ ?_ (by simpa [← ht] using h.drum)
    (.of_fits here ?_ (fun k w => h.not_works hp (by simp [exposed]) k (works n k w)) held due)
  · rw [said, keyAtBay_other hm]
    simp [State.view, queue, State.scanned_of_not_scanning idle, Ne.symm hm]
  · refine h.laws.of_carried (.of_plate others) fun q hq => ?_
    obtain rfl := Option.some.inj (here.symm.trans hq)
    exact ⟨p, hp, rfl, fun way => by simp [Plate.OnItsWay] at way⟩
  · have gone : rest.count (.bay n) = 0 := by
      have := congrArg View.entries view
      simpa [State.view, queue, View.empty] using this
    rw [View.fits_inspecting rfl, said, view, gone, keyAtBay_self]; rfl

/-! ### Fills (R94, R95) -/

/-- The bay of the fill context holds the plate it names, APPROVING (R93). -/
theorem State.Agrees.fill (h : s.Agrees s.filler) {f : FillContext} (on : s.filler.fill = some f) :
    ∃ p, s.plate? f.bay = some p ∧ p.state = .approving ∧ p.key = f.key ∧
      s.view s.filler f.bay = { View.empty with fill := some f.key } := by
  have filling : keyAtBay f.bay s.filler.filling = some f.key := by simp [Filler.filling, on]
  have fill := (h.at_ f.bay).fits.fill f.key filling
  obtain ⟨p, hp, approving, hk⟩ := keyIn_eq_some fill
  refine ⟨p, hp, approving, hk, ?_⟩
  rcases (View.fits_approving approving).1 (h.fits hp) with view | ⟨view, -⟩
  · rw [view, hk]
  · have := congrArg View.fill view
    simp [State.view, filling, View.empty] at this

/-- The agreement asks of the filler its plate and its list alone. -/
theorem State.Agrees.filling (h : s.Agrees F) (filling : F'.filling = F.filling) (list : F'.list = F.list) :
    s.Agrees F' := by
  refine ⟨h.laws, h.drum, fun m => (h.at_ m).congr rfl ?_ fun _ => id⟩
  unfold State.view; rw [filling, list]

/-- A fill complete: its bay is QUEUED and the filler goes on (R95). -/
theorem State.Agrees.completeFill (h : s.Agrees s.filler) {f : FillContext} {p : Plate} (on : s.filler.fill = some f)
    (hp : s.plate? f.bay = some p) :
    (s.completeFill f.bay p).Agrees (s.completeFill f.bay p).filler ∧ (s.completeFill f.bay p).filler.Tidy := by
  obtain ⟨q, hq, approving, -, view⟩ := h.fill on
  obtain rfl := Option.some.inj (hp.symm.trans hq)
  obtain ⟨held, due⟩ := h.unmarked hp (by simp [approving])
  have unlisted : s.filler.list.count f.bay = 0 := congrArg View.listed view
  have hp' : (s.modPlate f.bay fun p => { p with approveEntry := none }).plate? f.bay =
      some { p with approveEntry := none } := by rw [State.plate?_modPlate, hp]; rfl
  have others : ∀ m, m ≠ f.bay → (s.modPlate f.bay fun p => { p with approveEntry := none }).plate? m = s.plate? m :=
    fun m hm => State.plate?_modPlate_other s hm _
  have released : ∀ m, (s.modPlate f.bay fun p => { p with approveEntry := none }).view s.filler.released m =
      { s.view s.filler m with fill := none } := fun m => by
    simp [State.view, Filler.released, Filler.filling, State.scanned, State.scan?]
  have works : ∀ m key, (s.modPlate f.bay fun p => { p with approveEntry := none }).Works m key → s.Works m key :=
    fun m key => (State.works_congr (by simp) m key).1
  have queued : ((s.modPlate f.bay fun p => { p with approveEntry := none }).becomeQueued f.bay p.replate).Agrees
      s.filler.released := by
    refine h.becomeQueued ⟨others, fun m hm => ?_, fun m _ => works m⟩ hp' ?_ (fun key w => ?_) held due
      (fun u others' here => ?_) (by simpa using h.drum) _
    · rw [released]
      simp [State.view, Filler.filling, on, keyAtBay_other hm]
    · rw [released, view]; rfl
    · exact h.not_works hp (by simp [approving]) key (works _ key w)
    · refine h.laws.of_carried (.of_plate others') fun q hq => ?_
      obtain rfl := Option.some.inj (here.symm.trans hq)
      exact ⟨p, hp, rfl, fun _ => .inr (.inl approving)⟩
  generalize hu : (s.modPlate f.bay fun p => { p with approveEntry := none }).becomeQueued f.bay p.replate = u at queued
  have filler : (u.answer? p.approveEntry (Reply.bare .done)).filler = s.filler := by rw [← hu]; simp
  have answered : (u.answer? p.approveEntry (Reply.bare .done)).Agrees s.filler.released :=
    queued.frame (by simp) (by simp) (by simp) (by simp) (by simp) (State.scanned_congr (by simp))
      fun m key => (State.works_congr (by simp) m key).1
  unfold State.completeFill
  rw [hu]
  generalize u.answer? p.approveEntry (Reply.bare .done) = v at filler answered
  rw [← filler] at answered
  have heads : ∀ n ∈ v.filler.list, v.AgreesAt v.filler.released n := fun n _ => answered.at_ n
  exact ⟨⟨(State.bayTableLaws_congr (by simp)).2 answered.laws, by simpa using answered.drum, fun m =>
    State.nextFill_agreesAt heads (answered.at_ m)⟩, State.nextFill_tidy heads⟩

theorem State.askFill_filler {f : FillContext} (on : s.filler.fill = some f) :
    s.askFill.filler = { s.filler with fill := some { f with requested := f.requested + 1 } } := by
  unfold State.askFill; rw [on]; rfl

theorem State.Agrees.completeHatchStrip (h : s.Agrees s.filler) (tidy : s.filler.Tidy) {f : FillContext}
    (on : s.filler.fill = some f) :
    (s.completeHatchStrip f).Agrees (s.completeHatchStrip f).filler ∧ (s.completeHatchStrip f).filler.Tidy := by
  obtain ⟨p, hp, approving, -, view⟩ := h.fill on
  obtain ⟨held, due⟩ := h.marks hp
  have unlisted : s.filler.list.count f.bay = 0 := congrArg View.listed view
  unfold State.completeHatchStrip
  dsimp only
  generalize hu : State.setSource f.bay _ = u
  have filler : u.filler = s.filler := by simp [← hu]
  have recorded : u.Agrees s.filler := by
    have modded := h.modPlate f.bay (Plate.modStrip f.strip fun _ => { StripRecord.fresh with state := .missing })
      fun q hq => by
        obtain rfl := Option.some.inj (hp.symm.trans hq)
        exact ⟨rfl, rfl, held, due, fun pos => by omega⟩
    exact modded.frame (by simp [← hu]) (by simp [← hu]) (by simp [← hu]) (by simp [← hu]) (by simp [← hu])
      (State.scanned_congr (by simp [← hu])) fun m key => (State.works_congr (by simp [← hu]) m key).1
  split
  · rw [filler]; exact ⟨recorded, tidy⟩
  · rename_i q hq
    split
    · rename_i i _
      generalize hv : ({ u with filler := { u.filler with
        fill := some { f with strip := i, requested := 0, served := 0 } } } : State) = v
      have asked := State.askFill_filler (s := v)
        (f := { f with strip := i, requested := 0, served := 0 }) (by rw [← hv])
      have filling : v.askFill.filler.filling = s.filler.filling := by rw [asked]; simp [Filler.filling, on]
      have list : v.askFill.filler.list = s.filler.list := by rw [asked, ← hv, filler]
      exact ⟨(recorded.filling filling list).frame (by simp [← hv]) (by simp [← hv]) (by simp [← hv]) (by simp [← hv])
        (by simp [← hv]) (State.scanned_congr (by simp [← hv])) fun m key => (State.works_congr (by simp [← hv]) m key).1,
        fun none => by rw [asked] at none; cases none⟩
    · rw [← filler] at recorded
      exact recorded.completeFill (by rw [filler]; exact on) hq

end Sys2Proof.Machine
end

section
/-! SUPPORT. Every part of a step keeps the agreement of the plates. -/

namespace Sys2Proof.Machine

variable {F F' : Filler} {s t : State}

/-! ### The decoder -/

theorem State.setBuffer_works {i : Nat} {b : StripBuffer} {m : Nat} {key : PlateKey} (w : (s.setBuffer i b).Works m key) :
    s.Works m key ∨ ∃ c, b.context = some c ∧ c.bay = m ∧ c.key = key := by
  obtain ⟨x, hx, c, hc, hbay, hkey⟩ := w
  rcases List.mem_or_eq_of_mem_set hx with hx | rfl
  · exact .inl ⟨x, hx, c, hc, hbay, hkey⟩
  · exact .inr ⟨c, hc, hbay, hkey⟩

/-- A taken block is bound for a FILLING bay that holds its plate (R37, R50). -/
theorem State.Agrees.blockTake (h : s.Agrees F) : s.blockTake.Agrees F := by
  rcases s.blockTake_cases with h' | ⟨b, rest, -, -, h'⟩
  · rw [h']; exact h
  rw [h']
  have taken : ({ s with intake := { s.intake with queue := rest } } : State).Agrees F :=
    h.frame rfl rfl rfl rfl Iff.rfl rfl fun _ _ => id
  generalize ({ s with intake := { s.intake with queue := rest } } : State) = u at taken
  rcases State.judgeBlock_cases b u with h' | ⟨n, p, -, -, -, h'⟩ | ⟨n, p, found, hp, filling, h'⟩ <;> rw [h']
  · exact taken.frame rfl rfl rfl rfl Iff.rfl rfl fun _ _ => id
  · exact taken.modPlate_of_same n _ fun p => ⟨rfl, rfl, rfl, id, id⟩
  · obtain ⟨ctx, lines, stage, sc, hbay, hkey, bound⟩ := State.bindBlock_eq
      ((u.decoder.buffers.findIdx? StripBuffer.isFree).getD 0) n p b u
    rw [bound]
    refine ⟨(State.bayTableLaws_congr rfl).2 taken.laws, taken.drum, fun m => ⟨?_, fun key w => ?_, (taken.at_ m).marks⟩⟩
    · exact (taken.at_ m).fits
    · rcases State.setBuffer_works w with w | ⟨c, hc, rfl, rfl⟩
      · exact (taken.at_ m).works key w
      · obtain rfl : ctx = c := by simpa [StripBuffer.context] using hc
        have : u.plate? ctx.bay = some p := hbay ▸ hp
        show keyIn .filling (u.plate? ctx.bay) = _
        rw [this, keyIn_some, if_pos filling, State.findPlate_key found hp, hkey]

/-- A buffer let through works for the plate it worked for (R66). -/
theorem State.letFirstPass_works (n : Nat) {m : Nat} {key : PlateKey}
    (w : State.Works { s with decoder := s.decoder.letFirstPass n } m key) : s.Works m key := by
  unfold State.Works Decoder.letFirstPass at w
  split at w
  · exact w
  · split at w
    · rename_i i _
      obtain ⟨x, hx, c, hc, hbay, hkey⟩ := w
      rcases List.mem_or_eq_of_mem_set hx with hx | rfl
      · exact ⟨x, hx, c, hc, hbay, hkey⟩
      · have same : ∀ b : StripBuffer, b.letPass.context = b.context := fun b => by cases b <;> rfl
        rw [same] at hc
        have resident := getElem?_of_getD_free (bs := s.decoder.buffers) (i := i) rfl (by
          intro free; rw [free] at hc; cases hc)
        exact ⟨_, List.mem_of_getElem? resident, c, hc, hbay, hkey⟩
    · exact w

/-! ### Resets -/

/-- With every bay FREE, no queue filled and every block at rest, all agree. -/
theorem State.agrees_of_empty (plates : ∀ n, s.plate? n = none) (approval : s.approvalQueue = [])
    (inspection : s.inspectionQueue = []) (idle : s.exposure.current = none ∧ s.exposure.state = .idle)
    (scan : s.scanned = none) (decoder : s.decoder = Decoder.reset) : s.Agrees { fill := none, list := [] } := by
  refine ⟨fun m n p q hp => ?_, by simp [idle.1, idle.2], fun n => ⟨?_, fun key w => ?_, ?_⟩⟩
  · rw [plates] at hp; cases hp
  · rw [plates, View.fits_none]
    simp [State.view, approval, inspection, idle.1, scan, Filler.filling, View.empty]
  · obtain ⟨b, hb, c, hc, -⟩ := w
    rw [decoder] at hb
    simp only [Decoder.reset, List.mem_cons, List.not_mem_nil, or_false, or_self] at hb
    rw [hb] at hc; cases hc
  · rw [plates]; rintro _ ⟨⟩

/-- A change of settings is made with every bay FREE (R177). -/
theorem State.plate?_of_configurable (s : State) (rest : s.configurable = true) (n : Nat) : s.plate? n = none := by
  simp only [State.configurable, Bool.and_eq_true, List.all_eq_true] at rest
  cases hp : s.plate? n with
  | none => rfl
  | some p => simpa using rest.1.1 _ (State.mem_bays hp)

/-- The flagged elements of a scan line and its drift window at the end (R143). -/
def State.lineFlags (s : State) (sc : Scan) (coverage : List Nat) (line : ScanLine) : List (Option Int) × List Int :=
  flagElements sc.settings.thr (deviations s.inspection.dark s.inspection.gain s.inspection.weak coverage line) []

/-- What the matching of a scan line leaves (R148, R149). -/
def State.lineMatched (s : State) (sc : Scan) (p : Plate) (coverage : List Nat) (line : ScanLine) : Tracker :=
  Tracker.matchLine sc.next
    { list := p.defects, opens := sc.openDefects, nextNumber := sc.nextNumber, untracked := p.untracked,
      free := s.freeRecords }
    (formRuns sc.settings (s.lineFlags sc coverage line).1)

theorem State.compareLine_bays (s : State) (sc : Scan) (p : Plate) (coverage : List Nat) (line : ScanLine)
    (rest : List ScanLine) :
    (s.compareLine sc p coverage line rest).bays = (s.setBay sc.bay (some { p with
      defects := (s.lineMatched sc p coverage line).list, untracked := (s.lineMatched sc p coverage line).untracked })).bays :=
  rfl

theorem State.compareLine_work (s : State) (sc : Scan) (p : Plate) (coverage : List Nat) (line : ScanLine)
    (rest : List ScanLine) :
    (s.compareLine sc p coverage line rest).inspection.work = .scanning { sc with
      next := sc.next + 1, fifo := rest, expected := .empty, drift := (s.lineFlags sc coverage line).2
      openDefects := (s.lineMatched sc p coverage line).opens, nextNumber := (s.lineMatched sc p coverage line).nextNumber } :=
  rfl

/-- An aborted exposure leaves the filler alone. -/
theorem State.Agrees.abort_filler (h : s.Agrees F) (cause : AbortCause) : (s.abort cause).filler = s.filler := by
  unfold State.abort
  split
  · rfl
  rename_i n key on
  obtain ⟨p, hp, exposing, -⟩ := h.current on
  rw [State.becomeIdle_filler]
  split
  · simp
  · unfold State.bayReturned State.freeBay
    generalize hu : s.stopExposing.onExposure _ = u
    have hp' : u.plate? n = some p := (State.plate?_congr (by simp [← hu]) n).trans hp
    have filler : u.filler = s.filler := by simp [← hu]
    split
    · simp [hp', State.letGo, exposing, filler]
    · simp [filler]

/-! ### Every part -/

theorem Part.keeps_agrees (h : Part s t) (agrees : s.Agrees s.filler) (tidy : s.filler.Tidy) :
    t.Agrees t.filler ∧ t.filler.Tidy := by
  have of : t.filler = s.filler → t.Agrees s.filler → t.Agrees t.filler ∧ t.filler.Tidy :=
    fun hf ht => by rw [hf]; exact ⟨ht, tidy⟩
  have same : t.bays = s.bays → t.approvalQueue = s.approvalQueue → t.inspectionQueue = s.inspectionQueue →
      t.exposure = s.exposure → t.inspection.work = s.inspection.work → t.decoder = s.decoder → t.filler = s.filler →
      t.Agrees t.filler ∧ t.filler.Tidy := fun hb ha hi he hw hd hf =>
    of hf (agrees.frame hb ha hi (by rw [he]) (by rw [he]) (State.scanned_congr hw) fun m key =>
      (State.works_congr (by rw [hd]) m key).1)
  cases h with
  | fullReset kind straps =>
    exact ⟨State.agrees_of_empty (State.plate?_replicate (k := 8) rfl) rfl rfl ⟨rfl, rfl⟩ rfl rfl, fun _ => rfl⟩
  | cleared =>
    exact ⟨State.agrees_of_empty (State.plate?_replicate (k := s.bays.length) (by simp [State.clearPlates, List.map_const']))
      rfl rfl ⟨rfl, rfl⟩ rfl rfl, fun _ => rfl⟩
  | configured c rest =>
    obtain ⟨bays, link, h, -, ⟨hb, -⟩ | hb⟩ := s.configured_frame c
    · exact same (by rw [h]; exact hb) (by rw [h]) (by rw [h]) (by rw [h]) (by rw [h]) (by rw [h]) (by rw [h])
    · have free : ∀ n, s.plate? n = none := s.plate?_of_configurable rest
      have free' : ∀ n, (s.configured c).plate? n = none := State.plate?_replicate (by rw [h]; exact hb)
      refine of (by rw [h]) ⟨(fun m n p q hp => by rw [free'] at hp; cases hp), (by rw [h]; exact agrees.drum), fun n =>
        (agrees.at_ n).congr ((free' n).trans (free n).symm) ?_ fun key => ?_⟩
      · rw [h]; exact State.view_congr rfl rfl rfl rfl n
      · rw [h]; exact id
  | opened f => exact agrees.openPlate tidy f
  | foreign b =>
    refine of (by rcases s.countForeign_cases b with h | ⟨n, h⟩ <;> simp [h]) ?_
    rcases s.countForeign_cases b with h | ⟨n, h⟩ <;> rw [h]
    · exact agrees
    · exact agrees.modPlate_of_same n _ fun p => ⟨rfl, rfl, rfl, id, id⟩
  | held n p slot hp filling =>
    refine of (by simp [State.holdApproval]) ?_
    have marked := agrees.modPlate n (fun p => { p with approvalHeld := true, approveEntry := slot }) fun q hq => by
      obtain rfl := Option.some.inj (hp.symm.trans hq)
      exact ⟨rfl, rfl, fun _ => filling, (agrees.marks hp).2, fun pos => (agrees.fits hp).listed p pos rfl⟩
    exact marked.frame rfl rfl rfl rfl Iff.rfl rfl fun m key w => State.letFirstPass_works n w
  | judged n p slot hp filling free => exact agrees.judgeApproval tidy hp filling free slot
  | heldJudged n => exact agrees.judgeHeld tidy n
  | freed n p hp releasable =>
    refine agrees.freeBay tidy hp ?_
    rcases releasable with h | h | h | h | due
    · exact .inl h
    · exact .inr (.inl h)
    · exact .inr (.inr (.inl h))
    · exact .inr (.inr (.inr h))
    · exact .inr (.inr (.inr ((agrees.marks hp).2 due)))
  | priority n p hp queued =>
    refine of rfl (agrees.change n ⟨fun _ _ => rfl, fun m hm => ?_, fun _ _ _ => id⟩ agrees.laws agrees.drum
      ⟨?_, (agrees.at_ n).works, (agrees.at_ n).marks⟩)
    · simp [State.view, hm, Ne.symm hm, State.scanned, State.scan?]
    · have view := (View.fits_queued queued).1 (agrees.fits hp)
      have fits := (agrees.at_ n).fits
      have first : s.approvalQueue.count n = 1 := congrArg View.queued view
      have moved : (n :: s.approvalQueue.filter fun m => decide (m ≠ n)).count n = s.approvalQueue.count n := by
        rw [first, List.count_cons_self, List.count_eq_zero.2 (by simp)]
      have said : State.view s.filler { s with approvalQueue := n :: s.approvalQueue.filter fun m => decide (m ≠ n) } n =
          s.view s.filler n := by
        unfold State.view
        rw [moved]; rfl
      rw [said]; exact fits
  | reexposed n p hp held newest =>
    have plate := State.plate?_of_modPlate (t := s.modPlate n Plate.forReexposure) hp rfl
    refine of (by simp) (agrees.becomeQueued (p := p.forReexposure) ⟨plate.2, fun m _ => ?_, fun m _ key => ?_⟩ plate.1 ?_
      (fun key w => ?_) ?_ rfl (fun u others here => ?_) (by simpa using agrees.drum) false)
    · exact State.view_congr (by simp) (by simp) (by simp) (State.scanned_congr (by simp)) m
    · exact (State.works_congr (by simp) m key).1
    · exact (State.view_congr (by simp) (by simp) (by simp) (State.scanned_congr (by simp)) n).trans
        ((View.fits_apart (.inr held)).1 (agrees.fits hp))
    · exact agrees.not_works hp (by simp [held]) key ((State.works_congr (by simp) n key).1 w)
    · have := (agrees.marks hp).1
      simpa [held, Plate.forReexposure] using this
    · exact agrees.laws.requeue hp newest others here rfl
  | exposure e idle bay => exact of rfl (agrees.frame rfl rfl rfl bay idle rfl fun _ _ => id)
  | started allowed => exact of (by simp) (agrees.takeStart allowed)
  | completed busy => exact of (by simp) agrees.completeExposure
  | aborted cause busy => exact of (agrees.abort_filler cause) (agrees.abort cause busy)
  | inspection i idle off =>
    exact of rfl (agrees.frame rfl rfl rfl rfl Iff.rfl
      ((State.scanned_of_not_scanning off).trans (State.scanned_of_not_scanning idle).symm) fun _ _ => id)
  | calibrated c o w r on =>
    refine of (by simp) (agrees.frame (by simp) (by simp) (by simp) (by simp) (by simp)
      ((State.scanned_of_not_scanning (by simp [State.endCalibration])).trans
        (State.scanned_of_not_scanning (by simp [on])).symm) fun m key => (State.works_congr (by simp) m key).1)
  | scan sc sc' on bay key =>
    refine of rfl (agrees.frame rfl rfl rfl rfl Iff.rfl ?_ fun _ _ => id)
    rw [State.scanned_of_scanning on, State.scanned_of_scanning (sc := sc') rfl, bay, key]
  | compared sc p coverage line rest on hp =>
    have marks := agrees.marks hp
    refine of (by simp) (agrees.replace hp (State.compareLine_bays s sc p coverage line rest) rfl rfl marks
      (fun pos => (agrees.fits hp).listed p pos rfl) (State.view_congr (by simp) (by simp) (by simp) ?_)
      (fun m key => (State.works_congr (by simp) m key).1) (by simpa using agrees.drum))
    rw [State.scanned_of_scanning on, State.scanned_of_scanning (s.compareLine_work sc p coverage line rest)]
  | scanned cause => exact of (by simp) (agrees.endScan cause)
  | bound n p rest queue hp idle => exact of (by simp) (agrees.bindScan queue hp idle)
  | entryTaken e rest queue gone =>
    have count : ∀ n, rest.count (.bay n) = s.inspectionQueue.count (.bay n) := fun n => by
      by_cases he : e = .bay n
      · have entries := (agrees.at_ n).fits.entries
        simp [State.view, queue, he, gone n he] at entries
      · rw [queue, List.count_cons_of_ne he]
    refine of rfl ⟨agrees.laws, agrees.drum, fun n => (agrees.at_ n).congr rfl ?_ fun _ => id⟩
    unfold State.view
    rw [← count]; rfl
  | decoder d bound =>
    refine of rfl (agrees.frame rfl rfl rfl rfl Iff.rfl rfl fun m key w => ?_)
    obtain ⟨b, hb, c, hc, hbay, hkey⟩ := w
    obtain ⟨b', hb', c', hc', bay, key⟩ := bound b hb c hc
    exact ⟨b', hb', c', hc', bay.trans hbay, key.trans hkey⟩
  | taken => exact of (by simp) agrees.blockTake
  | written i ctx lines served on =>
    have works : s.Works ctx.bay ctx.key := ⟨_, List.mem_of_getElem? on, ctx, rfl, rfl, rfl⟩
    obtain ⟨p, hp, filling, -⟩ := keyIn_eq_some ((agrees.at_ ctx.bay).works ctx.key works)
    have view := (View.fits_apart (.inl filling)).1 (agrees.fits hp)
    have unlisted : s.filler.list.count ctx.bay = 0 := congrArg View.listed view
    refine of (by simp) ((agrees.modPlate ctx.bay (Plate.modStrip ctx.strip fun r => r.written ctx) fun q hq => ?_).frame
      rfl rfl rfl rfl Iff.rfl rfl fun m key w => ?_)
    · obtain rfl := Option.some.inj (hp.symm.trans hq)
      exact ⟨rfl, rfl, (agrees.marks hp).1, (agrees.marks hp).2, fun pos => by omega⟩
    · rcases State.setBuffer_works w with w | ⟨c, hc, -⟩
      · exact w
      · cases hc
  | fill f f' on bay key =>
    refine ⟨(agrees.filling (F' := { s.filler with fill := some f' }) ?_ rfl).frame rfl rfl rfl rfl Iff.rfl rfl
      fun _ _ => id, fun none => by cases none⟩
    simp [Filler.filling, on, bay, key]
  | hatched f on => exact agrees.completeHatchStrip tidy on
  | transmit | refused | answer => exact same (by simp) (by simp) (by simp) (by simp) (by simp) (by simp) (by simp)
  | pending | lines | store | screening | source | receiver | discard | entry | sent | noticed | waits | announced
  | intake | settings => exact same rfl rfl rfl rfl rfl rfl rfl

theorem Part.keeps_platesAgree (h : Part s t) (agrees : s.PlatesAgree) : t.PlatesAgree := by
  obtain ⟨agrees, tidy⟩ := s.platesAgree_iff.1 agrees
  exact t.platesAgree_iff.2 (h.keeps_agrees agrees tidy)

end Sys2Proof.Machine
end

section
/-! CLAIMS SETTLED. The tables, the queues and the laws between the plates and those who work on them. -/

namespace Sys2Proof.Proofs

open Sys2Proof.Machine

/-- Settles O59, by the parts of a step: each keeps every size and every law. -/
theorem tablesKeepTheirSizes : Obligations.TablesKeepTheirSizes := by
  unfold Obligations.TablesKeepTheirSizes
  exact ⟨kept_of_parts fun _ _ part ⟨bays, link⟩ => ⟨part.keeps_bayTableFits bays, part.keeps_tablesFit link⟩,
    kept_of_parts fun _ _ => Part.keeps_processorRoom, kept_of_parts fun _ _ => Part.keeps_intakeFits,
    kept_of_parts fun _ _ => Part.keeps_scanFits, kept_of_parts fun _ _ => Part.keeps_poolFits,
    kept_of_parts fun _ _ => Part.keeps_platesAgree⟩

end Sys2Proof.Proofs
end

section
/-! SUPPORT. Frames as the claims speak of them: what a request at the unit address comes to, answered at once or not, and
the plate that a request names (R4, R170 to R173). -/

namespace Sys2Proof.Proofs

open Sys2Proof.Machine Sys2Proof.Claims

variable {addr kind tag : Byte} {body : List Byte} {s u : State}

/-! ### The words of the claims -/

theorem kindOfAnswer_eq (kind : Byte) : kindOfAnswer kind = answerKind kind := by
  simp [kindOfAnswer, answerKind, isRequestKind]

theorem byteAt_lt (body : List Byte) (i : Nat) : byteAt body i < 256 := (body.getD i 0).isLt

theorem keyOk_iff (body : List Byte) (i : Nat) : (keyAt body i).inRange = true ↔ KeyOk (keyAt body i) := by
  have edition : (keyAt body i).edition < 256 := byteAt_lt body i
  unfold PlateKey.inRange KeyOk
  rw [decide_eq_true_iff]
  omega

theorem samePage_iff (a b : PlateKey) : a.samePage b = true ↔ SamePage a b := PlateKey.samePage_iff a b

theorem mem_bays_iff {p : Plate} : some p ∈ s.bays ↔ ∃ n, s.plate? n = some p := by
  refine ⟨fun h => ?_, fun ⟨n, hn⟩ => State.mem_bays hn⟩
  obtain ⟨n, hn, he⟩ := List.getElem_of_mem h
  exact ⟨n, by simp [State.plate?, hn, he]⟩

/-- Some resident plate passes a test. -/
theorem any_bays_iff (f : Plate → Bool) : (s.bays.any fun o => o.any f) = true ↔ ∃ n p, s.plate? n = some p ∧ f p = true := by
  simp only [List.any_eq_true, Option.any_eq_true]
  constructor
  · rintro ⟨o, ho, p, rfl, hf⟩
    obtain ⟨n, hn⟩ := mem_bays_iff.1 ho
    exact ⟨n, p, hn, hf⟩
  · rintro ⟨n, p, hn, hf⟩
    exact ⟨some p, State.mem_bays hn, p, rfl, hf⟩

theorem superseded_iff (key : PlateKey) : s.superseded key = true ↔ Superseded key s := by
  simp only [State.superseded, any_bays_iff, Bool.and_eq_true, decide_eq_true_eq, samePage_iff, Superseded]

theorem findPlate_isSome_iff (key : PlateKey) : (s.findPlate key).isSome = true ↔ ∃ n p, s.plate? n = some p ∧ p.key = key := by
  simp only [State.findPlate, List.find?_isSome, State.bayNumbers, List.mem_range, Option.any_eq_true, decide_eq_true_eq]
  exact ⟨fun ⟨n, _, p, hp, hk⟩ => ⟨n, p, hp, hk⟩, fun ⟨n, p, hp, hk⟩ => ⟨n, State.plate?_lt hp, p, hp, hk⟩⟩

/-! ### The state of a request that has taken its entry -/

@[simp] theorem requested_settings : (requested kind tag s).settings = s.settings := s.transmit_settings
@[simp] theorem requested_bays : (requested kind tag s).bays = s.bays := s.transmit_bays
@[simp] theorem requested_approvalQueue : (requested kind tag s).approvalQueue = s.approvalQueue := s.transmit_approvalQueue
@[simp] theorem requested_inspectionQueue : (requested kind tag s).inspectionQueue = s.inspectionQueue :=
  s.transmit_inspectionQueue
@[simp] theorem requested_intake : (requested kind tag s).intake = s.intake := s.transmit_intake
@[simp] theorem requested_decoder : (requested kind tag s).decoder = s.decoder := s.transmit_decoder
@[simp] theorem requested_screening : (requested kind tag s).screening = s.screening := s.transmit_screening
@[simp] theorem requested_filler : (requested kind tag s).filler = s.filler := s.transmit_filler
@[simp] theorem requested_store : (requested kind tag s).store = s.store := s.transmit_store
@[simp] theorem requested_exposure : (requested kind tag s).exposure = s.exposure := s.transmit_exposure
@[simp] theorem requested_inspection : (requested kind tag s).inspection = s.inspection := s.transmit_inspection
@[simp] theorem requested_lines : (requested kind tag s).lines = s.lines := s.transmit_lines

@[simp] theorem requested_plate? (n : Nat) : (requested kind tag s).plate? n = s.plate? n :=
  State.plate?_congr s.transmit_bays n

@[simp] theorem transmit_plate? (n : Nat) : s.transmit.plate? n = s.plate? n := State.plate?_congr s.transmit_bays n

/-! ### Frames -/

/-- A frame of any kind is received and handed to the owner of its kind. -/
theorem exec_frameOf (kind addr tag : Byte) (body : List Byte) (s : State) :
    exec (frameOf kind addr tag body) s = run (State.receive addr kind tag body (ownerOf kind body)) s := by
  have of : ∀ k : Byte, kind.toNat = k.toNat → kind = k := fun k h => BitVec.eq_of_toNat_eq h
  unfold frameOf
  split <;> rename_i h
  · rw [of 1 h]; rfl
  · rw [of 2 h]; rfl
  · rw [of 3 h]; rfl
  · rw [of 4 h]; rfl
  · rw [of 5 h]; rfl
  · rw [of 6 h]; rfl
  · rw [of 7 h]; rfl
  · rw [of 8 h]; rfl
  · rw [of 9 h]; rfl
  · rw [of 10 h]; rfl
  · rw [of 11 h]; rfl
  · rw [of 12 h]; rfl
  · rw [of 13 h]; rfl
  · rw [of 14 h]; rfl
  · rw [of 15 h]; rfl
  · rw [of 16 h]; rfl
  · rw [of 17 h]; rfl
  · rw [of 18 h]; rfl
  · rw [of 19 h]; rfl
  · rw [of 20 h]; rfl
  · rw [of 21 h]; rfl
  · rw [of 22 h]; rfl
  · rfl

theorem hunt_transmit (h : s.link.receiver = .hunting) : s.transmit.hunt = s.transmit := by
  have := s.transmit_receiver.trans h
  unfold State.hunt
  rw [← this]

/-- A request at the unit address takes its entry and is handed to its owner, whose answer joins the queue (R171, R173). -/
theorem exec_request (ready : Ready addr s) (owner : Owner) :
    run (State.receive addr kind tag body owner) s =
      .next (deliver s.link.freeSlot (owner (some s.link.freeSlot) (requested kind tag s))) := by
  obtain ⟨hunting, waits, here, room⟩ := ready
  rw [run_next, State.receive_addressed addr kind tag body owner s.transmit (by simpa using hunting) (by simpa using waits)
    (by simpa using here), hunt_transmit hunting]
  unfold State.request
  rw [if_pos (by simpa [Config.outstandingMax] using room)]
  simp [requested]

/-- A request that its owner answers at once, the outstanding table left alone. -/
theorem exec_answered (ready : Ready addr s) {owner : Owner} {r : Reply} {t : State}
    (effect : owner (some s.link.freeSlot) (requested kind tag s) = (t, some r))
    (table : t.link.outstanding = (requested kind tag s).link.outstanding) :
    run (State.receive addr kind tag body owner) s =
      .next { t with link := { t.link with answers := t.link.answers ++ [answerTo kind tag r s] } } := by
  rw [exec_request ready, effect]
  have room : s.link.outstanding.length < Config.outstandingMax := ready.2.2.2
  have newest := State.answer_newest t s.link.outstanding { slot := s.link.freeSlot, tag, kind } r table
    (s.link.freeSlot_spec room).2
  rw [deliver, newest, answerTo, kindOfAnswer_eq]

/-- A request that changes nothing but its entry and its answer. -/
theorem exec_unchanged (ready : Ready addr s) {owner : Owner} {r : Reply}
    (effect : owner (some s.link.freeSlot) (requested kind tag s) = (requested kind tag s, some r)) :
    run (State.receive addr kind tag body owner) s = .next (answered kind tag r s) :=
  exec_answered ready effect rfl

/-- A request left unanswered for now. -/
theorem exec_unanswered (ready : Ready addr s) {owner : Owner} {t : State}
    (effect : owner (some s.link.freeSlot) (requested kind tag s) = (t, none)) :
    run (State.receive addr kind tag body owner) s = .next t := by
  rw [exec_request ready, effect]; rfl

/-! ### Requests that name a plate (R4) -/

theorem fixedBody_of_length {n : Nat} (h : body.length = n) (owner : Owner) : fixedBody n body owner = owner := by
  funext slot s
  unfold fixedBody
  rw [if_pos h]

/-- A request that names a plate reaches the rule of its kind with that plate. -/
theorem plateRequest_names {n : Nat} {p : Plate} (names : Names body s n p) (rule : Nat → Plate → Owner) (slot : Option Nat)
    (settings : u.settings = s.settings) (bays : u.bays = s.bays) : plateRequest body rule slot u = rule n p slot u := by
  obtain ⟨rfl, bay, key, resident, hk⟩ := names
  have found : u.namedPlate (byteAt body 0) (keyAt body 1) = .ok p := by
    unfold State.namedPlate State.bayCount
    rw [settings, if_neg (by rw [keyOk_iff]; simp [key]; omega), State.plate?_congr bays, resident]
    exact if_pos hk
  unfold plateRequest
  rw [found]

/-- A request of a bad bay number or key is refused BAD FIELD. -/
theorem plateRequest_badField (bad : s.settings.bayMode.count ≤ byteAt body 0 ∨ ¬ KeyOk (keyAt body 1))
    (rule : Nat → Plate → Owner) (slot : Option Nat) (settings : u.settings = s.settings) :
    plateRequest body rule slot u = (u, some (only .badField)) := by
  have refused : u.namedPlate (byteAt body 0) (keyAt body 1) = .error .badField := by
    unfold State.namedPlate State.bayCount
    rw [settings, if_pos (by rw [keyOk_iff]; exact bad)]
  unfold plateRequest
  rw [refused]; rfl

/-- A request that names a plate its bay does not hold is refused NO SUCH PLATE. -/
theorem plateRequest_noSuchPlate (bay : byteAt body 0 < s.settings.bayMode.count) (key : KeyOk (keyAt body 1))
    (other : ∀ p, s.plate? (byteAt body 0) = some p → p.key ≠ keyAt body 1)
    (rule : Nat → Plate → Owner) (slot : Option Nat) (settings : u.settings = s.settings) (bays : u.bays = s.bays) :
    plateRequest body rule slot u = (u, some (only .noSuchPlate)) := by
  have refused : u.namedPlate (byteAt body 0) (keyAt body 1) = .error .noSuchPlate := by
    unfold State.namedPlate State.bayCount
    rw [settings, if_neg (by rw [keyOk_iff]; simp [key]; omega), State.plate?_congr bays]
    split
    · rename_i p hp; rw [if_neg (other p hp)]
    · rfl
  unfold plateRequest
  rw [refused]; rfl

end Sys2Proof.Proofs
end

section
/-! CLAIMS SETTLED. Resets, ends of sends, and the checks that plate requests make first. -/

namespace Sys2Proof.Proofs

open Sys2Proof.Machine Sys2Proof.Claims

variable {addr kind tag : Byte} {body : List Byte} {s u : State}

/-! ### Resets (R180) -/

/-- What a full reset leaves outside the link depends on the levels at the input pins alone. -/
theorem fullReset_blocks (kind : ResetKind) (straps : BitVec 2) (lines : u.lines = s.lines) :
    BlocksReset s (u.fullReset kind straps) := by
  have inputs : (u.fullReset kind straps).lines.inputs = s.lines.inputs.map fun l =>
      { raw := l.raw, debounced := l.raw, count := 0, debounce := 4, edge := .both, hold := false, masked := false,
        flag := false, latched := l.raw, edgeDue := false } := by
    simp [State.fullReset, Lines.reset, InputLine.reset, lines]
  have curves : ∀ c, c < 4 → ∀ k, k < 65 →
      ((u.fullReset kind straps).screening.curves.getD c []).getD k 0 = min (64 * k) 4095 := fun c hc k hk => by
    simp [State.fullReset, State.reset, Screening.reset, identityCurve, List.getD_eq_getElem?_getD,
      hc, hk, -List.reduceReplicate]
  have outputs : ∀ n, (u.fullReset kind straps).outputLevel n = false := fun n => by
    match n with
    | 0 | 1 | 2 | 3 => rfl
    | n + 4 => rfl
  exact ⟨rfl, rfl, rfl, rfl, rfl, rfl, rfl, curves, rfl, rfl, rfl, rfl, rfl, rfl, rfl, fun _ => rfl, rfl, rfl, rfl, rfl, rfl,
    rfl, rfl, rfl, rfl, rfl, rfl, rfl, rfl, rfl, rfl, rfl, rfl, rfl, rfl, rfl, inputs, rfl, rfl, rfl, rfl, outputs⟩

/-- The answer of a RESET FULL sent brings the reset (R179). -/
theorem exec_answerSent_reset {k : Nat} {a : Answer} (sending : s.link.tx = .answer a) (slot : a.slot = some k)
    (waits : s.link.fullReset = some k) : exec .answerSent s = .next (s.fullReset .full s.link.straps) := by
  have busy : s.transmit = s := s.transmit_sending (by simp [sending])
  show run State.answerSent s = _
  rw [run_next, busy]
  unfold State.answerSent
  simp only [sending]
  rw [if_pos (by simp [slot, waits])]

/-- Settles O3, by the values of the reset state. -/
theorem fullResetLeavesBlocks : Obligations.FullResetLeavesBlocks := by
  unfold Obligations.FullResetLeavesBlocks
  refine ⟨fun straps s => ⟨_, rfl, fullReset_blocks .hardware straps s.transmit_lines⟩, fun k a s sending slot waits => ?_⟩
  exact ⟨_, exec_answerSent_reset sending slot waits, fullReset_blocks _ _ rfl⟩

/-- Settles O56, by the values of the reset state. -/
theorem resetMeetsEveryInvariant : Obligations.ResetMeetsEveryInvariant := by
  unfold Obligations.ResetMeetsEveryInvariant
  have light : State.reset.LightInterlocked := ⟨fun busy => absurd rfl busy, fun lit => absurd rfl lit⟩
  have tended : State.reset.store.Tended := by simp [Store.Tended, State.reset, Store.reset]
  have sound : State.reset.store.Sound := by
    simp [Store.Sound, State.reset, Store.reset, Memory.wf, Memory.risesFrom]
  have room : State.reset.ProcessorRoom := by simp [State.ProcessorRoom, State.reset, Exposure.reset]
  have tables : State.reset.link.TablesFit := Link.tablesFit_reset .hardware 0
  have scan : State.reset.ScanFits := fun sc on => by cases on
  have pool : State.reset.PoolFits := by
    rw [State.poolFits_iff, show State.reset.bays = List.replicate 8 none from rfl, records_replicate]
    exact Nat.zero_le _
  have plates : State.reset.PlatesAgree := State.reset.platesAgree_iff.2
    ⟨State.agrees_of_empty (State.plate?_replicate (k := 8) rfl) rfl rfl ⟨rfl, rfl⟩ rfl rfl, fun _ => rfl⟩
  exact ⟨light, tended, sound, room, rfl, tables, ⟨Nat.zero_le _, Nat.zero_le _⟩, scan, pool, plates⟩

/-! ### Ends of sends (R20, R173, R175) -/

/-- A HELD bay freed is FREE with its source set, and nothing else changes. -/
theorem freeBay_held {n : Nat} {p : Plate} (hp : s.plate? n = some p) (held : p.state = .held) :
    s.freeBay n = State.setSource n (s.setBay n none) := by
  unfold State.freeBay State.letGo
  simp only [hp, held]

/-- Settles O11, by the end of a send in each case. -/
theorem sentFramesFreeWhatTheyHold : Obligations.SentFramesFreeWhatTheyHold := by
  unfold Obligations.SentFramesFreeWhatTheyHold
  refine ⟨fun a k s sending slot other => ?_, fun n body p s sending hp held due => ?_, fun n body due s sending h => ?_⟩
  · have busy : s.transmit = s := s.transmit_sending (by simp [sending])
    show run State.answerSent s = _
    rw [run_next, busy]
    unfold State.answerSent
    simp only [sending]
    rw [if_neg (by simpa [slot] using Ne.symm other)]
    simp [Link.answered, slot]
  all_goals
    have busy : s.transmit = s := s.transmit_sending (by simp [sending])
    show run State.noticeSent s = _
    rw [run_next, busy]
    unfold State.noticeSent
    simp only [sending]
  · have resident : State.plate? { s with link := { s.link with tx := .idle } } n = some p := hp
    unfold State.noticeReported
    rw [if_pos (by simp [resident, due]), freeBay_held resident held]
    rfl
  · have resident : State.plate? { s with link := { s.link with tx := .idle } } n = s.plate? n := rfl
    unfold State.noticeReported
    rw [if_neg]
    rintro ⟨seen, marked⟩
    rcases h with h | h
    · rw [h] at seen; cases seen
    · obtain ⟨p, hp, due⟩ := (Option.any_eq_true ..).1 marked
      rw [h p (resident ▸ hp)] at due; cases due

/-! ### The checks of OPEN PLATE (R5) -/

theorem openFields_inRange (body : List Byte) : (openFields body).inRange = true ↔ OpenRanges body := by
  have key := keyOk_iff body 0
  have curves : (body.getD 11 0).toNat < 16 ↔ byteAt body 11 ≤ 15 := by unfold byteAt; omega
  unfold OpenFields.inRange OpenRanges
  rw [Bool.and_eq_true, Bool.and_eq_true, Bool.and_eq_true, decide_eq_true_iff, decide_eq_true_iff, decide_eq_true_iff]
  rw [show (openFields body).key = keyAt body 0 from rfl, key,
    show (openFields body).curveSet = body.getD 11 0 from rfl, curves]
  exact ⟨fun ⟨⟨⟨k, w0, w1, w2, h0, h1, h2⟩, policy⟩, curve⟩ => ⟨k, w0, w1, w2, h0, h1, h2, policy, curve⟩,
    fun ⟨k, w0, w1, w2, h0, h1, h2, policy, curve⟩ => ⟨⟨⟨k, w0, w1, w2, h0, h1, h2⟩, policy⟩, curve⟩⟩

theorem bayDots_eq (mode : BayMode) : bayDots mode = mode.words * 64 := by cases mode <;> rfl

/-- An OPEN PLATE body reaches the four checks and the choice of a bay. -/
theorem exec_openPlate (ready : Ready addr s) (length : body.length = 12) {t : State} {r : Reply}
    (effect : (requested 4 tag s).openPlate (openFields body) = (t, some r))
    (table : t.link.outstanding = (requested 4 tag s).link.outstanding) :
    exec (.openPlate addr tag body) s =
      .next { t with link := { t.link with answers := t.link.answers ++ [answerTo 4 tag r s] } } :=
  exec_answered (kind := 4) (owner := ownOpenPlate body) ready
    (by unfold ownOpenPlate; rw [fixedBody_of_length length]; exact effect) table

/-- Settles O13, by the checks in their order. -/
theorem openPlateChecksInOrder : Obligations.OpenPlateChecksInOrder := by
  unfold Obligations.OpenPlateChecksInOrder
  intro addr tag body s ready length
  have ranges := openFields_inRange body
  have size : (requested 4 tag s).settings.bayMode.words * 64 < (openFields body).w * (openFields body).h ↔
      ¬ u16At body 5 * u16At body 7 ≤ bayDots s.settings.bayMode := by
    rw [bayDots_eq, requested_settings]; exact not_le.symm
  have found := findPlate_isSome_iff (s := requested 4 tag s) (openFields body).key
  have newer := superseded_iff (s := requested 4 tag s) (openFields body).key
  simp only [requested_plate?, Superseded] at found newer
  have refused : ∀ st, (requested 4 tag s).openPlate (openFields body) = refuse st (requested 4 tag s) →
      exec (.openPlate addr tag body) s = .next (answered 4 tag (only st) s) := fun st h =>
    exec_openPlate ready length h rfl
  refine ⟨fun bad => refused _ ?_, fun ok large => refused _ ?_, fun ok fits duplicate => refused _ ?_,
    fun ok fits fresh stale => refused _ ?_⟩ <;> unfold State.openPlate
  · rw [if_pos (by rwa [ranges])]
  · rw [if_neg (by rw [ranges]; exact not_not.2 ok), if_pos (size.2 large)]
  · rw [if_neg (by rw [ranges]; exact not_not.2 ok), if_neg (by rw [size]; exact not_not.2 fits),
      if_pos (found.2 duplicate)]
  · rw [if_neg (by rw [ranges]; exact not_not.2 ok), if_neg (by rw [size]; exact not_not.2 fits),
      if_neg (fun h => fresh (found.1 h)), if_pos (newer.2 stale)]

/-! ### The plate that a request names (R4) -/

/-- The requests that name a plate hand it to the rule of their kind. -/
theorem ownerOf_plateRequest
    (h : (6 ≤ kind.toNat ∧ kind.toNat ≤ 10 ∨ kind.toNat = 12) ∧ body.length = 6 ∨ kind.toNat = 11 ∧ body.length = 10) :
    ∃ rule, ownerOf kind body = plateRequest body rule := by
  rcases h with ⟨kinds, length⟩ | ⟨k, length⟩
  · have : kind.toNat = 6 ∨ kind.toNat = 7 ∨ kind.toNat = 8 ∨ kind.toNat = 9 ∨ kind.toNat = 10 ∨ kind.toNat = 12 := by omega
    unfold ownerOf
    rcases this with k | k | k | k | k | k <;> simp only [k] <;> exact ⟨_, fixedBody_of_length length _⟩
  · unfold ownerOf
    simp only [k]
    exact ⟨_, fixedBody_of_length length _⟩

/-- Settles O15, by the two checks that all plate requests share. -/
theorem plateRequestsNameTheirPlate : Obligations.PlateRequestsNameTheirPlate := by
  unfold Obligations.PlateRequestsNameTheirPlate
  intro kind addr tag body s ready form
  obtain ⟨rule, owner⟩ := ownerOf_plateRequest form
  rw [exec_frameOf, owner]
  refine ⟨fun bad => exec_unchanged ready ?_, fun bay key other => exec_unchanged ready ?_⟩
  · exact plateRequest_badField bad rule _ requested_settings
  · exact plateRequest_noSuchPlate bay key other rule _ requested_settings requested_bays

/-- A plate request of six bytes that names its plate, answered at once. -/
theorem exec_plateAnswered {rule : Nat → Plate → Owner} {n : Nat} {p : Plate} {t : State} {r : Reply} (ready : Ready addr s)
    (length : body.length = 6) (names : Names body s n p)
    (effect : rule n p (some s.link.freeSlot) (requested kind tag s) = (t, some r))
    (table : t.link.outstanding = (requested kind tag s).link.outstanding) :
    run (State.receive addr kind tag body (fixedBody 6 body (plateRequest body rule))) s =
      .next { t with link := { t.link with answers := t.link.answers ++ [answerTo kind tag r s] } } := by
  rw [fixedBody_of_length length]
  exact exec_answered ready ((plateRequest_names names rule _ requested_settings requested_bays).trans effect) table

/-- Settles O21, by the rule of PRIORITY PLATE. -/
theorem priorityPlateMovesToHead : Obligations.PriorityPlateMovesToHead := by
  unfold Obligations.PriorityPlateMovesToHead
  intro addr tag body n p s ready length names
  refine ⟨fun queued => ?_, fun other => ?_⟩
  · refine (exec_plateAnswered (kind := 8) (rule := priorityRule) ready length names (if_pos queued) rfl).trans ?_
    simp only [requested_approvalQueue]
    rfl
  · exact exec_plateAnswered (kind := 8) (rule := priorityRule) ready length names (if_neg other) rfl

end Sys2Proof.Proofs
end

section
/-! SUPPORT. AUTO events as the claims speak of them, answers that join the queue behind them, and the two ends of an aborted
exposure (R15, R16, R118, R120, R130). -/

namespace Sys2Proof.Proofs

open Sys2Proof.Machine Sys2Proof.Claims

variable {s t u v : State}

/-! ### AUTO events (R118, R120) -/

theorem startRefusal_eq_none_iff : u.startRefusal = none ↔
    u.exposure.state = .idle ∧ u.approvalQueue ≠ [] ∧ u.inspectionQueue.length < 4 ∧ u.interlocked = true ∧
    u.exposure.spent = false := by
  refine ⟨State.startRefusal_none, fun ⟨idle, queued, room, interlocked, fresh⟩ => ?_⟩
  unfold State.startRefusal
  rw [if_neg (not_not.2 idle), if_neg queued, if_neg (by unfold Config.processorPlates; omega),
    if_neg (by simp [interlocked, fresh])]

theorem interlocked_iff : u.interlocked = true ↔ u.asserted 0 = true ∧ u.asserted 1 = true ∧ u.asserted 2 = true := by
  simp [State.interlocked, and_assoc]

/-- An AUTO event takes a start exactly where it finds the line ready and a bay queued. -/
theorem autoEvent_taken_iff : (u.settings.mode = .auto ∧ ¬ u.exposure.autoHold = true ∧ u.startRefusal = none) ↔
    AutoReady u ∧ u.approvalQueue ≠ [] := by
  rw [startRefusal_eq_none_iff, interlocked_iff]
  unfold AutoReady
  simp only [Bool.not_eq_true]
  tauto

/-- An AUTO event that finds the line not ready, or no bay queued, takes no start. -/
theorem autoEvent_rest (h : ¬ AutoReady u ∨ u.approvalQueue = []) : u.autoEvent = u := by
  unfold State.autoEvent
  rw [if_neg]
  rw [autoEvent_taken_iff]
  tauto

/-- The fetch of pass 0 begins at the base of the current bay (R103, R116). -/
theorem beginFetch_zero {m : Nat} {key : PlateKey} (current : u.exposure.current = some (m, key))
    (free : u.exposure.prefetchPass = none) (first : u.exposure.nextFetch = 0)
    (buffers : u.exposure.buffers = [.empty, .empty]) (passes : 0 < u.exposure.passCount) :
    u.beginFetch = { u with
      store := Store.grant { u.store with prefetch := some { addr := u.bayBase m, write := none } }
      exposure := { u.exposure with prefetchPass := some 0, nextFetch := 1, buffers := [.fetching 0 [], .empty] } } := by
  have burst : u.passBurst 0 0 = { addr := u.bayBase m, write := none } := by
    simp [State.passBurst, State.exposureBase, current]
  unfold State.beginFetch
  simp only [first, free, buffers]
  rw [if_pos ⟨rfl, passes, rfl⟩, burst]
  rfl

/-- A start takes the head of the approval queue, and the fetch of pass 0 begins (R118). -/
theorem takeStart_eq {m : Nat} {rest : List Nat} {q : Plate} (queue : u.approvalQueue = m :: rest)
    (resident : u.plate? m = some q) (height : 32 ≤ q.h) : u.takeStart = started m q u := by
  unfold State.takeStart
  simp only [queue, resident]
  rw [beginFetch_zero (m := m) (key := q.key) rfl rfl rfl rfl (show 0 < q.h / 32 by omega)]
  unfold started
  rw [queue]
  rfl

/-- The start that an AUTO event takes, if it takes one. -/
theorem autoEvent_of_taken (h : AutoTaken u v) : u.autoEvent = v := by
  rcases h with ⟨rest, rfl⟩ | ⟨m, rest, q, ready, queue, resident, height, rfl⟩
  · exact autoEvent_rest rest
  · unfold State.autoEvent
    rw [if_pos (autoEvent_taken_iff.2 ⟨ready, by simp [queue]⟩), takeStart_eq queue resident height]

theorem endsAuto_of {o : Host.Outcome State Fault Refusal} (h : o = .next u.autoEvent) : EndsAuto o u := fun _ taken => by
  rw [h, autoEvent_of_taken taken]

/-! ### Answers behind an AUTO event -/

/-- These answers join the tail of the answer queue. -/
def withAnswers (as : List Answer) (s : State) : State := { s with link := { s.link with answers := s.link.answers ++ as } }

theorem beginFetch_withAnswers (as : List Answer) : (withAnswers as s).beginFetch = withAnswers as s.beginFetch := by
  have same : ∀ k q, (withAnswers as s).passBurst k q = s.passBurst k q := fun _ _ => rfl
  unfold State.beginFetch
  simp only [same]
  split <;> split <;> first | rfl | contradiction

theorem takeStart_withAnswers (as : List Answer) : (withAnswers as s).takeStart = withAnswers as s.takeStart := by
  have queue : (withAnswers as s).approvalQueue = s.approvalQueue := rfl
  have plate : (withAnswers as s).plate? = s.plate? := rfl
  unfold State.takeStart
  rw [queue, plate]
  split
  · rfl
  · split
    · rfl
    · rw [← beginFetch_withAnswers]; rfl

theorem autoEvent_withAnswers (as : List Answer) : (withAnswers as s).autoEvent = withAnswers as s.autoEvent := by
  have allowed : (withAnswers as s).startRefusal = s.startRefusal := rfl
  have settings : (withAnswers as s).settings = s.settings := rfl
  have exposure : (withAnswers as s).exposure = s.exposure := rfl
  unfold State.autoEvent
  rw [allowed, settings, exposure, takeStart_withAnswers]
  split <;> rfl

/-- A start takes no answer and no entry. -/
theorem takeStart_link (s : State) : ∃ sources, s.takeStart.link = { s.link with sources := sources } := by
  unfold State.takeStart
  split
  · exact ⟨_, rfl⟩
  · split
    · exact ⟨_, rfl⟩
    · exact ⟨_, (State.beginFetch_link _).trans rfl⟩

theorem autoEvent_link (s : State) : ∃ sources, s.autoEvent.link = { s.link with sources := sources } := by
  rcases s.autoEvent_cases with h | ⟨-, -, -, h⟩ <;> rw [h]
  · exact ⟨_, rfl⟩
  · exact takeStart_link s

/-! ### Aborted exposures (R15, R16, R130) -/

/-- The emitters dark and the fetch stopped, the exposure ended with this last outcome (R130). -/
def endedExposure (last : LastOutcome) (spent : Bool) (e : Exposure) : Exposure :=
  { e with
    state := .idle, current := none, emitters := 0, passOpen := false, prefetchPass := none, buffers := [.empty, .empty],
    last := last, spent := spent }

/-- u when its exposure has ended, this plate in the bay that was on the drum. -/
def leftDrum (n : Nat) (o : Option Plate) (approval : List Nat) (inspection : List InspectionEntry) (e : Exposure)
    (u : State) : State :=
  { u with
    bays := u.bays.set n o, approvalQueue := approval, inspectionQueue := inspection, exposure := e
    store := u.store.stop .prefetch
    link := { u.link with sources := u.link.sources ||| (1#12 <<< n) ||| (1#12 <<< 8) } }

theorem notReady_of (h : u.exposure.autoHold = true ∨ u.interlocked = false ∨ u.exposure.spent = true) : ¬ AutoReady u := by
  rintro ⟨-, hold, -, -, l0, l1, l2, fresh⟩
  have on := interlocked_iff.2 ⟨l0, l1, l2⟩
  rcases h with h | h | h <;> simp_all

/-- A bay's record modified where the bay table is u's. -/
theorem modPlate_of_bays {n : Nat} {p : Plate} (f : Plate → Plate) (resident : u.plate? n = some p) (same : v.bays = u.bays) :
    v.modPlate n f = v.setBay n (some (f p)) :=
  State.modPlate_some f ((State.plate?_congr same n).trans resident)

/-- An exposure aborted in WRITING: the spoiled plate is HELD, and a spent plate lets no start be taken (R15). -/
theorem abort_writing {n : Nat} {p : Plate} (cause : AbortCause) (on : WritingBay u n p) :
    u.abort cause = leftDrum n (some (spoiled cause u.exposure.passCounter p)) u.approvalQueue
      (u.inspectionQueue ++ [.aborted p.key])
      (endedExposure (.aborted cause u.exposure.passCounter true n p.key) true u.exposure) u := by
  obtain ⟨writing, current, resident, -⟩ := on
  unfold State.abort State.becomeIdle State.baySpoiled
  simp only [current, writing, decide_true, Bool.or_true, if_true]
  rw [modPlate_of_bays _ resident]
  · exact autoEvent_rest (.inl (notReady_of (.inr (.inr rfl))))
  · rfl

/-- An exposure aborted before any pass: the bay goes back to the head of the approval queue, or is freed if superseded, and
no start is taken under the auto hold or with an interlock line down (R16, R120). -/
theorem abort_early {n : Nat} {p : Plate} (cause : AbortCause) (on : EarlyBay u n p)
    (hold : u.exposure.autoHold = true ∨ u.interlocked = false) :
    u.abort cause = leftDrum n (if u.superseded p.key then none else some { p with state := .queued })
      (if u.superseded p.key then u.approvalQueue else n :: u.approvalQueue) u.inspectionQueue
      (endedExposure (.aborted cause u.exposure.passCounter false n p.key) u.exposure.spent u.exposure) u := by
  obtain ⟨early, current, resident, -, exposing⟩ := on
  have notWriting : (u.exposure.state = .writing) = False := by rcases early with h | h <;> simp [h]
  unfold State.abort State.becomeIdle
  simp only [current, notWriting, decide_false, Bool.or_false, Bool.false_eq_true, if_false]
  generalize hX : State.onExposure _ u.stopExposing = x
  have ended : x.exposure.state ≠ .idle := by rcases early with h | h <;> simp [← hX, State.onExposure, State.stopExposing, h]
  have resident' : x.plate? n = some p := by rw [← hX]; exact (State.plate?_congr rfl n).trans resident
  have same : x.superseded p.key = u.superseded p.key := by rw [← hX]; rfl
  rw [State.bayReturned_eq _ _ _ ended, same]
  have left : State.setSource sourceExposure (State.onExposure (fun e => { e with state := .idle, current := none })
      (if u.superseded p.key = true then x.freeBay n else x.enqueue n true)) =
      leftDrum n (if u.superseded p.key then none else some { p with state := .queued })
      (if u.superseded p.key then u.approvalQueue else n :: u.approvalQueue) u.inspectionQueue
      (endedExposure (.aborted cause u.exposure.passCounter false n p.key) u.exposure.spent u.exposure) u := by
    by_cases superseded : u.superseded p.key = true
    · have exposing := exposing ((superseded_iff p.key).1 superseded)
      rw [if_pos superseded, if_pos superseded, if_pos superseded]
      unfold State.freeBay State.letGo
      simp only [resident', exposing]
      subst hX
      rfl
    · rw [if_neg superseded, if_neg superseded, if_neg superseded]
      unfold State.enqueue
      rw [modPlate_of_bays _ resident']
      · subst hX
        rfl
      · rfl
  rw [left]
  exact autoEvent_rest (.inl (notReady_of (hold.imp id .inl)))

end Sys2Proof.Proofs
end

section
/-! CLAIMS SETTLED. The approvals judged at once (R9, R10, R22) and the starts taken (R118 to R120). -/

namespace Sys2Proof.Proofs

open Sys2Proof.Machine Sys2Proof.Claims

variable {s t u v w : State} {addr kind tag : Byte} {body : List Byte}

/-! ### Requests that queue a bay -/

/-- A request answered at once whose effect ends with an AUTO event ends as that event does with the answer queued. -/
theorem exec_endsAuto (ready : Ready addr s) {owner : Owner} {r : Reply}
    (effect : owner (some s.link.freeSlot) (requested kind tag s) = (w.autoEvent, some r))
    (table : w.link.outstanding = (requested kind tag s).link.outstanding)
    (answers : withAnswers [answerTo kind tag r s] w = u) :
    EndsAuto (run (State.receive addr kind tag body owner) s) u := by
  refine endsAuto_of ?_
  obtain ⟨sources, link⟩ := autoEvent_link w
  rw [exec_answered ready effect (by rw [link]; exact table), ← answers, autoEvent_withAnswers]
  rfl

/-- A plate request reaches its rule in a body of six bytes. -/
theorem plateOwner_names {n : Nat} {p : Plate} (length : body.length = 6) (names : Names body s n p)
    (rule : Nat → Plate → Owner) (slot : Option Nat) :
    fixedBody 6 body (plateRequest body rule) slot (requested kind tag s) = rule n p slot (requested kind tag s) := by
  rw [fixedBody_of_length length]
  exact plateRequest_names names rule slot requested_settings requested_bays

theorem Names.resident {n : Nat} {p : Plate} (names : Names body s n p) : s.plate? n = some p := names.2.2.2.1

/-- A bay that becomes QUEUED, but for the AUTO event (R11). -/
theorem enqueue_eq {n : Nat} {p : Plate} (atHead : Bool) (resident : u.plate? n = some p) : u.enqueue n atHead = { u with
    bays := u.bays.set n (some { p with state := .queued })
    approvalQueue := if atHead then n :: u.approvalQueue else u.approvalQueue ++ [n]
    link := { u.link with sources := u.link.sources ||| (1#12 <<< n) } } := by
  unfold State.enqueue
  rw [modPlate_of_bays _ resident]
  all_goals rfl

/-- Settles O22, by the rule of REEXPOSE PLATE and the AUTO event at its end. -/
theorem reexposePlateQueuesAgain : Obligations.ReexposePlateQueuesAgain := by
  unfold Obligations.ReexposePlateQueuesAgain
  intro addr tag body n p s ready length names
  have superseded : ((requested 9 tag s).superseded p.key = true) ↔ Superseded p.key s := by
    rw [superseded_iff]; simp [Superseded]
  refine ⟨fun other => ?_, fun held stale => ?_, fun held fresh => ?_⟩
  · exact exec_plateAnswered (kind := 9) (rule := reexposeRule) ready length names (if_pos other) rfl
  · refine exec_plateAnswered (kind := 9) (rule := reexposeRule) ready length names ?_ rfl
    exact (if_neg (not_not.2 held)).trans (if_pos (superseded.2 stale))
  · have resident := (requested_plate? (kind := 9) (tag := tag) n).trans (Names.resident names)
    have cleared := (State.plate?_of_modPlate (f := Plate.forReexposure) resident rfl).1
    have queued := enqueue_eq false cleared
    rw [State.modPlate_some _ resident] at queued
    refine exec_endsAuto (w := (State.modPlate n Plate.forReexposure (requested 9 tag s)).enqueue n false)
      (r := only .done) ready ((plateOwner_names length names reexposeRule _).trans ?_) ?_ ?_
    · exact (if_neg (not_not.2 held)).trans (if_neg fun h => fresh (superseded.1 h))
    all_goals rw [State.modPlate_some _ resident, queued]
    · rfl
    · simp only [State.setBay_bays, State.setBay_approvalQueue, requested_bays, requested_approvalQueue, List.set_set]
      rfl

/-! ### Approvals judged at once -/

theorem abandonBay_eq (n : Nat) (s : State) : s.abandonBay n = abandoned n s := by
  have building : (s.decoder.buffers.any fun b => b.forBay n && b.isBuilding) = true ↔
      ∃ b ∈ s.decoder.buffers, b.forBay n = true ∧ b.isBuilding = true := by simp
  have writing : s.decoder.writingInto n = true ↔ ∃ b ∈ s.decoder.buffers, b.forBay n = true ∧ b.isWriting = true := by
    simp [Decoder.writingInto]
  unfold State.abandonBay abandoned
  simp only [building, writing]

theorem writePending_eq_false {n : Nat} (h : NoPendingWrite n s) : s.decoder.writePending n = false := by
  unfold Decoder.writePending
  rw [List.any_eq_false]
  intro b hb pending
  have bay : b.forBay n = true := by simp_all
  have building := h b hb bay
  cases b <;> simp_all [StripBuffer.isBuilding, StripBuffer.isReady, StripBuffer.isWriting]

theorem allGood_iff {p : Plate} : p.allGood = true ↔ ∀ r ∈ p.strips, r.state = .good := by simp [Plate.allGood]

theorem anyAbsent_iff {p : Plate} : p.anyAbsent = true ↔ ∃ r ∈ p.strips, r.state = .absent := by simp [Plate.anyAbsent]

/-- An approval that asks no hatch fill queues the bay, and the AUTO event follows (R9, R11). -/
theorem judgeApproval_ready {n : Nat} {p : Plate} (resident : s.plate? n = some p) (entry : Option Nat)
    (ready : p.policy = .hold ∧ p.allGood = true ∨ p.policy = .hatch ∧ p.anyAbsent = false) :
    s.judgeApproval n entry = (((abandoned n s).enqueue n p.replate).autoEvent, some (only .done)) := by
  rcases State.judgeApproval_outcomes resident entry with ⟨_, _, _⟩ | ⟨-, h⟩ | ⟨_, _, _⟩
  · simp_all
  · rw [h, abandonBay_eq, State.becomeQueued_eq]; rfl
  · simp_all

/-- With no write into the bay pending the approval is judged at once (R9). -/
theorem approveRule_judges {n : Nat} {p : Plate} (filling : p.state = .filling) (free : p.approvalHeld = false)
    (noWrite : NoPendingWrite n s) : approveRule n p (some s.link.freeSlot) (requested kind tag s) =
      (requested kind tag s).judgeApproval n (some s.link.freeSlot) := by
  unfold approveRule
  rw [if_neg (not_not.2 filling), if_neg (by simp [free]), requested_decoder, if_neg (by simp [writePending_eq_false noWrite])]

/-- Settles O18, by the branches of APPROVE PLATE's rule. -/
theorem approvePlateJudged : Obligations.ApprovePlateJudged := by
  unfold Obligations.ApprovePlateJudged
  intro addr tag body n p s ready length names
  have resident := (requested_plate? (kind := 6) (tag := tag) n).trans (Names.resident names)
  refine ⟨fun other => ?_, fun filling held => ?_, fun filling free noWrite => ?_⟩
  · exact exec_plateAnswered (kind := 6) (rule := approveRule) ready length names (if_pos other) rfl
  · exact exec_plateAnswered (kind := 6) (rule := approveRule) ready length names
      ((if_neg (not_not.2 filling)).trans (if_pos held)) rfl
  have judged := approveRule_judges (kind := 6) (tag := tag) filling free noWrite
  refine ⟨fun hold ⟨r, hr, bad⟩ => ?_, fun fit => ?_⟩
  · have open' : p.allGood = false := by
      rw [Bool.eq_false_iff, Ne, allGood_iff]
      exact fun good => bad (good r hr)
    refine exec_plateAnswered (kind := 6) (rule := approveRule) ready length names (judged.trans ?_) rfl
    rcases State.judgeApproval_outcomes resident (some s.link.freeSlot) with ⟨-, -, h⟩ | ⟨_, _⟩ | ⟨_, _⟩
    · exact h
    · simp_all
    · simp_all
  · have fit : p.policy = .hold ∧ p.allGood = true ∨ p.policy = .hatch ∧ p.anyAbsent = false := by
      rw [allGood_iff, Bool.eq_false_iff, Ne, anyAbsent_iff]
      simpa using fit
    have queued := enqueue_eq (u := abandoned n (requested 6 tag s)) p.replate resident
    refine exec_endsAuto ready ((plateOwner_names length names approveRule _).trans
      (judged.trans (judgeApproval_ready resident _ fit))) ?_ ?_ <;> rw [queued]
    · rfl
    · simp only [abandoned, requested_bays, requested_approvalQueue]
      rfl

end Sys2Proof.Proofs
end

section
/-! SUPPORT. Edges of the plant lines as the claims speak of them (R161 to R163). -/

namespace Sys2Proof.Proofs

open Sys2Proof.Machine Sys2Proof.Claims

variable {s t u v w x : State} {l : InputLine}

/-! ### Edges -/

/-- The line whose debounced level has taken its raw level, before its edge is marked (R161). -/
def movedLine (l : InputLine) : InputLine := { l with debounced := l.raw, count := 0, edgeDue := false }

/-- x with the edge of line n marked: flag, latched level and notice (R162). -/
def edgeMarked (n : Nat) (l : InputLine) (x : State) : State :=
  { x with
    lines := { x.lines with inputs := x.lines.inputs.set n (afterEdge l) }
    link := { x.link with
      sources := if edgeHits l && !l.masked then x.link.sources ||| (1#12 <<< 10) else x.link.sources } }

theorem matches_iff (l : InputLine) : l.edge.matches l.raw = edgeHits l := by
  unfold edgeHits EdgeSetting.matches
  cases l.edge <;> simp

theorem input_of_get {n : Nat} (at_ : x.lines.inputs[n]? = some l) : x.input n = l := by
  simp [State.input, List.getD, at_]

theorem markEdge_eq {n : Nat} (at_ : x.lines.inputs[n]? = some (movedLine l)) : x.markEdge n l.raw = edgeMarked n l x := by
  have hits : (movedLine l).edge.matches l.raw = edgeHits l := matches_iff l
  unfold State.markEdge edgeMarked afterEdge
  simp only [input_of_get at_, hits]
  by_cases h : edgeHits l = true
  · by_cases m : l.masked = true
    · simp only [h, m, Bool.not_true, Bool.and_false, if_true]
      simp [movedLine, m, State.setInput, InputLine.mark]
    · simp only [Bool.not_eq_true] at m
      simp only [h, m, if_true]
      simp [movedLine, m, State.setInput, InputLine.mark, State.setSource, sourceLines]
  · obtain ⟨lt, here⟩ := List.getElem?_eq_some_iff.1 at_
    have same : x.lines.inputs.set n (movedLine l) = x.lines.inputs := by rw [← here]; exact List.set_getElem_self lt
    simp only [h]
    exact (congrArg (fun inputs => ({ x with lines := { x.lines with inputs } } : State)) same).symm

/-- A due edge between differing levels moves the debounced level, is reported to its block, and is marked (R161 to R163). -/
theorem exec_inputEdge {n : Fin 8} (here : s.lines.inputs[n.val]? = some l) (due : l.edgeDue = true) (differ : l.raw ≠ l.debounced)
    (reported : (s.transmit.setInput n (movedLine l)).reportEdge n l.raw = x)
    (kept : x.lines.inputs = s.lines.inputs.set n (movedLine l)) :
    exec (.inputEdge n) s = .next (edgeMarked n l x) := by
  have line : s.transmit.input n = l := input_of_get (by simpa using here)
  have lt := (List.getElem?_eq_some_iff.1 here).1
  have at_ : x.lines.inputs[n.val]? = some (movedLine l) := by rw [kept]; exact List.getElem?_set_self lt
  show run (State.inputEdge n.val) s = _
  rw [run_next]
  unfold State.inputEdge State.takeEdge
  simp only [line]
  rw [if_pos due, if_neg differ]
  refine congrArg Host.Outcome.next ?_
  rw [← markEdge_eq at_, ← reported]
  rfl

/-- The debounced level of a line whose edge has been taken. -/
theorem edgeMarked_asserted {n : Nat} (lt : n < x.lines.inputs.length) : (edgeMarked n l x).asserted n = l.raw := by
  have at_ : (edgeMarked n l x).lines.inputs[n]? = some (afterEdge l) := List.getElem?_set_self lt
  rw [State.asserted, input_of_get at_]
  unfold afterEdge
  split <;> rfl

end Sys2Proof.Proofs
end

section
/-! CLAIMS SETTLED. Starting an exposure (R118 to R120). -/

namespace Sys2Proof.Proofs

open Sys2Proof.Machine Sys2Proof.Claims

variable {s t u v w x : State} {l : InputLine} {addr kind tag : Byte} {body : List Byte}

/-- A request whose entry has been taken changes the link alone. -/
theorem requested_frame (kind tag : Byte) (s : State) : requested kind tag s = { s with link := (requested kind tag s).link } := by
  unfold requested
  exact congrArg (fun x : State => { x with link := (requested kind tag s).link }) s.transmit_frame

theorem requested_startRefusal : (requested kind tag s).startRefusal = s.startRefusal := by
  rw [requested_frame]; rfl

/-- START EXPOSURE refused by the first condition that fails (R118, R119). -/
theorem exec_startRefused (ready : Ready addr s) {st : Status} (refused : s.startRefusal = some st) :
    exec (.startExposure addr tag []) s = .next (answered 16 tag (only st) s) := by
  refine exec_unchanged (kind := 16) (owner := ownStartExposure []) ready ?_
  unfold ownStartExposure
  rw [fixedBody_of_length (n := 0) rfl]
  simp only [State.startExposure, requested_startRefusal, refused]
  rfl

/-- START EXPOSURE of a bay at the head of the approval queue with all conditions true (R119). -/
theorem exec_startTaken (ready : Ready addr s) {n : Nat} {rest : List Nat} {p : Plate} (allowed : s.startRefusal = none)
    (queue : s.approvalQueue = n :: rest) (resident : s.plate? n = some p) (height : 32 ≤ p.h) :
    exec (.startExposure addr tag []) s = .next (withAnswers [answerTo 16 tag (startReply n p) s]
      (started n p (State.onExposure (fun e => { e with autoHold := false }) (requested 16 tag s)))) := by
  generalize hu : State.onExposure (fun e => { e with autoHold := false }) (requested 16 tag s) = u
  have queue' : u.approvalQueue = n :: rest := by rw [← hu]; exact s.transmit_approvalQueue.trans queue
  have resident' : u.plate? n = some p := by rw [← hu]; exact (requested_plate? (kind := 16) (tag := tag) n).trans resident
  refine exec_answered (kind := 16) (owner := ownStartExposure []) (t := started n p u) ready ?_ (by rw [← hu]; rfl)
  unfold ownStartExposure
  rw [fixedBody_of_length (n := 0) rfl]
  unfold State.startExposure
  rw [requested_startRefusal, allowed, requested_approvalQueue, queue]
  simp only [List.head?_cons, Option.bind_some, requested_plate?, resident, Option.map_some]
  rw [hu, takeStart_eq queue' resident' height]

/-- The lines are asserted as their debounced levels are (R118). -/
theorem asserted_congr (levels : u.lines.inputs.map InputLine.debounced = v.lines.inputs.map InputLine.debounced) (n : Nat) :
    u.asserted n = v.asserted n := by
  have level : ∀ w : State, w.asserted n = (w.lines.inputs.map InputLine.debounced).getD n false := fun w => by
    unfold State.asserted State.input InputLine.reset
    simp only [List.getD, List.getElem?_map]
    cases w.lines.inputs[n]? <;> rfl
  rw [level, level, levels]

/-- Settles O39: the refusals in their order, the start itself, and the rise of L1 as an AUTO event. -/
theorem startExposureJudged : Obligations.StartExposureJudged := by
  unfold Obligations.StartExposureJudged
  refine ⟨fun addr tag s ready => ?_, fun l s here due raw debounced => ?_⟩
  · have interlocks : (¬ s.interlocked = true ∨ s.exposure.spent = true) ↔
        ¬ (s.asserted 0 = true ∧ s.asserted 1 = true ∧ s.asserted 2 = true ∧ s.exposure.spent = false) := by
      rw [interlocked_iff, ← Bool.not_eq_true]; tauto
    have full : Config.processorPlates = 4 := rfl
    refine ⟨fun busy => exec_startRefused ready ?_, fun idle none => exec_startRefused ready ?_,
      fun idle queued full => exec_startRefused ready ?_, fun idle queued room off => exec_startRefused ready ?_,
      fun n rest p idle queue room on resident height _ => ⟨_, exec_startTaken ready ?_ queue resident height, ?_⟩⟩
    · exact if_pos busy
    · exact (if_neg (not_not.2 idle)).trans (if_pos none)
    · exact (if_neg (not_not.2 idle)).trans ((if_neg queued).trans (if_pos full))
    · exact (if_neg (not_not.2 idle)).trans ((if_neg queued).trans ((if_neg (not_le.2 room)).trans (if_pos (interlocks.2 off))))
    · exact startRefusal_eq_none_iff.2 ⟨idle, by simp [queue], room, interlocked_iff.2 ⟨on.1, on.2.1, on.2.2.1⟩, on.2.2.2⟩
    · refine ⟨?_, ?_, ?_, ⟨?_, ?_, ?_, ?_, ?_, ?_, ?_⟩, ?_, ?_, ?_, rfl⟩ <;>
        simp [withAnswers, started, State.onExposure, startedExposure, queue, State.bayBase]
  · intro u
    generalize hv : s.transmit.setInput 1 (movedLine l) = v
    have link : v = { s with link := s.transmit.link, lines := { s.lines with inputs := s.lines.inputs.set 1 (movedLine l) } } := by
      rw [← hv, s.transmit_frame]; rfl
    have ready : AutoReady v ↔ AutoReady u := by
      have levels : ∀ n, v.asserted n = u.asserted n :=
        asserted_congr (by rw [link]; simp [u, List.map_set, movedLine, raw])
      unfold AutoReady
      simp only [levels]
      rw [link]
    refine ⟨fun rest => ?_, fun m rest q auto queue resident height => ?_⟩
    · have reported : v.reportEdge 1 l.raw = v := by
        rw [raw]
        exact autoEvent_rest (rest.imp (mt ready.1) fun h => by rw [link]; exact h)
      refine ⟨_, exec_inputEdge (n := 1) here due (by simp [raw, debounced]) ((congrArg _ hv).trans reported) ?_, ?_⟩
      · rw [link]; rfl
      · rw [link]; exact ⟨rfl, rfl, rfl, rfl, rfl⟩
    · have reported : v.reportEdge 1 l.raw = started m q v := by
        rw [raw]
        refine autoEvent_of_taken (.inr ⟨m, rest, q, ready.2 auto, ?_, ?_, height, rfl⟩) <;> rw [link]
        · exact queue
        · exact resident
      refine ⟨_, exec_inputEdge (n := 1) here due (by simp [raw, debounced]) ((congrArg _ hv).trans reported) ?_, ?_⟩
      · rw [link]; rfl
      · rw [link]; exact ⟨rfl, rfl, by simp [edgeMarked, started, queue], rfl, rfl⟩

end Sys2Proof.Proofs
end

section
/-! CLAIMS SETTLED. Exposures that end: aborted by request, by the drum or by an interlock, and completed (R14 to R16, R125
to R130). -/

namespace Sys2Proof.Proofs

open Sys2Proof.Machine Sys2Proof.Claims

variable {s t u v w x : State} {l : InputLine} {addr kind tag : Byte} {body : List Byte}

/-! ### Pending sources -/

theorem source_pending {n : Nat} (lt : n < 12) (a : BitVec 12) : (a ||| (1#12 <<< n)).getLsbD n = true := by
  simp [lt]

theorem source_kept {n : Nat} {a : BitVec 12} (b : BitVec 12) (h : a.getLsbD n = true) : (a ||| b).getLsbD n = true := by
  simp [h]

/-! ### Aborts -/

/-- s with another link, other lines, and these marks of its Exposure Controller: what the events that abort an exposure
change before it ends. -/
def beside (j : Link) (i : Lines) (spent hold : Bool) (s : State) : State :=
  { s with link := j, lines := i, exposure := { s.exposure with spent := spent, autoHold := hold } }

/-- What an abort in WRITING leaves, the link and the lines aside. -/
theorem abort_abortedWriting {n : Nat} {p : Plate} {j k : Link} {i m : Lines} {spent hold : Bool} (cause : AbortCause)
    (on : WritingBay s n p) (exposure : k.sources.getLsbD 8 = true) (bay : k.sources.getLsbD n = true) :
    AbortedWriting cause n p s { (beside j i spent hold s).abort cause with link := k, lines := m } := by
  rw [abort_writing (u := beside j i spent hold s) cause on]
  obtain ⟨-, -, resident, -⟩ := on
  have lt : n < s.bays.length := State.plate?_lt resident
  refine ⟨rfl, rfl, rfl, rfl, rfl, rfl, rfl, rfl, ?_, fun a ne => ?_, rfl, rfl, rfl, ⟨rfl, rfl, rfl, rfl, rfl, rfl, rfl⟩, rfl,
    exposure, bay⟩
  · simp [State.plate?, leftDrum, lt, beside]
  · simp [State.plate?, leftDrum, beside, Ne.symm ne]

/-- What an abort before any pass leaves where no start follows it, the link and the lines aside. -/
theorem abort_abortedEarly {n : Nat} {p : Plate} {j k : Link} {i m : Lines} {spent hold : Bool} (cause : AbortCause)
    (on : EarlyBay s n p) (held : hold = true ∨ (beside j i spent hold s).interlocked = false)
    (exposure : k.sources.getLsbD 8 = true) (bay : k.sources.getLsbD n = true) :
    AbortedEarly cause n p s { (beside j i spent hold s).abort cause with link := k, lines := m } ∧
    ((beside j i spent hold s).abort cause).exposure.spent = spent ∧
    ((beside j i spent hold s).abort cause).exposure.autoHold = hold := by
  rw [abort_early (u := beside j i spent hold s) cause on held]
  have same : (beside j i spent hold s).superseded p.key = s.superseded p.key := rfl
  rw [same]
  refine ⟨⟨rfl, rfl, rfl, rfl, rfl, rfl, rfl, rfl, fun fresh => ?_, fun stale => ?_, rfl,
    ⟨rfl, rfl, rfl, rfl, rfl, rfl, rfl⟩, rfl, exposure, bay⟩, rfl, rfl⟩
  · rw [← superseded_iff, Bool.not_eq_true] at fresh
    rw [fresh]
    exact ⟨rfl, rfl⟩
  · rw [(superseded_iff p.key).2 stale]
    exact ⟨rfl, rfl⟩

/-- The sources of the bay and of the exposure are pending after an abort. -/
theorem leftDrum_sources {n : Nat} {o : Option Plate} {a : List Nat} {i : List InspectionEntry} {e : Exposure}
    (left : v = leftDrum n o a i e u) (lt : n < 8) :
    v.link.sources.getLsbD 8 = true ∧ v.link.sources.getLsbD n = true := by
  rw [left]
  exact ⟨source_pending (by decide) _, source_kept _ (source_pending (by omega) _)⟩

/-- ABORT EXPOSURE of the exposure in progress: the auto hold is set, the exposure aborts, and the request is answered (R129). -/
theorem exec_abortTaken (ready : Ready addr s) (length : body.length = 6) (bay : byteAt body 0 < s.settings.bayMode.count)
    (key : KeyOk (keyAt body 1)) (busy : s.exposure.state ≠ .idle)
    (named : s.exposure.current = some (byteAt body 0, keyAt body 1)) {n : Nat} {o : Option Plate} {a : List Nat}
    {i : List InspectionEntry} {e : Exposure} {u : State}
    (before : beside (requested 17 tag s).link s.lines s.exposure.spent true s = u)
    (left : u.abort .requested = leftDrum n o a i e u) :
    exec (.abortExposure addr tag body) s = .next (withAnswers [answerTo 17 tag (only .done) s] (u.abort .requested)) := by
  refine exec_answered (kind := 17) (owner := ownAbortExposure body) (t := u.abort .requested) ready ?_
    (by rw [left, ← before]; rfl)
  unfold ownAbortExposure
  rw [fixedBody_of_length length]
  unfold State.abortExposure State.bayCount
  rw [requested_settings, if_neg (by rw [keyOk_iff]; simp [key]; omega), requested_exposure, if_pos ⟨busy, named⟩, ← before,
    requested_frame]
  rfl

/-- Settles O40, by the two ends of an aborted exposure. -/
theorem abortExposureJudged : Obligations.AbortExposureJudged := by
  unfold Obligations.AbortExposureJudged
  intro addr tag body s ready length n key ok
  have good : ok ↔ ¬ ((requested 17 tag s).bayCount ≤ n ∨ ¬ key.inRange = true) := by
    unfold State.bayCount
    rw [requested_settings, keyOk_iff, not_or, not_le, not_not]
  have unchanged {st : Status} (refused : (requested 17 tag s).abortExposure n key = (requested 17 tag s, some (only st))) :
      exec (.abortExposure addr tag body) s = .next (answered 17 tag (only st) s) := by
    refine exec_unchanged (kind := 17) (owner := ownAbortExposure body) ready (Eq.trans ?_ refused)
    unfold ownAbortExposure
    rw [fixedBody_of_length length]
  generalize before : beside (requested 17 tag s).link s.lines s.exposure.spent true s = u
  refine ⟨fun bad => unchanged (if_pos (not_not.1 (mt good.2 bad))), fun h other => ?_, fun p h on hk => ?_,
    fun p h on hk => ?_⟩
  · refine unchanged ((if_neg (good.1 h)).trans (if_neg ?_))
    rw [requested_exposure]
    tauto
  · have left := abort_writing .requested (u := u) (by rw [← before]; exact on)
    obtain ⟨exposure, bay⟩ := leftDrum_sources left on.2.2.2
    refine ⟨_, exec_abortTaken ready length h.1 h.2 (by simp [on.1]) (by rw [on.2.1, hk]) before left, ?_, ?_, ?_⟩
    · subst before
      exact abort_abortedWriting .requested on exposure bay
    · rw [left, ← before]; rfl
    · rw [left, ← before]; rfl
  · have busy : s.exposure.state ≠ .idle := by rcases on.1 with h | h <;> simp [h]
    have held : u.exposure.autoHold = true := by rw [← before]; rfl
    have left := abort_early .requested (u := u) (by rw [← before]; exact on) (.inl held)
    obtain ⟨exposure, bay⟩ := leftDrum_sources left on.2.2.2.1
    obtain ⟨aborted, spent, hold⟩ := abort_abortedEarly (j := (requested 17 tag s).link) (i := s.lines)
      (spent := s.exposure.spent) (hold := true) (k := (withAnswers [answerTo 17 tag (only .done) s] (u.abort .requested)).link)
      (m := (u.abort .requested).lines) .requested on (.inl rfl) exposure bay
    rw [before] at aborted spent hold
    refine ⟨_, exec_abortTaken ready length h.1 h.2 busy (by rw [on.2.1, hk]) before left, aborted, spent, hold, ?_, ?_⟩
    · rw [left, ← before]; rfl
    · rw [left, ← before]; rfl

end Sys2Proof.Proofs
end

section
/-! CLAIMS SETTLED. Falls of the interlock lines (R121, R128, R130). -/

namespace Sys2Proof.Proofs

open Sys2Proof.Machine Sys2Proof.Claims

variable {s t u v w x : State} {l : InputLine}

/-- The state once line n's debounced level has moved and, where it is L1's fall, the plate-spent mark is clear (R121). -/
def fallen (n : Nat) (l : InputLine) (j : Link) (s : State) : State :=
  beside j { s.lines with inputs := s.lines.inputs.set n (movedLine l) } (s.exposure.spent && decide (n ≠ 1))
    s.exposure.autoHold s

/-- A fall of door, plate-loaded or head-ready is reported as an interlock fall of its cause (R121, R128, R163). -/
theorem reportEdge_fall {i : Fin 8} {cause : AbortCause} (raw : l.raw = false)
    (line : i.val = 0 ∧ cause = .door ∨ i.val = 1 ∧ cause = .plateLost ∨ i.val = 2 ∧ cause = .head) :
    ∃ j : Link, (s.transmit.setInput i.val (movedLine l)).reportEdge i.val l.raw = (fallen i.val l j s).interlockFall cause ∧
      j.sources.getLsbD 8 = (s.transmit.link.sources.getLsbD 8 || decide (i.val = 1 ∧ s.exposure.spent = true)) := by
  rw [raw]
  have other (h : i.val ≠ 1) : s.transmit.setInput i.val (movedLine l) = fallen i.val l s.transmit.link s := by
    rw [s.transmit_frame]
    simp only [fallen, beside, h, decide_true, Bool.and_true, ne_eq, not_false_eq_true]
    rfl
  rcases line with ⟨h, rfl⟩ | ⟨h, rfl⟩ | ⟨h, rfl⟩
  · exact ⟨s.transmit.link, by rw [other (by omega), h]; rfl, by simp [h]⟩
  · rw [h]
    by_cases spent : s.exposure.spent = true
    · refine ⟨(State.setSource 8 s.transmit).link, ?_, by simp [spent, State.setSource]⟩
      show ((s.transmit.setInput 1 (movedLine l)).clearSpent).interlockFall .plateLost = _
      unfold State.clearSpent
      rw [if_pos (by simpa using spent), s.transmit_frame]
      simp only [fallen, spent]
      rfl
    · refine ⟨s.transmit.link, ?_, by simp [spent]⟩
      show ((s.transmit.setInput 1 (movedLine l)).clearSpent).interlockFall .plateLost = _
      unfold State.clearSpent
      rw [if_neg (by simpa using spent), s.transmit_frame]
      simp only [Bool.not_eq_true] at spent
      simp only [fallen, spent, beside, Bool.false_and]
      rw [← spent]
      rfl
  · exact ⟨s.transmit.link, by rw [other (by omega), h]; rfl, by simp [h]⟩

/-- With one of the interlock lines down the interlocks are not all asserted. -/
theorem fallen_interlocked {n : Nat} {j : Link} (here : s.lines.inputs[n]? = some l) (raw : l.raw = false) (lt : n < 3) :
    (fallen n l j s).interlocked = false := by
  have length := (List.getElem?_eq_some_iff.1 here).1
  have down : (fallen n l j s).asserted n = false := by
    have at_ : (fallen n l j s).lines.inputs[n]? = some (movedLine l) := List.getElem?_set_self length
    rw [State.asserted, input_of_get at_]
    exact raw
  unfold State.interlocked
  have : n = 0 ∨ n = 1 ∨ n = 2 := by omega
  rcases this with rfl | rfl | rfl <;> simp [down]

/-- The marking of an edge takes no source from the pending set. -/
theorem edgeMarked_sources (n : Nat) (l : InputLine) {k : Nat} (h : x.link.sources.getLsbD k = true) :
    (edgeMarked n l x).link.sources.getLsbD k = true := by
  unfold edgeMarked
  dsimp only
  split
  · exact source_kept _ h
  · exact h

/-- Settles O53, by what the fall is reported as in each state of the Exposure Controller. -/
theorem interlockFallAbortsWriting : Obligations.InterlockFallAbortsWriting := by
  unfold Obligations.InterlockFallAbortsWriting
  intro i l cause s line here due raw debounced
  have length := (List.getElem?_eq_some_iff.1 here).1
  obtain ⟨j, reported, sources⟩ := reportEdge_fall (s := s) raw line
  have differ : l.raw ≠ l.debounced := by simp [raw, debounced]
  have down {x : State} (kept : x.lines.inputs = s.lines.inputs.set i.val (movedLine l)) :
      (edgeMarked i.val l x).asserted i.val = false := by
    rw [edgeMarked_asserted (by rw [kept]; simpa using length), raw]
  refine ⟨fun n p on => ?_, fun n p on => ?_, fun idle => ?_⟩
  · have aborts : (fallen i.val l j s).interlockFall cause = (fallen i.val l j s).abort cause :=
      if_neg (by simp [fallen, beside, on.1])
    have left := abort_writing (u := fallen i.val l j s) cause on
    have kept : ((fallen i.val l j s).abort cause).lines.inputs = s.lines.inputs.set i.val (movedLine l) := by rw [left]; rfl
    obtain ⟨exposure, bay⟩ := leftDrum_sources left on.2.2.2
    exact ⟨_, exec_inputEdge here due differ (reported.trans aborts) kept,
      abort_abortedWriting cause on (edgeMarked_sources i.val l exposure) (edgeMarked_sources i.val l bay), down kept⟩
  · have aborts : (fallen i.val l j s).interlockFall cause = (fallen i.val l j s).abort cause :=
      if_neg (by rcases on.1 with h | h <;> simp [fallen, beside, h])
    have off := fallen_interlocked (j := j) here raw (by omega)
    have left := abort_early (u := fallen i.val l j s) cause on (.inr off)
    have kept : ((fallen i.val l j s).abort cause).lines.inputs = s.lines.inputs.set i.val (movedLine l) := by rw [left]; rfl
    obtain ⟨exposure, bay⟩ := leftDrum_sources left on.2.2.2.1
    obtain ⟨aborted, spent, hold⟩ := abort_abortedEarly cause on (.inr off) (edgeMarked_sources i.val l exposure) (edgeMarked_sources i.val l bay)
    exact ⟨_, exec_inputEdge here due differ (reported.trans aborts) kept, aborted, down kept, spent, hold⟩
  · have rests : (fallen i.val l j s).interlockFall cause = fallen i.val l j s := if_pos idle
    refine ⟨_, exec_inputEdge here due differ (reported.trans rests) rfl, down rfl, rfl, ⟨rfl, rfl, rfl, rfl, rfl, rfl, rfl⟩,
      rfl, rfl, rfl, rfl, ?_⟩
    rw [← sources]
    unfold edgeMarked
    dsimp only
    split
    · simp [fallen, beside]
    · rfl

end Sys2Proof.Proofs
end

section
/-! CLAIMS SETTLED. Passes: how one closes, and what a drum index does (R116, R117, R123 to R127). -/

namespace Sys2Proof.Proofs

open Sys2Proof.Machine Sys2Proof.Claims

variable {s t u v w x : State} {l : InputLine}

/-! ### The close of a pass -/

/-- The open pass closed: the emitters dark and its buffer EMPTY (R125). -/
def closedPass (e : Exposure) : Exposure :=
  { e with emitters := 0, passOpen := false, buffers := e.buffers.set (e.passCounter % 2) .empty }

/-- A pass before the last closes, and the next fetch may begin (R117, R125). -/
theorem passClose_next (writing : u.exposure.state = .writing) (isOpen : u.exposure.passOpen = true)
    (shown : u.exposure.passLength ≤ u.exposure.position) (more : u.exposure.passCounter + 1 ≠ u.exposure.passCount) :
    u.passClose = (u.onExposure closedPass).beginFetch := by
  unfold State.passClose
  rw [if_pos ⟨writing, isOpen, shown⟩]
  exact if_neg more

/-- The last pass closes, and the exposure completes (R125, R127). -/
theorem passClose_last (writing : u.exposure.state = .writing) (isOpen : u.exposure.passOpen = true)
    (shown : u.exposure.passLength ≤ u.exposure.position) (last : u.exposure.passCounter + 1 = u.exposure.passCount) :
    u.passClose = (u.onExposure closedPass).completeExposure := by
  unfold State.passClose
  rw [if_pos ⟨writing, isOpen, shown⟩]
  exact if_pos last

/-- No pass closes that is not open with all its positions shown (R125). -/
theorem passClose_rest (h : u.exposure.state ≠ .writing ∨ u.exposure.passOpen = false ∨
    u.exposure.position < u.exposure.passLength) : u.passClose = u := by
  unfold State.passClose
  rw [if_neg]
  rintro ⟨writing, isOpen, shown⟩
  rcases h with h | h | h
  · exact h writing
  · simp [h] at isOpen
  · omega

/-- With a fetch under way, or no pass left to fetch, none begins (R116). -/
theorem beginFetch_rest (h : u.exposure.passCount ≤ u.exposure.nextFetch ∨ u.exposure.prefetchPass ≠ none) : u.beginFetch = u := by
  unfold State.beginFetch
  refine if_neg ?_
  rintro ⟨free, left, -⟩
  rcases h with h | h
  · omega
  · exact h (Option.isNone_iff_eq_none.1 free)

/-- The fetch of the next pass begins into its EMPTY buffer (R103, R116). -/
theorem beginFetch_begins {n : Nat} {key : PlateKey} {p : Plate} (current : u.exposure.current = some (n, key))
    (resident : u.plate? n = some p) (free : u.exposure.prefetchPass = none)
    (left : u.exposure.nextFetch < u.exposure.passCount)
    (empty : u.exposure.buffers.getD (u.exposure.nextFetch % 2) .empty = .empty) :
    u.beginFetch = { u with
      exposure := { u.exposure with
        prefetchPass := some u.exposure.nextFetch, nextFetch := u.exposure.nextFetch + 1
        buffers := u.exposure.buffers.set (u.exposure.nextFetch % 2) (.fetching u.exposure.nextFetch []) }
      store := Store.grant { u.store with
        prefetch := some { addr := u.bayBase n + u.exposure.nextFetch * (p.w / 2), write := none } } } := by
  have burst : u.passBurst u.exposure.nextFetch 0 =
      { addr := u.bayBase n + u.exposure.nextFetch * (p.w / 2), write := none } := by
    simp [State.passBurst, State.exposureBase, State.exposureWidth, current, resident]
  unfold State.beginFetch
  rw [if_pos ⟨by simp [free], left, by rw [empty]; rfl⟩, burst]
  rfl

/-- A completed exposure leaves the plate EXPOSED, and a spent plate lets no start be taken (R14, R127). -/
theorem completeExposure_eq {n : Nat} {p : Plate} (current : u.exposure.current = some (n, p.key))
    (resident : u.plate? n = some p) :
    u.completeExposure = leftDrum n
      (some { p with state := .exposed, outcome := .complete, exposures := min (p.exposures + 1) 255 }) u.approvalQueue
      (u.inspectionQueue ++ [.bay n]) (endedExposure (.complete n p.key) true u.exposure) u := by
  unfold State.completeExposure State.becomeIdle State.bayCompleted
  simp only [current]
  rw [modPlate_of_bays _ resident]
  · exact autoEvent_rest (.inl (notReady_of (.inr (.inr rfl))))
  · rfl

/-- A completed exposure leaves the Exposure Controller IDLE (R127). -/
theorem completeExposure_idle (on : u.exposure.current ≠ none) : u.completeExposure.exposure.state = .idle := by
  obtain ⟨⟨n, key⟩, current⟩ := Option.ne_none_iff_exists'.1 on
  unfold State.completeExposure State.becomeIdle
  simp only [current]
  rw [autoEvent_rest (.inl (notReady_of (.inr (.inr (by simp [State.onExposure])))))]
  rfl

/-- Settles O45, by the close of a pass and what follows it. -/
theorem passCloseEndsPassOrExposure : Obligations.PassCloseEndsPassOrExposure := by
  unfold Obligations.PassCloseEndsPassOrExposure
  refine ⟨fun s writing isOpen shown more rests => ?_, fun n key p s writing isOpen shown current resident next left free => ?_,
    fun n p s on isOpen shown last => ?_, fun s h => ?_⟩
  · refine (congrArg Host.Outcome.next ?_ : run State.passClose s = _)
    rw [passClose_next (by simpa) (by simpa) (by simpa) (by simpa), beginFetch_rest]
    · simp [State.onExposure, closedPass]
    · simpa [State.onExposure, closedPass] using rests
  · refine (congrArg Host.Outcome.next ?_ : run State.passClose s = _)
    have parity : s.exposure.nextFetch % 2 = s.exposure.passCounter % 2 := by omega
    have plate : (s.transmit.onExposure closedPass).plate? n = some p := (transmit_plate? n).trans resident
    have current' : (s.transmit.onExposure closedPass).exposure.current = some (n, key) := by
      simpa [State.onExposure, closedPass] using current
    rw [passClose_next (by simpa) (by simpa) (by simpa) (by simp; omega), beginFetch_begins current' plate]
    · simp [State.onExposure, closedPass, parity, State.bayBase]
    · simpa [State.onExposure, closedPass] using free
    · simpa [State.onExposure, closedPass] using left
    · simp only [State.onExposure, closedPass, State.transmit_exposure, parity]
      rw [List.getD_eq_getElem?_getD, List.getElem?_set]
      split <;> [split <;> rfl; contradiction]
  · have plate : (s.transmit.onExposure closedPass).plate? n = some p := (transmit_plate? n).trans on.2.2.1
    have current : (s.transmit.onExposure closedPass).exposure.current = some (n, p.key) := by
      simpa [State.onExposure, closedPass] using on.2.1
    have left := completeExposure_eq current plate
    obtain ⟨exposure, bay⟩ := leftDrum_sources left on.2.2.2
    have closes : s.transmit.passClose = (s.transmit.onExposure closedPass).completeExposure :=
      passClose_last (by simpa using on.1) (by simpa) (by simpa) (by simpa)
    refine ⟨_, (rfl : run State.passClose s = _), ?_⟩
    rw [closes]
    refine ⟨?_, ?_, ?_, ?_, ?_, ?_, ?_, ?_, ?_, ?_, ⟨?_, ?_, ?_, ?_, ?_, ?_, ?_⟩, ?_, exposure, bay⟩ <;> rw [left] <;>
      simp [leftDrum, endedExposure, State.onExposure, Store.stop]
  · refine (congrArg Host.Outcome.next ?_ : run State.passClose s = _)
    rw [passClose_rest]
    right
    simpa using h

end Sys2Proof.Proofs
end

section
/-! CLAIMS SETTLED. The drum index (R123, R124, R126). -/

namespace Sys2Proof.Proofs

open Sys2Proof.Machine Sys2Proof.Claims

variable {s t u v w x : State} {l : InputLine}

/-- An IDLE transmitter with a frame to send does not stay IDLE (R174). -/
theorem transmit_chooses (idle : s.link.tx = .idle)
    (choice : s.link.answers ≠ [] ∨ s.link.fullReset = none ∧ s.link.chooseSource ≠ none) : s.transmit.link.tx ≠ .idle := by
  unfold State.transmit
  rw [idle]
  cases queue : s.link.answers with
  | cons a rest => simp
  | nil =>
    obtain ⟨waits, chosen⟩ := choice.resolve_left (by simp [queue])
    obtain ⟨src, chosen⟩ := Option.ne_none_iff_exists'.1 chosen
    simp [waits, chosen, State.beginNotice]

/-- The transmitter that has just chosen has nothing more to choose (R174). -/
theorem transmit_settled (same : u.link = s.transmit.link) : u.transmit = u := by
  have sent : u.link.tx ≠ .idle → u.transmit = u := u.transmit_sending
  rcases s.transmit_cases with rests | ⟨a, rest, -, -, h⟩ | ⟨src, -, -, -, -, h⟩
  · rw [rests] at same
    rcases u.transmit_cases with h | ⟨a, rest, idle, queue, -⟩ | ⟨src, idle, -, waits, chosen, -⟩
    · exact h
    · rw [same] at idle queue
      exact absurd (by rw [rests]; exact idle) (transmit_chooses idle (.inl (by simp [queue])))
    · rw [same] at idle waits chosen
      exact absurd (by rw [rests]; exact idle) (transmit_chooses idle (.inr ⟨waits, by simp [chosen]⟩))
  · exact sent (by simp [same, h])
  · exact sent (by simp [same, h, State.beginNotice])

/-! ### The drum index once a pass has closed -/

theorem drumIndex_waiting (closes : u.passClose = v) (waiting : v.exposure.state = .waiting) : u.drumIndex = v.firstPass := by
  unfold State.drumIndex; simp only [closes, waiting]

theorem drumIndex_writing (closes : u.passClose = v) (writing : v.exposure.state = .writing) : u.drumIndex = v.nextPass := by
  unfold State.drumIndex; simp only [closes, writing]

theorem drumIndex_ignored (closes : u.passClose = v) (off : v.exposure.state = .idle ∨ v.exposure.state = .loading) :
    u.drumIndex = v := by
  unfold State.drumIndex; rcases off with h | h <;> simp only [closes, h]

/-- The next pass begins where its buffer is FULL (R126). -/
theorem nextPass_begins {words : List StoreWord} (closed : u.exposure.passOpen = false)
    (full : u.exposure.buffers[(u.exposure.passCounter + 1) % 2]? = some (.full (u.exposure.passCounter + 1) words)) :
    u.nextPass = u.onExposure (Exposure.openPass (u.exposure.passCounter + 1) words) := by
  unfold State.nextPass
  simp [closed, List.getD_eq_getElem?_getD, full]

/-- Where the next pass's buffer is not FULL the exposure aborts with UNDERRUN (R126). -/
theorem nextPass_underrun (closed : u.exposure.passOpen = false)
    (other : ∀ words, u.exposure.buffers[(u.exposure.passCounter + 1) % 2]? ≠ some (.full (u.exposure.passCounter + 1) words)) :
    u.nextPass = u.abort .underrun := by
  unfold State.nextPass
  rw [if_neg (by simp [closed])]
  dsimp only
  split
  · rename_i q words h
    refine if_neg ?_
    rintro rfl
    refine other words ?_
    rw [List.getD_eq_getElem?_getD] at h
    cases here : u.exposure.buffers[(u.exposure.passCounter + 1) % 2]? <;> simp_all
  · rfl

/-- An abort by the drum index in WRITING. -/
theorem exec_drumAborts {n : Nat} {p : Plate} {cause : AbortCause} (on : WritingBay s n p) (closes : s.transmit.passClose = s.transmit)
    (aborts : s.transmit.nextPass = s.transmit.abort cause) :
    ∃ t, exec .drumIndex s = .next t ∧ AbortedWriting cause n p s t := by
  have frame : s.transmit = beside s.transmit.link s.lines s.exposure.spent s.exposure.autoHold s := s.transmit_frame
  have left := abort_writing (u := beside s.transmit.link s.lines s.exposure.spent s.exposure.autoHold s) cause on
  obtain ⟨exposure, bay⟩ := leftDrum_sources left on.2.2.2
  refine ⟨_, congrArg Host.Outcome.next ((drumIndex_writing closes (by simpa using on.1)).trans aborts), ?_⟩
  rw [frame]
  exact abort_abortedWriting cause on exposure bay

/-- Settles O43, by the state of the Exposure Controller and of the open pass. -/
theorem drumIndexBeginsOrAborts : Obligations.DrumIndexBeginsOrAborts := by
  unfold Obligations.DrumIndexBeginsOrAborts
  refine ⟨fun s off => ?_, fun q words s waiting full => ?_, fun words s writing closed full => ?_, fun n p s on isOpen left => ?_,
    fun n p s on closed other => ?_, fun s writing isOpen shown => ⟨fun more => ?_, fun last busy => ?_⟩⟩
  · refine congrArg Host.Outcome.next (drumIndex_ignored (passClose_rest (.inl ?_)) (by simpa using off))
    rcases off with h | h <;> simp [h]
  · refine congrArg Host.Outcome.next ((drumIndex_waiting (passClose_rest (by simp [waiting])) (by simpa)).trans ?_)
    unfold State.firstPass
    simp [List.getD_eq_getElem?_getD, full, State.onExposure, Exposure.openPass, State.setSource, sourceExposure]
  · refine congrArg Host.Outcome.next ((drumIndex_writing (passClose_rest (by simp [closed])) (by simpa)).trans ?_)
    rw [nextPass_begins (by simpa) (by simpa)]
    simp [State.onExposure, Exposure.openPass, writing]
  · exact exec_drumAborts on (passClose_rest (.inr (.inr (by simpa)))) (if_pos (by simpa))
  · exact exec_drumAborts on (passClose_rest (by simp [closed])) (nextPass_underrun (by simpa) (by simpa))
  · have closes : s.transmit.passClose = (s.transmit.onExposure closedPass).beginFetch :=
      passClose_next (by simpa) (by simpa) (by simpa) (by simpa)
    generalize hu : (s.transmit.onExposure closedPass).beginFetch = u at closes
    have state : u.exposure.state = .writing := by rw [← hu, State.beginFetch_state]; simpa [State.onExposure, closedPass]
    have closed : u.exposure.passOpen = false := by
      rw [← hu]
      rcases State.beginFetch_cases (s.transmit.onExposure closedPass) with h | ⟨-, -, h⟩ <;> rw [h] <;> rfl
    refine ⟨u, congrArg Host.Outcome.next closes, state, closed, congrArg Host.Outcome.next ?_⟩
    have settled : u.transmit = u := transmit_settled (s := s) (by rw [← hu, State.beginFetch_link]; rfl)
    rw [settled, drumIndex_writing closes state, drumIndex_writing (passClose_rest (.inr (.inl closed))) state]
  · have closes : s.transmit.passClose = (s.transmit.onExposure closedPass).completeExposure :=
      passClose_last (by simpa) (by simpa) (by simpa) (by simpa)
    refine congrArg Host.Outcome.next (drumIndex_ignored rfl (.inl ?_))
    rw [closes, completeExposure_idle (by simpa [State.onExposure, closedPass])]

end Sys2Proof.Proofs
end

section
/-! SUPPORT. The Hatch Filler's beginnings (R93 to R96) and the letting go of a bay (R8), as the claims speak of them. -/

namespace Sys2Proof.Proofs

open Sys2Proof.Machine Sys2Proof.Claims

variable {s t u v w x : State}

/-! ### Fills that begin -/

/-- From u to v nothing changes but the filler and the bursts asked of the store. -/
def FillOnly (u v : State) : Prop := v = { u with filler := v.filler, store := v.store } ∧ v.store.memory = u.store.memory

theorem FillOnly.refl (u : State) : FillOnly u u := ⟨rfl, rfl⟩

/-- A fill that follows other changes of the filler and of the bursts asked. -/
theorem FillOnly.after {f : Filler} {st : Store} (h : FillOnly { u with filler := f, store := st } v)
    (memory : st.memory = u.store.memory) : FillOnly u v := ⟨h.1, h.2.trans memory⟩

theorem askFill_fillOnly (u : State) : FillOnly u u.askFill := by
  unfold State.askFill
  split
  · exact ⟨rfl, Store.ask_memory _ _ _⟩
  · exact .refl u

theorem startFill_fillOnly (n : Nat) (u : State) : FillOnly u (u.startFill n) := by
  unfold State.startFill
  split
  · exact .refl u
  · split
    · exact .refl u
    · exact (askFill_fillOnly _).after rfl

theorem nextFill_fillOnly (u : State) : FillOnly u u.nextFill := by
  unfold State.nextFill
  split
  · exact ⟨rfl, rfl⟩
  · exact (startFill_fillOnly _ _).after rfl

theorem stopFill_fillOnly (n : Nat) (u : State) : FillOnly u (u.stopFill n) := by
  unfold State.stopFill
  split
  · exact (nextFill_fillOnly _).after rfl
  · exact ⟨rfl, rfl⟩

theorem handToFiller_fillOnly (n : Nat) (u : State) : FillOnly u (u.handToFiller n) := by
  unfold State.handToFiller
  split
  · exact startFill_fillOnly n u
  · exact ⟨rfl, rfl⟩

/-- The lowest ABSENT strip at or above an index (R93, R94). -/
theorem nextAbsent_eq {p : Plate} {lo i : Nat} (le : lo ≤ i) (absent : (p.strips[i]?).map StripRecord.state = some .absent)
    (lowest : ∀ j, lo ≤ j → j < i → (p.strips[j]?).map StripRecord.state ≠ some .absent) : p.nextAbsent lo = some i := by
  have here (j : Nat) : (p.strips[j]?).any (fun r => decide (r.state = .absent)) = true ↔
      (p.strips[j]?).map StripRecord.state = some .absent := by
    cases p.strips[j]? <;> simp
  unfold Plate.nextAbsent
  rw [List.find?_range_eq_some]
  refine ⟨?_, ?_, fun j lt => ?_⟩
  · simpa [le] using (here i).2 absent
  · obtain ⟨r, hr, -⟩ := Option.map_eq_some_iff.1 absent
    exact List.mem_range.2 (List.getElem?_eq_some_iff.1 hr).1
  · by_cases h : lo ≤ j
    · have other := Bool.not_eq_true _ ▸ mt (here j).1 (lowest j h lt)
      rw [other]
      simp
    · simp [h]

/-- The filler asks the first burst of a strip it has just turned to (R94). -/
theorem askFill_first {f : FillContext} (on : u.filler.fill = some f) (first : f.requested = 0) :
    u.askFill.filler = { u.filler with fill := some { f with requested := 1 } } ∧
    ∃ ws : List StoreWord, u.askFill.store = Store.grant { u.store with
        writer := u.store.writer ++ [(.filler, { addr := u.bayBase f.bay + f.strip * f.w, write := some ws })] } ∧
      ws.length = 8 ∧ ∀ j, j < 8 → ws[j]? = some (hatchWord f.w f.strip j) := by
  unfold State.askFill
  simp only [on, first]
  refine ⟨rfl, _, rfl, by simp, fun j lt => ?_⟩
  rw [List.getElem?_map, List.getElem?_range lt]
  simp

/-- Two plates that a fill treats alike: one key, one size and the same strips. -/
def FillAlike (p q : Plate) : Prop := p.key = q.key ∧ p.w = q.w ∧ p.h = q.h ∧ p.strips = q.strips

/-- A fill begun at once is begun as the claims say (R93, R94). -/
theorem startFill_begins {m : Nat} {p q : Plate} (resident : u.plate? m = some p) (alike : FillAlike p q)
    (settings : u.settings = s.settings) (filler : t.filler = (u.startFill m).filler) (store : t.store = (u.startFill m).store) :
    FillBegins m q u.filler.list u.store s t := by
  intro i absent lowest
  obtain ⟨key, w, h, strips⟩ := alike
  have base : u.bayBase m = s.bayBase m := by unfold State.bayBase; rw [settings]
  have begun : u.startFill m = State.askFill { u with filler := { u.filler with fill :=
      (some { bay := m, key := q.key, w := q.w, h := q.h, strip := i, requested := 0, served := 0 }) } } := by
    unfold State.startFill
    simp only [resident, nextAbsent_eq (Nat.zero_le i) (strips ▸ absent) fun j _ => strips ▸ lowest j, key, w, h]
  rw [filler, store, begun, ← base]
  generalize on : ({ bay := m, key := q.key, w := q.w, h := q.h, strip := i, requested := 0, served := 0 } : FillContext) = f
  have first := askFill_first (u := { u with filler := { u.filler with fill := some f } }) rfl (by rw [← on])
  subst on
  exact first

/-- The filler that goes on after its fill has ended or stopped goes on as the claims say (R95, R96). -/
theorem nextFill_goesOn {n : Nat} (settings : u.settings = s.settings) (list : u.filler.list = s.filler.list)
    (plates : ∀ m q, m ≠ n → s.plate? m = some q → ∃ p, u.plate? m = some p ∧ FillAlike p q)
    (filler : t.filler = u.nextFill.filler) (store : t.store = u.nextFill.store) : FillerGoesOn n u.store s t := by
  rw [FillerGoesOn, ← list]
  unfold State.nextFill at filler store
  refine ⟨fun empty => ?_, fun m rest q more ne resident => ?_⟩
  · rw [empty] at filler store
    exact ⟨filler, store⟩
  · obtain ⟨p, resident', alike⟩ := plates m q ne resident
    rw [more] at filler store
    exact startFill_begins (u := { u with filler := { fill := none, list := rest } }) resident' alike settings filler store

/-- A bay handed to the filler is handed as the claims say (R93). -/
theorem handToFiller_handed {n : Nat} {p q : Plate} (resident : u.plate? n = some p) (alike : FillAlike p q)
    (settings : u.settings = s.settings) (same : u.filler = s.filler) (stores : u.store = s.store)
    (filler : t.filler = (u.handToFiller n).filler) (store : t.store = (u.handToFiller n).store) : HandedToFiller n q s t := by
  rw [HandedToFiller, ← same, ← stores]
  unfold State.handToFiller at filler store
  refine ⟨fun busy => ?_, fun idle => ?_⟩
  · rw [if_neg (by simpa using busy)] at filler store
    exact ⟨filler, store⟩
  · rw [if_pos (by simp [idle])] at filler store
    exact startFill_begins resident alike settings filler store

end Sys2Proof.Proofs
end

section
/-! SUPPORT. A bay let go, as the claims speak of it (R8). -/

namespace Sys2Proof.Proofs

open Sys2Proof.Machine Sys2Proof.Claims

variable {s t u v w x : State}

/-! ### Answers of an entry -/

/-- The answer of this entry, if it stands in the outstanding table (R173). -/
def entryAnswer (slot : Option Nat) (r : Reply) (table : List Entry) : List Answer :=
  match slot.bind fun k => table.find? fun e => decide (e.slot = k) with
  | some e => [{ slot := slot, kind := kindOfAnswer e.kind, tag := e.tag, reply := r }]
  | none => []

theorem withAnswers_nil (u : State) : withAnswers [] u = u := by
  unfold withAnswers
  rw [List.append_nil]

theorem answer?_eq (slot : Option Nat) (r : Reply) (u : State) :
    u.answer? slot r = withAnswers (entryAnswer slot r u.link.outstanding) u := by
  cases slot with
  | none => exact (withAnswers_nil u).symm
  | some k =>
    unfold State.answer? State.answer entryAnswer
    simp only [Option.bind_some]
    cases u.link.outstanding.find? fun e => decide (e.slot = k) with
    | none => exact (withAnswers_nil u).symm
    | some e => simp only [← kindOfAnswer_eq, withAnswers]

theorem entryAnswer_found {k : Nat} {e : Entry} {r : Reply} {table : List Entry}
    (found : table.find? (fun x => decide (x.slot = k)) = some e) :
    entryAnswer (some k) r table = [{ slot := some k, kind := kindOfAnswer e.kind, tag := e.tag, reply := r }] := by
  unfold entryAnswer
  rw [Option.bind_some, found]

/-- The answer of an entry that the table before the request held. -/
theorem entryAnswer_before {k : Nat} {e : Entry} {r : Reply} {table : List Entry} (more : List Entry)
    (found : table.find? (fun x => decide (x.slot = k)) = some e) :
    entryAnswer (some k) r (table ++ more) = [{ slot := some k, kind := kindOfAnswer e.kind, tag := e.tag, reply := r }] :=
  entryAnswer_found (by rw [List.find?_append, found]; rfl)

/-! ### Bays let go -/

/-- An APPROVE PLATE of this plate is held or pending (R9). -/
def approvalWaits (p : Plate) : Bool := decide (p.state = .filling) && p.approvalHeld || decide (p.state = .approving)

theorem approvalWaits_iff {p : Plate} :
    approvalWaits p = true ↔ p.state = .filling ∧ p.approvalHeld = true ∨ p.state = .approving := by
  simp [approvalWaits]

/-- The WITHDRAWN of an APPROVE PLATE held or pending (R8). -/
def withdrawnAnswer (p : Plate) (table : List Entry) : List Answer :=
  if approvalWaits p then entryAnswer p.approveEntry (only .withdrawn) table else []

/-- u with what worked on bay n, holding p, let go, but for the answer (R8). -/
def released (n : Nat) (p : Plate) (u : State) : State :=
  match p.state with
  | .filling => abandoned n u
  | .approving => u.stopFill n
  | .queued => { u with approvalQueue := u.approvalQueue.filter fun m => decide (m ≠ n) }
  | _ => u

theorem released_link (n : Nat) (p : Plate) (u : State) : (released n p u).link = u.link := by
  unfold released
  cases p.state <;> first | rfl | exact u.stopFill_link n

theorem letGo_eq (n : Nat) (p : Plate) (u : State) :
    u.letGo n p = withAnswers (withdrawnAnswer p u.link.outstanding) (released n p u) := by
  unfold State.letGo released withdrawnAnswer approvalWaits
  cases p.state
  case filling =>
    cases p.approvalHeld
    · simp [abandonBay_eq, withAnswers_nil]
    · simp [abandonBay_eq, answer?_eq, abandoned]; rfl
  case approving => simp [answer?_eq]; rfl
  all_goals simp [withAnswers_nil]

/-- What the letting go of a bay changes in no state of its plate. -/
theorem released_frame (n : Nat) (p : Plate) (u : State) :
    (released n p u).settings = u.settings ∧ (released n p u).bays = u.bays ∧
    (released n p u).inspectionQueue = u.inspectionQueue ∧ (released n p u).intake = u.intake ∧
    (released n p u).exposure = u.exposure ∧ (released n p u).inspection = u.inspection ∧
    (released n p u).lines = u.lines ∧ (released n p u).store.memory = u.store.memory ∧
    (released n p u).screening.screens = u.screening.screens ∧ (released n p u).screening.curves = u.screening.curves := by
  unfold released
  cases p.state
  case filling =>
    refine ⟨rfl, rfl, rfl, rfl, rfl, rfl, rfl, ?_, ?_, ?_⟩ <;> simp only [abandoned] <;> split <;> rfl
  case approving =>
    obtain ⟨frame, memory⟩ := stopFill_fillOnly n u
    dsimp only
    exact ⟨by simp, by simp, by simp, by simp, by simp, by simp, by simp, memory, by simp, by simp⟩
  all_goals exact ⟨rfl, rfl, rfl, rfl, rfl, rfl, rfl, rfl, rfl, rfl⟩

/-- The decoder's part in the letting go of a bay (R67, R70, R109). -/
theorem released_decoder (n : Nat) (p : Plate) (u : State) :
    (p.state = .filling → released n p u = abandoned n u) ∧
    (p.state ≠ .filling → (released n p u).decoder = u.decoder ∧ (released n p u).screening = u.screening) := by
  unfold released
  cases p.state
  case filling => simp
  case approving => simp
  all_goals simp

/-- The filler's part in the letting go of a bay (R96). -/
theorem released_filler (n : Nat) (p : Plate) (u : State) :
    (p.state = .approving → released n p u = u.stopFill n) ∧
    (p.state ≠ .approving → (released n p u).filler = u.filler) ∧
    (p.state ≠ .filling → p.state ≠ .approving → (released n p u).store = u.store) := by
  unfold released
  cases p.state
  case filling => simp [abandoned]
  case approving => simp
  all_goals simp

theorem released_approvalQueue (n : Nat) (p : Plate) (u : State) :
    (released n p u).approvalQueue =
      if p.state = .queued then u.approvalQueue.filter fun m => decide (m ≠ n) else u.approvalQueue := by
  unfold released
  cases p.state
  case approving => simp
  all_goals rfl

/-- The filler lets a bay go as the claims say: from its list, or, its own, for the next bay of the list (R96). -/
theorem stopFill_letsGo {n : Nat} (settings : u.settings = s.settings) (bays : u.bays = s.bays) (same : u.filler = s.filler)
    (stores : u.store = s.store) (filler : t.filler = (u.stopFill n).filler) (store : t.store = (u.stopFill n).store) :
    ((∀ f, s.filler.fill = some f → f.bay ≠ n) →
      t.filler = { s.filler with list := s.filler.list.filter fun m => decide (m ≠ n) } ∧ t.store = s.store) ∧
    (∀ f, s.filler.fill = some f → f.bay = n → FillerGoesOn n (s.store.stop .filler) s t) := by
  rw [← same, ← stores]
  unfold State.stopFill at filler store
  refine ⟨fun others => ?_, fun f on here => ?_⟩
  · rw [if_neg (by cases on : u.filler.fill <;> simp_all)] at filler store
    exact ⟨filler, store⟩
  · rw [if_pos (by simp [on, here])] at filler store
    exact nextFill_goesOn (u := u.onStore (Store.stop .filler)) settings (congrArg Filler.list same)
      (fun m q _ hq => ⟨q, (State.plate?_congr bays m).trans hq, rfl, rfl, rfl, rfl⟩) filler store

/-- A bay let go by a request, whose own answer follows, is let go as the claims say (R8). -/
theorem released_letGo {n : Nat} {p : Plate} {own : Answer} {kind tag : Byte} {bays : List (Option Plate)} {link : Link}
    (sources : link.sources.getLsbD n = true)
    (answers : link.answers = s.transmit.link.answers ++ withdrawnAnswer p (requested kind tag s).link.outstanding ++ [own]) :
    LetGo n p own s { released n p (requested kind tag s) with bays := bays, link := link } := by
  obtain ⟨settings, -, inspectionQueue, intake, exposure, inspection, lines, memory, screens, curves⟩ :=
    released_frame n p (requested kind tag s)
  obtain ⟨abandons, keeps⟩ := released_decoder n p (requested kind tag s)
  obtain ⟨stops, filler, store⟩ := released_filler n p (requested kind tag s)
  have approvalQueue := released_approvalQueue n p (requested kind tag s)
  rw [requested_approvalQueue] at approvalQueue
  simp only [requested_settings, requested_inspectionQueue, requested_intake, requested_exposure, requested_inspection,
    requested_lines, requested_store] at settings inspectionQueue intake exposure inspection lines memory store
  simp only [requested_screening, requested_decoder, requested_filler] at screens curves keeps filler
  refine ⟨?_, sources, settings, inspectionQueue, intake, exposure, inspection, lines, memory, screens, curves, approvalQueue,
    fun filling => ?_, keeps, filler, store, ⟨fun k e waits entry found => ?_, fun waits => ?_⟩, fun approving => ?_⟩
  · show link.answers.getLast? = _
    rw [answers]; simp
  · rw [abandons filling]
    simp only [abandoned, requested_decoder, requested_screening, requested_store]
    exact ⟨trivial, trivial, trivial⟩
  · show link.answers = _
    rw [answers, withdrawnAnswer, if_pos (approvalWaits_iff.2 waits), entry, requested, entryAnswer_before _ found]
    simp
  · show link.answers = _
    rw [answers, withdrawnAnswer, if_neg (mt approvalWaits_iff.1 waits)]
    simp
  · rw [stops approving]
    exact stopFill_letsGo requested_settings requested_bays requested_filler requested_store rfl rfl

/-- A freed bay's state, its neighbours' work let go (R8). -/
theorem freeBay_eq {n : Nat} {p : Plate} (resident : u.plate? n = some p) : u.freeBay n = { released n p u with
    bays := u.bays.set n none
    link := { u.link with
      answers := u.link.answers ++ withdrawnAnswer p u.link.outstanding, sources := u.link.sources ||| (1#12 <<< n) } } := by
  obtain ⟨-, bays, -⟩ := released_frame n p u
  unfold State.freeBay
  simp only [resident]
  rw [letGo_eq]
  simp only [State.setSource, State.setBay, withAnswers, released_link, bays]

end Sys2Proof.Proofs
end

section
/-! CLAIMS SETTLED. RELEASE PLATE (R21) and the bay that OPEN PLATE takes (R6, R7), with what they let go (R8). -/

namespace Sys2Proof.Proofs

open Sys2Proof.Machine Sys2Proof.Claims

variable {s t u v w x : State} {addr kind tag : Byte} {body : List Byte}

/-- Settles O20, by the freeing of the bay. -/
theorem releasePlateFreesBay : Obligations.ReleasePlateFreesBay := by
  unfold Obligations.ReleasePlateFreesBay
  intro addr tag body n p s ready length names lt
  refine ⟨fun busy => ?_, fun freed => ?_⟩
  · refine exec_plateAnswered (kind := 7) (rule := releaseRule) (r := only .busy) ready length names ?_ rfl
    unfold releaseRule
    rcases busy with h | h | h <;> rw [h] <;> rfl
  · have left := freeBay_eq ((requested_plate? (kind := 7) (tag := tag) n).trans (Names.resident names))
    have rule : releaseRule n p (some s.link.freeSlot) (requested 7 tag s) = done ((requested 7 tag s).freeBay n) := by
      unfold releaseRule
      rcases freed with h | h | h | h <;> rw [h]
    refine ⟨_, exec_plateAnswered (kind := 7) (rule := releaseRule) (r := only .done) ready length names rule ?_, ?_, ?_⟩
    all_goals rw [left]
    · simp
    · exact released_letGo (source_pending (by omega) _) rfl

/-! ### The bay that an open takes -/

/-- A body that passes the four checks reaches the choice of a bay (R5, R6). -/
theorem openPlate_passes (passes : OpenPasses body s) :
    (requested kind tag s).openPlate (openFields body) = (requested kind tag s).chooseBay (openFields body) := by
  obtain ⟨-, ranges, size, fresh, newest⟩ := passes
  have found := findPlate_isSome_iff (s := requested kind tag s) (openFields body).key
  have newer := superseded_iff (s := requested kind tag s) (openFields body).key
  simp only [requested_plate?, Superseded] at found newer
  unfold State.openPlate
  rw [if_neg (by rw [openFields_inRange]; exact not_not.2 ranges), if_neg, if_neg, if_neg]
  · rw [newer]
    rintro ⟨m, q, resident, page, lt⟩
    exact absurd (newest m q resident page) (not_le.2 lt)
  · rw [found]
    rintro ⟨m, q, resident, same⟩
    exact fresh m q resident same
  · rw [requested_settings, not_lt, ← bayDots_eq]
    exact size

/-- The open takes the lowest FREE bay of x, what is left when its predecessors have been withdrawn (R6, R7). -/
theorem exec_openTakes (ready : Ready addr s) (passes : OpenPasses body s) {ns : List Nat} {n : Nat}
    (withdraws : (requested 4 tag s).withdrawals (keyAt body 0) = ns) (left : (requested 4 tag s).freeBays ns = x)
    (lowest : x.bays.findIdx? Option.isNone = some n) (table : x.link.outstanding = (requested 4 tag s).link.outstanding) :
    exec (.openPlate addr tag body) s =
      .next (withAnswers [answerTo 4 tag { status := .done, data := [BitVec.ofNat 8 n] } s] (State.setSource n
        (x.setBay n (some (openedPlate body ((requested 4 tag s).hasPredecessor (keyAt body 0))))))) := by
  refine exec_openPlate ready passes.1 ((openPlate_passes passes).trans ?_) table
  have withdrawn : ((requested 4 tag s).withdrawals (openFields body).key).foldl (fun s n => s.freeBay n) (requested 4 tag s) = x := by
    rw [← left]; exact congrArg (fun ms => (requested 4 tag s).freeBays ms) withdraws
  unfold State.chooseBay
  simp only [withdrawn, lowest]
  rfl

theorem lowestFree_eq {n : Nat} (lt : n < s.bays.length) (free : s.plate? n = none) (taken : ∀ m, m < n → s.plate? m ≠ none) :
    s.bays.findIdx? Option.isNone = some n := by
  rw [List.findIdx?_eq_some_iff_getElem]
  refine ⟨lt, ?_, fun m hm => ?_⟩
  · simpa [State.plate?, List.getElem?_eq_getElem lt] using free
  · have := taken m hm
    simpa [State.plate?, List.getElem?_eq_getElem (hm.trans lt)] using this

theorem hasPredecessor_iff (key : PlateKey) :
    s.hasPredecessor key = true ↔ ∃ m p, s.plate? m = some p ∧ SamePage p.key key := by
  unfold State.hasPredecessor
  rw [any_bays_iff]
  simp only [samePage_iff]

/-- The plates that a replate withdraws (R6). -/
theorem mem_withdrawals_iff (key : PlateKey) (n : Nat) :
    n ∈ s.withdrawals key ↔ ∃ p, s.plate? n = some p ∧ SamePage p.key key ∧ Withdrawable p := by
  rw [State.mem_withdrawals]
  simp only [samePage_iff, Plate.OnItsWay, Withdrawable]

theorem withdrawals_none {key : PlateKey} (none : ∀ n p, s.plate? n = some p → SamePage p.key key → ¬ Withdrawable p) :
    s.withdrawals key = [] := by
  refine List.eq_nil_iff_forall_not_mem.2 fun n hn => ?_
  obtain ⟨p, resident, page, way⟩ := (mem_withdrawals_iff key n).1 hn
  exact none n p resident page way

theorem withdrawals_one {key : PlateKey} {m : Nat} {p : Plate} (resident : s.plate? m = some p) (page : SamePage p.key key)
    (way : Withdrawable p) (one : ∀ i q, s.plate? i = some q → SamePage q.key key → Withdrawable q → i = m) :
    s.withdrawals key = [m] := by
  have nodup : (s.withdrawals key).Nodup := List.nodup_range.filter _
  refine List.perm_singleton.1 ((List.perm_ext_iff_of_nodup nodup (List.nodup_singleton m)).2 fun i => ?_)
  rw [mem_withdrawals_iff, List.mem_singleton]
  constructor
  · rintro ⟨q, hq, samePage, ways⟩
    exact one i q hq samePage ways
  · rintro rfl
    exact ⟨p, resident, page, way⟩

/-- The withdrawal of the one predecessor on its way, and the bay that the open then takes (R6 to R8). -/
theorem exec_openReplaces (ready : Ready addr s) (passes : OpenPasses body s) {m n : Nat} {p : Plate} (resident : s.plate? m = some p)
    (page : SamePage p.key (keyAt body 0)) (way : Withdrawable p)
    (one : ∀ i q, s.plate? i = some q → SamePage q.key (keyAt body 0) → Withdrawable q → i = m)
    (lt : n < s.bays.length) (free : s.plate? n = none ∨ n = m) (taken : ∀ i, i < n → s.plate? i ≠ none ∧ i ≠ m) :
    exec (.openPlate addr tag body) s = .next { released m p (requested 4 tag s) with
      bays := (s.bays.set m none).set n (some (openedPlate body true))
      link := { (requested 4 tag s).link with
        answers := s.transmit.link.answers ++ withdrawnAnswer p (requested 4 tag s).link.outstanding ++
          [answerTo 4 tag { status := .done, data := [BitVec.ofNat 8 n] } s]
        sources := s.transmit.link.sources ||| (1#12 <<< m) ||| (1#12 <<< n) } } := by
  have resident' := (requested_plate? (kind := 4) (tag := tag) m).trans resident
  have withdraws : (requested 4 tag s).withdrawals (keyAt body 0) = [m] :=
    withdrawals_one resident' page way fun i q hq => one i q ((requested_plate? i).symm.trans hq)
  have left : (requested 4 tag s).freeBays [m] = (requested 4 tag s).freeBay m := rfl
  have plate (i : Nat) : ((requested 4 tag s).freeBay m).plate? i = if i = m then none else s.plate? i := by
    rw [State.plate?_freeBay resident', requested_plate?]
  have replate : (requested 4 tag s).hasPredecessor (keyAt body 0) = true := (hasPredecessor_iff _).2 ⟨m, p, resident', page⟩
  have freed := freeBay_eq resident'
  rw [exec_openTakes (n := n) ready passes withdraws left (lowestFree_eq ?_ ?_ fun i hi => ?_) (by rw [freed]), replate, freed]
  · simp only [State.setSource, State.setBay, withAnswers, requested_bays]
    rfl
  · rw [freed]; simpa using lt
  · rw [plate]
    rcases free with h | h <;> simp [h]
  · rw [plate, if_neg (taken i hi).2]
    exact (taken i hi).1

/-- Settles O14, by the bays that the open withdraws and the lowest FREE one after it. -/
theorem openPlateTakesLowestFreeBay : Obligations.OpenPlateTakesLowestFreeBay := by
  unfold Obligations.OpenPlateTakesLowestFreeBay
  refine ⟨fun addr tag body s ready passes stay => ?_, fun addr tag body m n p s ready passes resident page queued one lt free taken => ?_,
    fun addr tag body m n p s ready passes resident page way bay one lt free taken => ?_⟩
  · have withdraws : (requested 4 tag s).withdrawals (keyAt body 0) = [] :=
      withdrawals_none fun i q hq => stay i q ((requested_plate? i).symm.trans hq)
    refine ⟨fun n replate lt free taken resident => ?_, fun full => ?_⟩
    · have predecessor : (requested 4 tag s).hasPredecessor (keyAt body 0) = replate := by
        rw [Bool.eq_iff_iff, hasPredecessor_iff, resident]
        simp
      rw [exec_openTakes (n := n) ready passes withdraws rfl (lowestFree_eq ?_ ?_ fun i hi => ?_) rfl, predecessor]
      · simp only [State.setSource, State.setBay, withAnswers, State.freeBays_nil, requested_bays]
        rfl
      · simpa using lt
      · simpa using free
      · simpa using taken i hi
    · refine exec_openPlate ready passes.1 ((openPlate_passes passes).trans ?_) rfl
      have taken : (requested 4 tag s).bays.findIdx? Option.isNone = none := by
        rw [requested_bays, List.findIdx?_eq_none_iff]
        intro o ho
        obtain ⟨i, lt, rfl⟩ := List.getElem_of_mem ho
        have resident := full i lt
        rw [State.plate?, List.getElem?_eq_getElem lt, Option.join_some, Option.ne_none_iff_isSome] at resident
        simpa using resident
      unfold State.chooseBay
      simp only [show (openFields body).key = keyAt body 0 from rfl, withdraws, List.foldl_nil, taken]
      rfl
  · rw [exec_openReplaces ready passes resident page (.inr (.inr queued)) one lt free taken]
    have silent : withdrawnAnswer p (requested 4 tag s).link.outstanding = [] := by
      simp [withdrawnAnswer, approvalWaits, queued]
    rw [silent, released]
    simp only [queued, requested_approvalQueue, List.append_nil]
    rfl
  · refine ⟨_, exec_openReplaces ready passes resident page way one lt free taken, rfl, ?_, rfl, rfl⟩
    exact released_letGo (source_kept _ (source_pending (by omega) _)) rfl

end Sys2Proof.Proofs
end

section
/-! CLAIMS SETTLED. The approvals left unanswered (R9, R66, R93). -/

namespace Sys2Proof.Proofs

open Sys2Proof.Machine Sys2Proof.Claims

variable {s t u v w x : State} {addr kind tag : Byte} {body : List Byte}

/-- An approval that asks a hatch fill makes the bay APPROVING and hands it to the filler (R9, R93). -/
theorem judgeApproval_hatch {n : Nat} {p : Plate} (resident : s.plate? n = some p) (entry : Option Nat)
    (hatch : p.policy = .hatch) (absent : p.anyAbsent = true) :
    s.judgeApproval n entry = (State.handToFiller n { abandoned n s with
      bays := s.bays.set n (some { p with state := .approving, approveEntry := entry })
      link := { s.link with sources := s.link.sources ||| (1#12 <<< n) } }, none) := by
  rcases State.judgeApproval_outcomes resident entry with ⟨_, _, _⟩ | ⟨_, _⟩ | ⟨-, -, h⟩
  · simp_all
  · simp_all
  · rw [h, abandonBay_eq, modPlate_of_bays _ resident]
    · rfl
    · rfl

/-- With no buffer WRITING into the bay, no burst of a strip write is withdrawn (R109). -/
theorem abandoned_store {n : Nat} (h : ∀ b ∈ s.decoder.buffers, b.forBay n = true → b.isWriting = false) :
    (abandoned n s).store = s.store := by
  refine if_neg ?_
  rintro ⟨b, hb, bay, writing⟩
  rw [h b hb bay] at writing
  cases writing

theorem notWriting_of_noPendingWrite {n : Nat} (h : NoPendingWrite n s) :
    ∀ b ∈ s.decoder.buffers, b.forBay n = true → b.isWriting = false := by
  intro b hb bay
  have building := h b hb bay
  cases b <;> simp [StripBuffer.isBuilding, StripBuffer.isWriting] at building ⊢

/-- APPROVE PLATE of a FILLING bay with a write into it pending is held, unanswered (R9, R66). -/
theorem exec_approvalHeld (ready : Ready addr s) (length : body.length = 6) {n : Nat} {p : Plate} (names : Names body s n p)
    (filling : p.state = .filling) (free : p.approvalHeld = false) (pending : s.decoder.writePending n = true) :
    exec (.approvePlate addr tag body) s = .next { requested 6 tag s with
      bays := s.bays.set n (some { p with approvalHeld := true, approveEntry := some s.link.freeSlot })
      decoder := s.decoder.letFirstPass n } := by
  have resident := (requested_plate? (kind := 6) (tag := tag) n).trans (Names.resident names)
  refine exec_unanswered (kind := 6) (owner := ownApprovePlate body) ready
    ((plateOwner_names length names approveRule _).trans ?_)
  unfold approveRule
  rw [if_neg (not_not.2 filling), if_neg (by simp [free]), requested_decoder, if_pos pending]
  unfold State.holdApproval
  rw [State.modPlate_some _ resident]
  simp only [State.setBay, requested_bays, requested_decoder]

/-- The bay's buffer first in READY order is let through a held approval (R66). -/
theorem letFirstPass_ready {n i : Nat} {d : Decoder} {first rest : List Nat} {ctx : StripContext} {lines : List Line}
    {through : Bool} (none : ∀ b ∈ d.buffers, b.forBay n = true → b.isWriting = false) (order : d.readyOrder = first ++ i :: rest)
    (here : d.buffers[i]? = some (.ready ctx lines through)) (bay : ctx.bay = n)
    (before : ∀ j ∈ first, ∀ b, d.buffers[j]? = some b → b.forBay n = false) :
    d.letFirstPass n = { d with buffers := d.buffers.set i (.ready ctx lines true) } := by
  have notWriting : d.writingInto n = false := by
    rw [Decoder.writingInto, List.any_eq_false]
    intro b hb writing
    simp only [Bool.and_eq_true] at writing
    simp [none b hb writing.1] at writing
  have buffer : d.buffers.getD i .free = .ready ctx lines through := by rw [List.getD_eq_getElem?_getD, here]; rfl
  have found : d.readyOrder.find? (fun j => (d.buffers.getD j .free).forBay n) = some i := by
    rw [order, List.find?_append, List.find?_eq_none.2, Option.none_or, List.find?_cons_of_pos]
    · rw [buffer]
      simp [StripBuffer.forBay, StripBuffer.context, bay]
    · intro j hj
      rw [List.getD_eq_getElem?_getD]
      cases at_ : d.buffers[j]? with
      | none => simp [StripBuffer.forBay, StripBuffer.context]
      | some b => simp [before j hj b at_]
  unfold Decoder.letFirstPass
  rw [if_neg (by simp [notWriting]), found]
  simp only [buffer, StripBuffer.letPass]

/-- Settles O19: the bay handed to the filler, and the two ways a write in progress holds the approval. -/
theorem approvePlateLeftUnanswered : Obligations.ApprovePlateLeftUnanswered := by
  unfold Obligations.ApprovePlateLeftUnanswered
  intro addr tag body n p s ready length names filling free heldBay
  refine ⟨fun noWrite hatch absent => ?_, fun ⟨b, hb, bay, writing⟩ => ?_,
    fun first rest i ctx lines through none order here bay before => ?_⟩
  · have resident := (requested_plate? (kind := 6) (tag := tag) n).trans (Names.resident names)
    have judged := approveRule_judges (kind := 6) (tag := tag) filling free noWrite
    have judgement := judgeApproval_hatch resident (some s.link.freeSlot) hatch (anyAbsent_iff.2 absent)
    have lt : n < s.bays.length := State.plate?_lt (Names.resident names)
    generalize hu : ({ abandoned n (requested 6 tag s) with
      bays := (requested 6 tag s).bays.set n (some { p with state := .approving, approveEntry := some s.link.freeSlot })
      link := { (requested 6 tag s).link with sources := (requested 6 tag s).link.sources ||| (1#12 <<< n) } } : State) = u
      at judgement
    have store : u.store = s.store := by
      rw [← hu]
      exact (abandoned_store (by rw [requested_decoder]; exact notWriting_of_noPendingWrite noWrite)).trans
        (requested_store (kind := 6) (tag := tag))
    obtain ⟨frame, memory⟩ := handToFiller_fillOnly n u
    refine ⟨_, exec_unanswered (kind := 6) (owner := ownApprovePlate body) ready
      ((plateOwner_names length names approveRule _).trans (judged.trans judgement)),
      handToFiller_handed (p := { p with state := .approving, approveEntry := some s.link.freeSlot }) ?_
        ⟨rfl, rfl, rfl, rfl⟩ ?_ ?_ store rfl rfl, ?_, memory.trans (congrArg Store.memory store)⟩
    · rw [← hu]
      simp [State.plate?, lt]
    · rw [← hu]; exact requested_settings (kind := 6) (tag := tag)
    · rw [← hu]; exact requested_filler (kind := 6) (tag := tag)
    · refine frame.trans ?_
      rw [← hu, requested_bays]
      rfl
  · have pending : s.decoder.writePending n = true := by
      rw [Decoder.writePending, List.any_eq_true]
      exact ⟨b, hb, by simp [bay, writing]⟩
    have writingInto : s.decoder.writingInto n = true := by
      rw [Decoder.writingInto, List.any_eq_true]
      exact ⟨b, hb, by simp [bay, writing]⟩
    rw [exec_approvalHeld ready length names filling free pending, Decoder.letFirstPass, if_pos writingInto]
    rw [← requested_decoder (kind := 6) (tag := tag)]
  · have pending : s.decoder.writePending n = true := by
      rw [Decoder.writePending, List.any_eq_true]
      exact ⟨_, List.mem_of_getElem? here, by simp [StripBuffer.forBay, StripBuffer.context, bay, StripBuffer.isReady]⟩
    rw [exec_approvalHeld ready length names filling free pending, letFirstPass_ready none order here bay before]

end Sys2Proof.Proofs
end

section
/-! CLAIMS SETTLED. The end of a hatched strip (R94, R95). -/

namespace Sys2Proof.Proofs

open Sys2Proof.Machine Sys2Proof.Claims

variable {s t u v w x : State}

/-- What an AUTO event leaves alone (R120). -/
theorem autoTaken_frame (h : AutoTaken u v) : v.settings = u.settings ∧ v.filler = u.filler ∧ v.lines = u.lines ∧
    v.link.answers = u.link.answers ∧ v.link.outstanding = u.link.outstanding := by
  rcases h with ⟨-, rfl⟩ | ⟨m, rest, q, -, -, -, -, rfl⟩ <;> exact ⟨rfl, rfl, rfl, rfl, rfl⟩

/-- No plate that an AUTO event finds is another for the filler after it: a start makes one bay EXPOSING (R13). -/
theorem autoTaken_fillAlike (h : AutoTaken u v) {m : Nat} {q : Plate} (resident : u.plate? m = some q) :
    ∃ p, v.plate? m = some p ∧ FillAlike p q := by
  rcases h with ⟨-, rfl⟩ | ⟨n, rest, q', -, -, resident', -, rfl⟩
  · exact ⟨q, resident, rfl, rfl, rfl, rfl⟩
  · by_cases here : m = n
    · subst here
      obtain rfl : q' = q := by rw [resident] at resident'; exact (Option.some.inj resident').symm
      exact ⟨_, State.plate?_eq_of_setBay (State.plate?_lt resident) rfl, rfl, rfl, rfl, rfl⟩
    · exact ⟨q, (State.plate?_other_of_setBay here rfl).trans resident, rfl, rfl, rfl, rfl⟩

theorem nextAbsent_none {p : Plate} {lo : Nat} (taken : ∀ i, lo ≤ i → (p.strips[i]?).map StripRecord.state ≠ some .absent) :
    p.nextAbsent lo = none := by
  unfold Plate.nextAbsent
  rw [List.find?_eq_none]
  intro i _ found
  simp only [Bool.and_eq_true, decide_eq_true_eq, Option.any_eq_true] at found
  obtain ⟨le, r, here, absent⟩ := found
  exact taken i le (by rw [here]; simp [absent])

/-- The plate with a strip hatched (R94). -/
def hatched (strip : Nat) (p : Plate) : Plate :=
  { p with strips := p.strips.set strip { state := .missing, source := .common, variantSeen := false, cause := .none } }

/-- The strips above the one hatched stand as they stood. -/
theorem hatched_above {strip i : Nat} (above : strip < i) (p : Plate) : (hatched strip p).strips[i]? = p.strips[i]? :=
  List.getElem?_set_ne (by omega)

/-- The hatched strip recorded, its bay's source set (R94). -/
def stripHatched (f : FillContext) (p : Plate) (u : State) : State :=
  { u with
    bays := u.bays.set f.bay (some (hatched f.strip p))
    link := { u.link with sources := u.link.sources ||| (1#12 <<< f.bay) } }

/-- HATCH_STRIP_COMPLETE once the strip's last burst has been served: the fill goes on, or is complete (R94, R95). -/
theorem hatchStripComplete_eq {f : FillContext} {p : Plate} (on : u.filler.fill = some f) (served : f.w / 8 ≤ f.served)
    (resident : u.plate? f.bay = some p) :
    (∀ i, (hatched f.strip p).nextAbsent (f.strip + 1) = some i → u.hatchStripComplete =
      State.askFill { stripHatched f p u with filler := { u.filler with
        fill := some { f with strip := i, requested := 0, served := 0 } } }) ∧
    ((hatched f.strip p).nextAbsent (f.strip + 1) = none → u.hatchStripComplete =
      (stripHatched f p u).completeFill f.bay (hatched f.strip p)) := by
  have recorded : State.setSource f.bay (u.modPlate f.bay (Plate.modStrip f.strip fun _ =>
      { StripRecord.fresh with state := .missing })) = stripHatched f p u := by
    rw [modPlate_of_bays _ resident rfl]; rfl
  have resident' : (stripHatched f p u).plate? f.bay = some (hatched f.strip p) :=
    State.plate?_eq_of_setBay (State.plate?_lt resident) rfl
  unfold State.hatchStripComplete
  simp only [on, served, if_true]
  unfold State.completeHatchStrip
  simp only [recorded, resident']
  refine ⟨fun i more => ?_, fun last => ?_⟩
  · rw [more]; rfl
  · rw [last]

/-- A complete fill queues its bay and answers its APPROVE PLATE; the AUTO event of the bay QUEUED comes with the answer in the
queue, and then the filler goes on (R10, R95, R120). -/
theorem completeFill_eq {n : Nat} {p : Plate} {as : List Answer} (resident : u.plate? n = some p)
    (answers : entryAnswer p.approveEntry (only .done) u.link.outstanding = as)
    (queued : withAnswers as { u with
      bays := u.bays.set n (some { p with state := .queued, approveEntry := none })
      approvalQueue := if p.replate then n :: u.approvalQueue else u.approvalQueue ++ [n]
      link := { u.link with sources := u.link.sources ||| (1#12 <<< n) } } = w) (taken : AutoTaken w v) :
    u.completeFill n p = v.nextFill := by
  have cleared : u.modPlate n (fun p => { p with approveEntry := none }) = u.setBay n (some { p with approveEntry := none }) :=
    State.modPlate_some _ resident
  have resident' : (u.setBay n (some { p with approveEntry := none })).plate? n = some { p with approveEntry := none } :=
    State.plate?_eq_of_setBay (State.plate?_lt resident) rfl
  obtain ⟨sources, link⟩ := autoEvent_link ((u.setBay n (some { p with approveEntry := none })).enqueue n p.replate)
  unfold State.completeFill
  rw [cleared, State.becomeQueued_eq, answer?_eq, link, ← autoEvent_withAnswers, enqueue_eq _ resident']
  refine congrArg State.nextFill (Eq.trans (congrArg State.autoEvent ?_) (autoEvent_of_taken taken))
  simp only [State.setBay, List.set_set]
  rw [← queued, ← answers]
  rfl

/-- Settles O31: the fill goes on with the next ABSENT strip, or is complete. -/
theorem hatchStripGoesOnOrCompletes : Obligations.HatchStripGoesOnOrCompletes := by
  unfold Obligations.HatchStripGoesOnOrCompletes
  intro f p s on served resident strip bay
  obtain ⟨goesOn, completes⟩ := hatchStripComplete_eq (u := s.transmit) (by simpa using on) served (by simpa using resident)
  refine ⟨fun i above absent lowest => ?_, fun k e last entry found v taken => ?_⟩
  · have next : (hatched f.strip p).nextAbsent (f.strip + 1) = some i := by
      refine nextAbsent_eq above ?_ fun j le lt => ?_
      · rw [hatched_above above]; exact absent
      · rw [hatched_above le]; exact lowest j le lt
    generalize hf : ({ f with strip := i, requested := 0, served := 0 } : FillContext) = g at goesOn
    obtain ⟨filler, ws, store, eight, words⟩ := askFill_first
      (u := { stripHatched f p s.transmit with filler := { s.transmit.filler with fill := some g } }) rfl (by rw [← hf])
    obtain ⟨frame, -⟩ := askFill_fillOnly { stripHatched f p s.transmit with filler := { s.transmit.filler with fill := some g } }
    subst hf
    refine ⟨ws, congrArg Host.Outcome.next ((goesOn i next).trans (frame.trans ?_)), eight, words⟩
    rw [filler, store]
    simp [stripHatched, hatched, State.bayBase]
  · have next : (hatched f.strip p).nextAbsent (f.strip + 1) = none := by
      refine nextAbsent_none fun i le => ?_
      rw [hatched_above le]; exact last i le
    have resident' : (stripHatched f p s.transmit).plate? f.bay = some (hatched f.strip p) :=
      State.plate?_eq_of_setBay (State.plate?_lt ((transmit_plate? f.bay).trans resident)) rfl
    have answers : entryAnswer (hatched f.strip p).approveEntry (only .done) (stripHatched f p s.transmit).link.outstanding =
        [{ slot := some k, kind := kindOfAnswer e.kind, tag := e.tag, reply := only .done }] := by
      rw [← s.transmit_outstanding] at found
      rw [← entryAnswer_found found, ← entry]; rfl
    obtain ⟨settings, filler, -⟩ := autoTaken_frame taken
    obtain ⟨frame, -⟩ := nextFill_fillOnly v
    have complete := completeFill_eq resident' answers (by simp [stripHatched, hatched, withAnswers, BitVec.or_assoc]) taken
    refine ⟨_, congrArg Host.Outcome.next ((completes next).trans complete), frame, nextFill_goesOn ?_ ?_ ?_ rfl rfl⟩
    · rw [settings]; exact s.transmit_settings
    · rw [filler]; exact congrArg Filler.list s.transmit_filler
    · intro m q other resident
      exact autoTaken_fillAlike taken ((State.plate?_other_of_setBay (s := s) other rfl).trans resident)

end Sys2Proof.Proofs
end

section
/-! SUPPORT. The decoder's waiting take beside other events, as the claims speak of it (R37, R38). -/

namespace Sys2Proof.Proofs

open Sys2Proof.Machine Sys2Proof.Claims

variable {s t u v w x : State}

/-! ### The take and the link -/

/-- s with another link. -/
def onLink (l : Link) (s : State) : State := { s with link := l }

theorem proceed_onLink (l : Link) (i : Nat) (ctx : StripContext) (b : Block) (lines : List Line) (k : Nat) (s : State) :
    State.proceed i ctx b lines k (onLink l s) = onLink l (s.proceed i ctx b lines k) := by
  have screens : (onLink l s).screening = s.screening := rfl
  unfold State.proceed
  rw [screens]
  split <;> rfl

theorem bindBlock_onLink (l : Link) (i n : Nat) (p : Plate) (b : Block) (s : State) :
    State.bindBlock i n p b (onLink l s) = onLink l (s.bindBlock i n p b) := by
  unfold State.bindBlock
  dsimp only
  split
  · split
    · exact proceed_onLink l i _ b _ 0 s
    · rfl
  · rfl

theorem modPlate_onLink (l : Link) (n : Nat) (f : Plate → Plate) (s : State) :
    State.modPlate n f (onLink l s) = onLink l (s.modPlate n f) := by
  have plate : (onLink l s).plate? n = s.plate? n := rfl
  unfold State.modPlate
  rw [plate]
  split <;> rfl

theorem judgeBlock_onLink (l : Link) (b : Block) (s : State) :
    State.judgeBlock b (onLink l s) = onLink l (s.judgeBlock b) := by
  have found : (onLink l s).findPlate b.key = s.findPlate b.key := rfl
  have plate : (onLink l s).plate? = s.plate? := rfl
  have decoder : (onLink l s).decoder = s.decoder := rfl
  unfold State.judgeBlock
  rw [found, plate, decoder]
  split
  · rfl
  · split
    · rfl
    · split
      · split
        · exact bindBlock_onLink l _ _ _ b s
        · exact modPlate_onLink l _ _ s
      · rfl

/-- The decoder's take knows nothing of the link. -/
theorem blockTake_onLink (l : Link) (s : State) : (onLink l s).blockTake = onLink l s.blockTake := by
  have intake : (onLink l s).intake = s.intake := rfl
  have decoder : (onLink l s).decoder = s.decoder := rfl
  unfold State.blockTake
  rw [intake, decoder]
  split
  · rfl
  · split
    · exact judgeBlock_onLink l _ { s with intake := { s.intake with queue := _ } }
    · rfl

/-- What the decoder's waiting take makes of a state is what the claims call so. -/
theorem takes_blockTake (u : State) : Takes u u.blockTake := by
  refine ⟨u.blockTake_link, fun l sending => ?_⟩
  show run State.blockTake (onLink l u) = .next (onLink l u.blockTake)
  rw [run_next, State.transmit_sending (onLink l u) sending, blockTake_onLink]

/-! ### What the take leaves alone -/

theorem judgeBlock_of_drop (b : Block) (dropped : ∀ n p, s.findPlate b.key = some n → s.plate? n = some p → p.state ≠ .filling) :
    s.judgeBlock b = s.dropBlock := by
  unfold State.judgeBlock
  split
  · rfl
  · rename_i n found
    split
    · rfl
    · rename_i p resident
      exact if_neg fun h => dropped n p found resident h.1

/-- A block taken changes no plate but its count of duplicates (R40). -/
theorem blockTake_plate? {n : Nat} {p : Plate} (resident : s.plate? n = some p) :
    ∃ d, s.blockTake.plate? n = some { p with duplicates := d } := by
  rcases s.blockTake_cases with h | ⟨b, rest, -, -, h⟩ <;> rw [h]
  · exact ⟨p.duplicates, resident⟩
  · rcases State.judgeBlock_cases b { s with intake := { s.intake with queue := rest } } with
      h | ⟨m, q, -, -, -, h⟩ | ⟨m, q, -, -, -, h⟩ <;> rw [h]
    · exact ⟨p.duplicates, resident⟩
    · by_cases here : n = m
      · subst here
        exact ⟨_, (State.plate?_of_modPlate (s := { s with intake := { s.intake with queue := rest } }) resident rfl).1⟩
      · exact ⟨p.duplicates, (State.plate?_modPlate_other _ here _).trans resident⟩
    · obtain ⟨ctx, lines, stage, sc, -, -, h⟩ := State.bindBlock_eq
        ((s.decoder.buffers.findIdx? StripBuffer.isFree).getD 0) m q b { s with intake := { s.intake with queue := rest } }
      refine ⟨p.duplicates, ?_⟩
      rw [h]
      exact resident

/-- A block taken makes no buffer WRITING (R50). -/
theorem blockTake_notWriting (h : ∀ b ∈ s.decoder.buffers, b.isWriting = false) :
    ∀ b ∈ s.blockTake.decoder.buffers, b.isWriting = false := by
  rcases s.blockTake_cases with h' | ⟨b, rest, -, -, h'⟩ <;> rw [h']
  · exact h
  · rcases State.judgeBlock_cases b { s with intake := { s.intake with queue := rest } } with
      h' | ⟨m, q, -, -, -, h'⟩ | ⟨m, q, -, -, -, h'⟩ <;> rw [h']
    · exact h
    · rw [State.modPlate_decoder]; exact h
    · obtain ⟨ctx, lines, stage, sc, -, -, h'⟩ := State.bindBlock_eq
        ((s.decoder.buffers.findIdx? StripBuffer.isFree).getD 0) m q b { s with intake := { s.intake with queue := rest } }
      intro x hx
      rw [h'] at hx
      rcases List.mem_or_eq_of_mem_set hx with old | rfl
      · exact h x old
      · rfl

/-- What a take leaves alone, made or not. -/
theorem blockTake_frame {takeFirst : Bool} (taken : (if takeFirst then s.blockTake else s) = u) :
    u.settings = s.settings ∧ u.approvalQueue = s.approvalQueue ∧ u.filler = s.filler ∧ u.store = s.store ∧ u.link = s.link := by
  subst taken
  cases takeFirst <;> simp

/-- With an empty Intake Queue there is nothing to take. -/
theorem blockTake_empty (empty : s.intake.queue = []) : s.blockTake = s := by
  unfold State.blockTake
  rw [empty]

end Sys2Proof.Proofs
end

section
/-! SUPPORT. Held approvals judged (R9, R66). -/

namespace Sys2Proof.Proofs

open Sys2Proof.Machine Sys2Proof.Claims

variable {s t u v w x : State}

/-! ### Held approvals judged -/

/-- The plate whose held approval is being judged: the mark is cleared (R66). -/
def unheld (p : Plate) : Plate := { p with approvalHeld := false, approveEntry := none }

/-- x with this plate in bay n and these answers queued. -/
def judgedAs (n : Nat) (q : Plate) (as : List Answer) (x : State) : State :=
  { x with bays := x.bays.set n (some q), link := { x.link with answers := x.link.answers ++ as } }

theorem judgeHeld_free {n : Nat} {p : Plate} (resident : x.plate? n = some p) (free : p.approvalHeld = false) :
    x.judgeHeld n = x := by
  unfold State.judgeHeld
  simp [resident, free]

/-- A held approval is judged with its mark cleared, and answered as the judgement says (R9, R66). -/
theorem judgeHeld_eq {n : Nat} {p : Plate} {y : State} {r : Option Reply} (resident : x.plate? n = some p)
    (held : p.approvalHeld = true) (judged : (judgedAs n (unheld p) [] x).judgeApproval n p.approveEntry = (y, r)) :
    x.judgeHeld n = withAnswers (r.elim [] fun r => entryAnswer p.approveEntry r y.link.outstanding) y := by
  have cleared : x.modPlate n (fun p => { p with approvalHeld := false, approveEntry := none }) = judgedAs n (unheld p) [] x := by
    rw [State.modPlate_some _ resident, judgedAs, List.append_nil]; rfl
  unfold State.judgeHeld
  simp only [resident, held, if_true, cleared, judged]
  cases r with
  | none => exact (withAnswers_nil y).symm
  | some r => exact answer?_eq _ r y

/-- The three ends of a held approval (R9, R66). -/
theorem judgeHeld_outcomes {n : Nat} {p : Plate} {done damage : List Answer} (resident : x.plate? n = some p)
    (held : p.approvalHeld = true) (doneAnswer : entryAnswer p.approveEntry (only .done) x.link.outstanding = done)
    (damageAnswer : entryAnswer p.approveEntry (only .damageOpen) x.link.outstanding = damage) :
    (p.policy = .hold → p.allGood = false → x.judgeHeld n = judgedAs n (unheld p) damage x) ∧
    (p.policy = .hold ∧ p.allGood = true ∨ p.policy = .hatch ∧ p.anyAbsent = false →
      x.judgeHeld n = State.autoEvent { abandoned n (judgedAs n { unheld p with state := .queued } done x) with
        approvalQueue := if p.replate then n :: x.approvalQueue else x.approvalQueue ++ [n]
        link := { x.link with answers := x.link.answers ++ done, sources := x.link.sources ||| (1#12 <<< n) } }) ∧
    (p.policy = .hatch → p.anyAbsent = true → x.judgeHeld n = State.handToFiller n
      { abandoned n (judgedAs n { unheld p with state := .approving, approveEntry := p.approveEntry } [] x) with
        link := { x.link with sources := x.link.sources ||| (1#12 <<< n) } }) := by
  have resident' : (judgedAs n (unheld p) [] x).plate? n = some (unheld p) :=
    State.plate?_eq_of_setBay (State.plate?_lt resident) rfl
  refine ⟨fun hold bad => ?_, fun ready => ?_, fun hatch absent => ?_⟩
  · have judged : (judgedAs n (unheld p) [] x).judgeApproval n p.approveEntry = (judgedAs n (unheld p) [] x, some (only .damageOpen)) := by
      rcases State.judgeApproval_outcomes resident' p.approveEntry with ⟨-, -, h⟩ | ⟨⟨-, good⟩ | ⟨hatch, -⟩, -⟩ | ⟨hatch, -, -⟩
      · exact h
      · exact absurd (good.symm.trans bad) (by decide)
      · exact absurd (hatch.symm.trans hold) (by decide)
      · exact absurd (hatch.symm.trans hold) (by decide)
    rw [judgeHeld_eq resident held judged, ← damageAnswer]
    simp [judgedAs, withAnswers]
  · have queued := enqueue_eq (u := abandoned n (judgedAs n (unheld p) [] x)) (unheld p).replate resident'
    obtain ⟨sources, link⟩ := autoEvent_link ((abandoned n (judgedAs n (unheld p) [] x)).enqueue n (unheld p).replate)
    rw [judgeHeld_eq resident held (judgeApproval_ready resident' p.approveEntry ready), Option.elim_some, link,
      ← autoEvent_withAnswers, queued, ← doneAnswer]
    refine congrArg State.autoEvent ?_
    simp only [judgedAs, withAnswers, abandoned, unheld, List.append_nil, List.set_set]
    rfl
  · rw [judgeHeld_eq resident held (judgeApproval_hatch resident' p.approveEntry hatch absent), Option.elim_none, withAnswers_nil]
    simp [judgedAs, abandoned, unheld]

/-- An AUTO event makes no plate FILLING: a plate after it stood before it, or is EXPOSING (R13, R120). -/
theorem autoEvent_plate? {m : Nat} {q : Plate} (resident : u.autoEvent.plate? m = some q) :
    q.state = .exposing ∨ u.plate? m = some q := by
  rcases u.autoEvent_cases with h | ⟨-, -, -, h⟩ <;> rw [h] at resident
  · exact .inr resident
  · rcases u.takeStart_cases with h | ⟨n, rest, p, -, here, h⟩ <;> rw [h] at resident
    · exact .inr resident
    · rw [State.plate?_congr (State.beginFetch_bays _)] at resident
      generalize started : State.setSource sourceExposure _ = y at resident
      have bays : y.bays = (u.setBay n (some { p with state := .exposing })).bays := by rw [← started]; rfl
      by_cases taken : m = n
      · subst taken
        rw [State.plate?_eq_of_setBay (State.plate?_lt here) bays] at resident
        exact .inl (by rw [← Option.some.inj resident])
      · rw [State.plate?_other_of_setBay taken bays] at resident
        exact .inr resident

/-- A held approval whose bay leaves FILLING: the decoder has no buffer left for it, and no other bay becomes FILLING (R67). -/
theorem judgeHeld_leavesFilling {n : Nat} {p : Plate} (resident : x.plate? n = some p) (held : p.approvalHeld = true)
    (leaves : p.policy = .hatch ∨ p.allGood = true) :
    (x.judgeHeld n).decoder.buffers = x.decoder.buffers.map (fun b => if b.forBay n then .free else b) ∧
    ∀ m q, (x.judgeHeld n).plate? m = some q → q.state = .filling → m ≠ n ∧ x.plate? m = some q := by
  have lt := State.plate?_lt resident
  have kept {y : State} {q' : Plate} (bays : y.bays = (x.setBay n (some q')).bays) (off : q'.state ≠ .filling) (m : Nat) (q : Plate)
      (here : y.plate? m = some q) (filling : q.state = .filling) : m ≠ n ∧ x.plate? m = some q := by
    have other : m ≠ n := by
      rintro rfl
      rw [State.plate?_eq_of_setBay lt bays] at here
      exact off (Option.some.inj here ▸ filling)
    exact ⟨other, (State.plate?_other_of_setBay other bays).symm.trans here⟩
  obtain ⟨-, queues, hands⟩ := judgeHeld_outcomes resident held rfl rfl
  by_cases absent : p.policy = .hatch ∧ p.anyAbsent = true
  · rw [hands absent.1 absent.2]
    refine ⟨by rw [State.handToFiller_decoder]; rfl, fun m q here => ?_⟩
    rw [State.plate?_congr (State.handToFiller_bays _ _)] at here
    exact kept (q' := { unheld p with state := .approving, approveEntry := p.approveEntry }) rfl (by simp) m q here
  · rw [queues (by cases policy : p.policy <;> simp_all)]
    refine ⟨by rw [State.autoEvent_decoder]; rfl, fun m q here filling => ?_⟩
    rcases autoEvent_plate? here with exposing | here
    · rw [filling] at exposing; cases exposing
    · exact kept (q' := { unheld p with state := .queued }) rfl (by simp) m q here filling

end Sys2Proof.Proofs
end

section
/-! CLAIMS SETTLED. The end of a strip write (R42, R65, R66). -/

namespace Sys2Proof.Proofs

open Sys2Proof.Machine Sys2Proof.Claims

variable {s t u v w x : State}

/-- The strip records after a write into a strip that held r (R42). -/
def writtenStrips (ctx : StripContext) (r : StripRecord) (strips : List StripRecord) : List StripRecord :=
  strips.set ctx.strip
    { state := if ctx.content = .image then .good else .damaged, source := ctx.zone,
      variantSeen := r.variantSeen || decide (ctx.zone = .variant),
      cause := if ctx.content = .image then .none else ctx.cause }

/-- u with a strip write recorded and its buffer FREE (R65). -/
def writeRecorded (i : Nat) (ctx : StripContext) (r : StripRecord) (p : Plate) (u : State) : State :=
  { u with
    bays := u.bays.set ctx.bay (some { p with strips := writtenStrips ctx r p.strips })
    decoder := { u.decoder with buffers := u.decoder.buffers.set i .free }
    link := { u.link with sources := u.link.sources ||| (1#12 <<< ctx.bay) } }

/-- STRIP_WRITE_COMPLETE once the write's last burst has been served: the take and the judgement follow the record (R65). -/
theorem exec_stripWriteComplete {i served : Nat} {ctx : StripContext} {lines : List Line} {p : Plate} {r : StripRecord}
    (takeFirst : Bool) (here : s.decoder.buffers[i]? = some (.writing ctx lines served))
    (before : ∀ j, j < i → (s.decoder.buffers[j]?).map StripBuffer.isWriting = some false) (done : ctx.w / 8 ≤ served)
    (resident : s.plate? ctx.bay = some p) (strip : p.strips[ctx.strip]? = some r)
    (recorded : writeRecorded i ctx r p s.transmit = x) :
    exec (.stripWriteComplete takeFirst) s = .next
      (if takeFirst then State.judgeHeld ctx.bay x.blockTake else (State.judgeHeld ctx.bay x).blockTake) := by
  obtain ⟨lt, buffer⟩ := List.getElem?_eq_some_iff.1 here
  have first : s.decoder.buffers.findIdx? StripBuffer.isWriting = some i := by
    rw [List.findIdx?_eq_some_iff_getElem]
    refine ⟨lt, by rw [buffer]; rfl, fun j hj => ?_⟩
    have notWriting := before j hj
    rw [List.getElem?_eq_getElem (hj.trans lt)] at notWriting
    simpa using notWriting
  have written : (Plate.modStrip ctx.strip (fun r => r.written ctx) p) = { p with strips := writtenStrips ctx r p.strips } := by
    have record : p.strips.getD ctx.strip StripRecord.fresh = r := by rw [List.getD_eq_getElem?_getD, strip]; rfl
    unfold Plate.modStrip StripRecord.written writtenStrips
    rw [record]
    cases ctx.content <;> rfl
  have record : State.setBuffer i .free (State.setSource ctx.bay
      (s.transmit.modPlate ctx.bay (Plate.modStrip ctx.strip fun r => r.written ctx))) = x := by
    rw [State.modPlate_some _ ((transmit_plate? ctx.bay).trans resident), written, ← recorded]; rfl
  show run (State.stripWriteComplete takeFirst) s = _
  rw [run_next]
  unfold State.stripWriteComplete State.completeWrite
  simp only [State.transmit_decoder, first, List.getD_eq_getElem?_getD, here, Option.getD_some, done, if_true, record]

/-- The outcome of a write completion whose judgement ends in w (log entry 9). -/
theorem takenLast_of {n : Nat} {takeFirst : Bool} {o : Host.Outcome State Fault Refusal}
    (outcome : o = .next (if takeFirst then State.judgeHeld n x.blockTake else (State.judgeHeld n x).blockTake))
    (taken : (if takeFirst then x.blockTake else x) = u) (judged : u.judgeHeld n = w) : TakenLast takeFirst o w := by
  subst taken judged outcome
  cases takeFirst
  · exact ⟨nofun, fun _ => ⟨_, takes_blockTake _, rfl⟩⟩
  · exact ⟨fun _ => rfl, nofun⟩

/-! ### A block whose bay has left FILLING -/

/-- A decoder all of whose buffers are FREE may take any block (R37). -/
theorem mayTake_of_free {d : Decoder} {b : Block} (some_ : d.buffers ≠ []) (free : ∀ x ∈ d.buffers, x = .free) :
    d.mayTake b = true := by
  obtain ⟨x, rest, buffers⟩ := List.exists_cons_of_ne_nil some_
  have building : d.buffers.any StripBuffer.isBuilding = false := by
    rw [List.any_eq_false]; intro y hy; rw [free y hy]; decide
  have writing : d.writingStrip b.key b.strip = false := by
    rw [Decoder.writingStrip, List.any_eq_false]; intro y hy; rw [free y hy]; simp [StripBuffer.context]
  have isFree : d.buffers.any StripBuffer.isFree = true := by
    rw [List.any_eq_true]; exact ⟨x, by simp [buffers], by rw [free x (by simp [buffers])]; rfl⟩
  simp [Decoder.mayTake, building, writing, isFree]

/-- A block taken whose plate is in no FILLING bay is dropped and counted (R38). -/
theorem blockTake_drops {b : Block} {rest : List Block} (queue : s.intake.queue = b :: rest) (may : s.decoder.mayTake b = true)
    (gone : ∀ n p, s.plate? n = some p → p.key = b.key → p.state ≠ .filling) :
    s.blockTake.intake = { queue := rest, dropped := min (s.intake.dropped + 1) 65535 } := by
  unfold State.blockTake
  rw [queue]
  simp only [may, if_true]
  rw [judgeBlock_of_drop]
  · rfl
  · exact fun n p found resident => gone n p resident (State.findPlate_key found resident)

/-- Settles O30: the take and the judgement of a held approval, in either order. -/
theorem stripWriteRecordsItsResult : Obligations.StripWriteRecordsItsResult := by
  unfold Obligations.StripWriteRecordsItsResult
  intro i ctx lines served p r s here before done resident strip strips recorded
  have recordedAs : writeRecorded i ctx r p s.transmit = recorded := by
    simp only [writeRecorded, State.transmit_bays, State.transmit_decoder, recorded]
    rfl
  have outcome (takeFirst : Bool) := exec_stripWriteComplete takeFirst here before done resident strip recordedAs
  have plate : recorded.plate? ctx.bay = some { p with strips := strips } :=
    State.plate?_eq_of_setBay (s := s) (State.plate?_lt resident) rfl
  have queue : recorded.intake = s.intake := s.transmit_intake
  have others (m : Nat) (other : m ≠ ctx.bay) : recorded.plate? m = s.plate? m := State.plate?_other_of_setBay other rfl
  have settings : recorded.settings = s.settings := s.transmit_settings
  have store : recorded.store = s.store := s.transmit_store
  have filler : recorded.filler = s.filler := s.transmit_filler
  have approvals : recorded.approvalQueue = s.approvalQueue := s.transmit_approvalQueue
  have table : recorded.link.outstanding = s.link.outstanding := s.transmit_outstanding
  have pending : recorded.link.sources ||| (1#12 <<< ctx.bay) = recorded.link.sources := by
    simp [recorded, BitVec.or_assoc]
  have buffers : recorded.decoder.buffers = s.decoder.buffers.set i .free := rfl
  clear_value recorded
  refine ⟨fun takeFirst free => ⟨⟨recorded.blockTake, takes_blockTake recorded, ?_⟩, fun empty => ?_⟩,
    fun takeFirst k e held entry found notWriting => ?_⟩
  · rw [outcome takeFirst]
    obtain ⟨d, plate'⟩ := blockTake_plate? plate
    cases takeFirst
    · simp [judgeHeld_free plate free]
    · simp [judgeHeld_free plate' free]
  · rw [outcome takeFirst, blockTake_empty (by rw [queue]; exact empty), judgeHeld_free plate free,
      blockTake_empty (by rw [queue]; exact empty), ite_self]
  generalize taken : (if takeFirst then recorded.blockTake else recorded) = u
  have written : ∀ b ∈ u.decoder.buffers, b.isWriting = false := by
    have before : ∀ b ∈ recorded.decoder.buffers, b.isWriting = false := by
      intro b hb
      rw [buffers] at hb
      obtain ⟨j, hj⟩ := List.getElem?_of_mem hb
      by_cases other : i = j
      · subst other
        rw [List.getElem?_set_self (List.getElem?_eq_some_iff.1 here).1] at hj
        rw [← Option.some.inj hj]; rfl
      · rw [List.getElem?_set_ne other] at hj
        exact notWriting j b (Ne.symm other) hj
    subst taken
    cases takeFirst
    · exact before
    · exact blockTake_notWriting before
  obtain ⟨d, plate'⟩ : ∃ d, u.plate? ctx.bay = some { p with strips := strips, duplicates := d } := by
    subst taken
    cases takeFirst
    · exact ⟨p.duplicates, plate⟩
    · exact blockTake_plate? plate
  obtain ⟨settings', approvals', filler', store', link'⟩ := blockTake_frame taken
  have answerOf (st : Status) : entryAnswer p.approveEntry (only st) u.link.outstanding =
      [{ slot := some k, kind := kindOfAnswer e.kind, tag := e.tag, reply := only st }] := by
    rw [entry, link', table]
    exact entryAnswer_found found
  obtain ⟨damages, queues, hands⟩ := judgeHeld_outcomes plate' held (answerOf .done) (answerOf .damageOpen)
  have good : Plate.allGood { p with strips := strips, duplicates := d } = true ↔ ∀ x ∈ strips, x.state = .good := allGood_iff
  have absent : Plate.anyAbsent { p with strips := strips, duplicates := d } = true ↔ ∃ x ∈ strips, x.state = .absent := anyAbsent_iff
  refine ⟨u, d, ?_, plate', fun empty => ?_, fun hold bad => ?_, fun ready w auto => ?_, fun hatch some_ => ?_,
    fun b rest first left queued same one free => ?_⟩
  · subst taken
    cases takeFirst
    · rfl
    · exact takes_blockTake recorded
  · rw [← taken, blockTake_empty (by rw [queue]; exact empty), ite_self]
  · refine takenLast_of (outcome takeFirst) taken (damages hold ?_)
    rw [Bool.eq_false_iff, Ne, good]
    rintro all
    obtain ⟨x, hx, no⟩ := bad
    exact no (all x hx)
  · refine takenLast_of (outcome takeFirst) taken ((queues ?_).trans ((congrArg State.autoEvent ?_).trans (autoEvent_of_taken auto)))
    · rw [good, ← Bool.not_eq_true, absent]
      simpa using ready
    · rw [link', pending, ← link', approvals', approvals]
      rfl
  · have handed := hands hatch (absent.2 some_)
    generalize hy : ({ abandoned ctx.bay (judgedAs ctx.bay { unheld { p with strips := strips, duplicates := d } with
        state := .approving, approveEntry := p.approveEntry } [] u) with
        link := { u.link with sources := u.link.sources ||| (1#12 <<< ctx.bay) } } : State) = y at handed
    have noWrite : y.store = s.store := by
      rw [← hy]
      exact (abandoned_store fun b hb _ => written b hb).trans (store'.trans store)
    obtain ⟨frame, memory⟩ := handToFiller_fillOnly ctx.bay y
    refine ⟨_, takenLast_of (outcome takeFirst) taken handed, handToFiller_handed (p := { unheld { p with strips := strips, duplicates := d } with
        state := .approving, approveEntry := p.approveEntry }) ?_ ⟨rfl, rfl, rfl, rfl⟩ ?_ ?_ noWrite rfl rfl, frame.trans ?_, memory.trans (congrArg Store.memory noWrite)⟩
    · rw [← hy]; exact State.plate?_eq_of_setBay (s := u) (State.plate?_lt plate') rfl
    · rw [← hy]; exact settings'.trans settings
    · rw [← hy]; exact filler'.trans filler
    · rw [← hy, link', pending, ← link', entry]
      simp only [judgedAs, List.append_nil, unheld]
      rfl
  · subst first
    obtain rfl : recorded = u := taken
    obtain ⟨decoder, plates⟩ := judgeHeld_leavesFilling plate held (left.imp_right (allGood_iff (p := { p with strips := strips })).2)
    have intake : (recorded.judgeHeld ctx.bay).intake = s.intake := (recorded.judgeHeld_intake ctx.bay).trans queue
    refine ⟨_, outcome false, (blockTake_drops (by rw [intake]; exact queued) (mayTake_of_free ?_ ?_) ?_).trans (by rw [intake])⟩
    · rw [decoder, buffers]
      have lt := (List.getElem?_eq_some_iff.1 here).1
      exact List.ne_nil_of_length_pos (by simp; omega)
    · rw [decoder, buffers]
      intro b hb
      obtain ⟨b', hb', rfl⟩ := List.mem_map.1 hb
      obtain ⟨j, hj⟩ := List.getElem?_of_mem hb'
      have freed : b' = .free ∨ b'.forBay ctx.bay = true := by
        by_cases other : i = j
        · subst other
          rw [List.getElem?_set_self (List.getElem?_eq_some_iff.1 here).1] at hj
          exact .inl (Option.some.inj hj).symm
        · rw [List.getElem?_set_ne other] at hj
          exact free j b' (Ne.symm other) hj
      rcases freed with rfl | bay
      · simp
      · exact if_pos bay
    · intro m q here' key filling
      obtain ⟨other, before'⟩ := plates m q here' filling
      exact other (one m q ((others m other).symm.trans before') (key.trans same))

end Sys2Proof.Proofs
end

section
/-! CLAIMS SETTLED. RESET PLATES (R27, R181). -/

namespace Sys2Proof.Proofs

open Sys2Proof.Machine Sys2Proof.Claims

variable {s t u v w x : State} {addr kind tag : Byte} {body : List Byte}

/-- s when its transmitter has made its choice, with these entries outstanding. -/
def withEntries (es : List Entry) (s : State) : State :=
  { s.transmit with link := { s.transmit.link with outstanding := es } }

theorem transmit_withEntries (s : State) : s.transmit = withEntries s.link.outstanding s := by
  unfold withEntries
  rw [← s.transmit_outstanding]

/-- The sources pending after RESET PLATES: the exposure's, the inspection's where a calibration was abandoned, and the link's
(R134, R140, R181). -/
def clearedSources (work : InspectionUnit) (sources : BitVec 12) : BitVec 12 :=
  match work with
  | .calibrating _ => sources ||| (1#12 <<< 8) ||| (1#12 <<< 9) ||| (1#12 <<< 11)
  | _ => sources ||| (1#12 <<< 8) ||| (1#12 <<< 11)

theorem plateWorkAnswer_eq (s : State) (es : List Entry) :
    es.filterMap (plateWorkAnswer s.approvalEntries s.calibrationEntry) = plateWork s es := by
  unfold plateWork
  refine congrArg (fun f => es.filterMap f) (funext fun e => ?_)
  rw [plateWorkAnswer, kindOfAnswer_eq]
  rfl

/-- RESET PLATES with no calibration about to complete (R181). -/
theorem resetPlates_eq (short : ∀ c, u.inspection.work = .calibrating c → c.lines < 16)
    (distinct : (u.link.outstanding.map Entry.slot).Nodup) : u.resetPlates = { u.clearPlates with
      link := { u.link with
        answers := u.link.answers ++ plateWork u u.link.outstanding
        sources := clearedSources u.inspection.work u.link.sources, ready := true, resetKind := .plates } } := by
  have answers := State.answerPlateWork_eq u.approvalEntries u.calibrationEntry u.clearPlates distinct
  rw [← plateWorkAnswer_eq]
  unfold State.resetPlates
  cases work : u.inspection.work with
  | calibrating c =>
    have fewer : ¬ Config.calibrationLines ≤ c.lines := by
      have := short c work
      unfold Config.calibrationLines; omega
    simp only [if_neg fewer, work, answers]
    rfl
  | idle => simp only [work, answers]; rfl
  | scanning sc => simp only [work, answers]; rfl

/-- The three sources that RESET PLATES sets, and no other (R134, R140, R181). -/
theorem clearedSources_bits (work : InspectionUnit) (a : BitVec 12) :
    (clearedSources work a).getLsbD 8 = true ∧ (clearedSources work a).getLsbD 11 = true ∧
    ((∀ c, work ≠ .calibrating c) → (clearedSources work a).getLsbD 9 = a.getLsbD 9) ∧
    (∀ c, work = .calibrating c → (clearedSources work a).getLsbD 9 = true) ∧
    ∀ n, n < 12 → n ≠ 8 → n ≠ 9 → n ≠ 11 → (clearedSources work a).getLsbD n = a.getLsbD n := by
  have apart {k n : Nat} (ne : n ≠ k) (hk : k < 12) : (1#12 <<< k).getLsbD n = false := by
    simp only [BitVec.getLsbD_shiftLeft, BitVec.getLsbD_one]
    simp; omega
  unfold clearedSources
  cases work
  case calibrating c =>
    refine ⟨by simp, by simp, fun no => absurd rfl (no c), fun _ _ => by simp, fun n _ h8 h9 h11 => ?_⟩
    simp only [BitVec.getLsbD_or, apart h8 (by decide), apart h9 (by decide), apart h11 (by decide), Bool.or_false]
  all_goals
    refine ⟨by simp, by simp, fun _ => by simp, nofun, fun n _ h8 h9 h11 => ?_⟩
    simp only [BitVec.getLsbD_or, apart h8 (by decide), apart h11 (by decide), Bool.or_false]

/-- What RESET PLATES leaves, the answers aside. -/
theorem platesCleared (hunting : s.link.receiver = .hunting) (es : List Entry) (as : List Answer) :
    PlatesCleared s { (withEntries es s).clearPlates with
      link := { (withEntries es s).link with
        answers := as, sources := clearedSources s.inspection.work s.transmit.link.sources, ready := true
        resetKind := .plates } } := by
  obtain ⟨receiver, -, unitAddr, -, busy, -, badCheck, timeouts, linkBusy, dropped, -⟩ := s.transmit_link
  obtain ⟨bit8, bit11, bit9, bit9', others⟩ := clearedSources_bits s.inspection.work s.transmit.link.sources
  have frame : withEntries es s = { s with link := { s.transmit.link with outstanding := es } } := by
    unfold withEntries
    exact congrArg (fun x : State => { x with link := { s.transmit.link with outstanding := es } }) s.transmit_frame
  rw [frame]
  refine ⟨rfl, rfl, rfl, rfl, rfl, rfl, rfl, rfl, rfl, rfl, rfl, rfl, rfl, rfl, fun free => ?_, fun a b live on => ?_, rfl, rfl,
    rfl, rfl, rfl, rfl, rfl, rfl, rfl, rfl, rfl, fun idle => ?_, fun n key on => ?_, rfl, rfl, rfl, rfl, rfl, rfl, rfl, rfl,
    fun no => ⟨?_, bit9 no⟩, fun c on => ⟨?_, bit9' c on⟩, rfl, rfl, rfl, bit8, bit11, others, busy, rfl, rfl, badCheck, timeouts,
    linkBusy, dropped, unitAddr, receiver.trans hunting⟩
  · simp only [State.clearPlates, Store.resetPlates]
  · simp [State.clearPlates, Store.resetPlates, on]
  · simp [State.clearPlates, Exposure.resetPlates, idle]
  · simp [State.clearPlates, Exposure.resetPlates, on]
  · simp only [State.clearPlates, Inspection.resetPlates]
  · simp [State.clearPlates, Inspection.resetPlates, on]

/-- Settles O5, by RESET PLATES's part in each block. -/
theorem resetPlatesClearsPlateWork : Obligations.ResetPlatesClearsPlateWork := by
  unfold Obligations.ResetPlatesClearsPlateWork
  intro addr tag s ready fit short
  have frame := requested_frame 3 tag s
  have distinct : ((requested 3 tag s).link.outstanding.map Entry.slot).Nodup := by
    have fresh := (s.link.freeSlot_spec ready.2.2.2).2
    simp only [requested, List.map_append, List.map_cons, List.map_nil]
    refine List.nodup_append.2 ⟨fit.2.2.1, List.nodup_singleton _, fun a ha b hb => ?_⟩
    obtain ⟨e, he, rfl⟩ := List.mem_map.1 ha
    rw [List.mem_singleton.1 hb]
    exact fresh e he
  have cleared := resetPlates_eq (u := requested 3 tag s) (by simpa using short) distinct
  have work : plateWork (requested 3 tag s) (requested 3 tag s).link.outstanding = plateWork s (requested 3 tag s).link.outstanding := by
    unfold plateWork State.approvalEntries State.calibrationEntry
    simp
  refine ⟨_, exec_answered (kind := 3) (owner := ownReset [1]) (r := only .done) ready
    (t := (requested 3 tag s).resetPlates) rfl (by rw [cleared]), ?_⟩
  rw [cleared, work, requested_inspection]
  exact ⟨platesCleared ready.1 _ _, rfl, rfl⟩

end Sys2Proof.Proofs
end

section
/-! CLAIMS SETTLED. Broadcasts (R170, R179). -/

namespace Sys2Proof.Proofs

open Sys2Proof.Machine Sys2Proof.Claims

variable {s t u v w x : State} {addr kind tag : Byte} {body : List Byte}

/-- No unit address is the broadcast address (R170). -/
theorem addrByte_ne (l : Link) : (0x0F : Byte) ≠ l.addrByte := by
  intro h
  have value := congrArg BitVec.toNat h
  have small := l.unitAddr.isLt
  unfold Link.addrByte at value
  rw [BitVec.toNat_setWidth] at value
  simp at value
  omega

/-- A broadcast of an allowed kind is handed to its owner, with no entry (R170). -/
theorem exec_broadcast (hunting : s.link.receiver = .hunting) (waits : s.link.fullReset = none)
    (allowed : broadcastKind kind = true) (owner : Owner) :
    run (State.receive 0x0F kind tag body owner) s = .next (owner none s.transmit).1 := by
  have taken : s.transmit.receive 0x0F kind tag body owner = s.transmit.hunt.takeFrame 0x0F kind tag owner := by
    unfold State.receive
    simp [Receiver.admits, hunting, waits]
  rw [run_next, taken, hunt_transmit hunting]
  unfold State.takeFrame
  rw [if_neg (addrByte_ne _), if_pos ⟨rfl, allowed⟩]

/-- An owner that knows nothing of the link: neither its entry nor the link changes what it does. -/
def Linkless (owner : Owner) : Prop :=
  ∀ slot l u, owner slot (onLink l u) = (onLink l (owner none u).1, (owner none u).2)

theorem linkless_loadScreen (body : List Byte) : Linkless (ownLoadScreen body) := fun slot l u => by
  have slots : State.protectedSlot Plate.screenSet (byteAt body 0) (onLink l u) =
    State.protectedSlot Plate.screenSet (byteAt body 0) u := rfl
  unfold ownLoadScreen State.loadScreen
  rw [slots]
  split
  · rfl
  · split <;> rfl

theorem linkless_loadCurve (body : List Byte) : Linkless (ownLoadCurve body) := fun slot l u => by
  have slots : State.protectedSlot Plate.curveSet (byteAt body 0) (onLink l u) =
    State.protectedSlot Plate.curveSet (byteAt body 0) u := rfl
  unfold ownLoadCurve State.loadCurve
  rw [slots]
  split
  · rfl
  · split <;> rfl

theorem linkless_setInspection (body : List Byte) : Linkless (ownSetInspection body) := fun slot l u => by
  unfold ownSetInspection State.setInspection
  split <;> rfl

theorem linkless_stripBlock (body : List Byte) : Linkless (ownStripBlock body) := fun slot l u => by
  unfold ownStripBlock State.stripBlock
  split
  · rfl
  · rename_i b _
    have foreign : (onLink l u).foreignZone b = u.foreignZone b := rfl
    have found : (onLink l u).findPlate b.key = u.findPlate b.key := rfl
    have plates : (onLink l u).plate? = u.plate? := rfl
    have room : (onLink l u).noRoom b = u.noRoom b := rfl
    rw [foreign]
    split
    · have counted : (onLink l u).countForeign b = onLink l (u.countForeign b) := by
        unfold State.countForeign
        rw [found]
        split
        · exact modPlate_onLink l _ _ u
        · rfl
      rw [counted]
      rfl
    · unfold State.placeBlock
      rw [found, plates]
      split
      · rfl
      · split
        · unfold State.admitBlock
          rw [room]
          split
          · rfl
          · split <;> rfl
        · rfl

/-- The four kinds that a broadcast may carry beside RESET belong to owners that know nothing of the link (R170). -/
theorem linkless_ownerOf (h : kind.toNat = 5 ∨ kind.toNat = 13 ∨ kind.toNat = 14 ∨ kind.toNat = 19) :
    Linkless (ownerOf kind body) ∧ broadcastKind kind = true := by
  have is {n : Nat} (k : kind.toNat = n) : kind = BitVec.ofNat 8 n := by rw [← k, BitVec.ofNat_toNat, BitVec.setWidth_eq]
  rcases h with h | h | h | h <;> rw [is h]
  · exact ⟨linkless_stripBlock body, rfl⟩
  · exact ⟨linkless_loadScreen body, rfl⟩
  · exact ⟨linkless_loadCurve body, rfl⟩
  · exact ⟨linkless_setInspection body, rfl⟩

/-- An answer changes the link alone. -/
theorem deliver_onLink (l : Link) (slot : Nat) (y : State × Option Reply) : onLink l (deliver slot y) = onLink l y.1 := by
  obtain ⟨y, _ | r⟩ := y
  · rfl
  · unfold deliver State.answer
    dsimp only
    split <;> rfl

/-- A broadcast of one of the four kinds has, but for the link, the effect of the request addressed to a unit that differs
from this one in its link at most (R170). -/
theorem exec_broadcastAs {l : Link} (kinds : kind.toNat = 5 ∨ kind.toNat = 13 ∨ kind.toNat = 14 ∨ kind.toNat = 19)
    (hunting : s.link.receiver = .hunting) (waits : s.link.fullReset = none) (ready : Ready addr (onLink l s)) :
    ∃ t, exec (frameOf kind addr tag body) (onLink l s) = .next t ∧
      exec (frameOf kind 0x0F tag body) s = .next { t with link := s.transmit.link } := by
  obtain ⟨linkless, allowed⟩ := linkless_ownerOf (body := body) kinds
  have before : requested kind tag (onLink l s) = onLink (requested kind tag (onLink l s)).link s := requested_frame kind tag (onLink l s)
  have chosen : s.transmit = onLink s.transmit.link s := s.transmit_frame
  refine ⟨_, (exec_frameOf kind addr tag body (onLink l s)).trans (exec_request ready _),
    (exec_frameOf kind 0x0F tag body s).trans ((exec_broadcast hunting waits allowed _).trans ?_)⟩
  have addressed := deliver_onLink s.transmit.link (onLink l s).link.freeSlot
    (ownerOf kind body (some (onLink l s).link.freeSlot) (requested kind tag (onLink l s)))
  have broadcast := congrArg Prod.fst (linkless none s.transmit.link s)
  rw [before, linkless] at addressed
  rw [← chosen] at broadcast
  rw [broadcast, before, linkless]
  exact congrArg Host.Outcome.next addressed.symm

/-- The link after a full reset (R180). -/
theorem fullReset_link (kind : ResetKind) (straps : BitVec 2) (s : State) : LinkReset kind straps (s.fullReset kind straps) := by
  refine ⟨rfl, rfl, rfl, rfl, rfl, fun n lt => ?_, rfl, rfl, rfl, rfl, rfl, rfl, rfl, rfl, rfl, rfl⟩
  show (0x800 : BitVec 12).getLsbD n = _
  interval_cases n <;> rfl

/-- Settles O17, by the owners that know nothing of the link and the three ends of a broadcast RESET. -/
theorem broadcastActsUnanswered : Obligations.BroadcastActsUnanswered := by
  unfold Obligations.BroadcastActsUnanswered
  refine ⟨fun kind addr tag body s ready kinds => ?_, fun kind tag body s hunting waits kinds => ?_, fun tag s hunting waits => ?_,
    fun tag s hunting waits fit short => ?_, fun tag body s hunting waits notFull notPlates => ?_⟩
  · exact exec_broadcastAs (l := s.link) kinds ready.1 ready.2.1 ready
  · exact exec_broadcastAs (l := { s.link with outstanding := [] }) kinds hunting waits ⟨hunting, waits, rfl, Nat.zero_lt_succ 15⟩
  · refine ⟨_, exec_broadcast (kind := 3) hunting waits rfl (ownReset [0]), ?_, fullReset_blocks _ _ s.transmit_lines⟩
    rw [← s.transmit_straps]
    exact fullReset_link _ _ _
  · have cleared := resetPlates_eq (u := s.transmit) (by simpa using short) (by simpa using fit.2.2.1)
    have work : plateWork s.transmit s.transmit.link.outstanding = plateWork s s.link.outstanding := by
      unfold plateWork State.approvalEntries State.calibrationEntry
      simp
    refine ⟨_, exec_broadcast (kind := 3) hunting waits rfl (ownReset [1]), ?_⟩
    show PlatesCleared s s.transmit.resetPlates ∧ s.transmit.resetPlates.link.outstanding = _ ∧
      s.transmit.resetPlates.link.answers = _
    rw [cleared, work, State.transmit_inspection]
    refine ⟨?_, s.transmit_outstanding, rfl⟩
    have left := platesCleared hunting s.link.outstanding (s.transmit.link.answers ++ plateWork s s.link.outstanding)
    rw [← transmit_withEntries] at left
    exact left
  · refine (exec_broadcast (kind := 3) hunting waits rfl (ownReset body)).trans (congrArg Host.Outcome.next ?_)
    unfold ownReset fixedBody
    split
    · rename_i one
      obtain ⟨b, rfl⟩ := List.length_eq_one_iff.1 one
      unfold resetRule
      have value : byteAt [b] 0 = b.toNat := rfl
      have zero : b.toNat ≠ 0 := fun h => notFull (by rw [BitVec.eq_of_toNat_eq (y := 0) h])
      have one : b.toNat ≠ 1 := fun h => notPlates (by rw [BitVec.eq_of_toNat_eq (y := 1) h])
      rw [value]
      split
      · contradiction
      · contradiction
      · rfl
    · rfl

end Sys2Proof.Proofs
end

section
/-! SUPPORT. The end of a scan and the comparison of a line, as the claims speak of them (R143, R144, R155). -/

namespace Sys2Proof.Proofs

open Sys2Proof.Machine Sys2Proof.Claims

variable {s t u v w x : State}

/-! ### The end of a scan -/

/-- u when its scan has ended with this verdict: its bay HELD, the pulse begun, the unit IDLE (R19, R155). -/
def scanLeft (v : Verdict) (cause : UncheckedCause) (sc : Scan) (p : Plate) (u : State) : State :=
  { u with
    bays := u.bays.set sc.bay (some { p with
      state := .held, verdict := v, autoDue := u.settings.autoRelease && decide (v = .clean) && p.allGood })
    inspection := { u.inspection with work := .idle, lastScan := .verdict v cause sc.bay sc.key }
    lines := { u.lines with pulse := some { reject := decide (v = .reject), timeLeft := 10 * u.settings.pulseSteps } }
    store := u.store.stop .inspect
    link := { u.link with
      sources := u.link.sources ||| (1#12 <<< sc.bay) ||| (1#12 <<< 9), tx := dueForgotten sc.bay u.link.tx } }

/-- The verdict that a scan ends with (R154). -/
def verdictOf (cause : UncheckedCause) (sc : Scan) (p : Plate) : Verdict :=
  if cause = .none then scanVerdict sc.settings p else .unchecked

theorem forgetDue_eq (n : Nat) (u : State) : u.forgetDue n = { u with link := { u.link with tx := dueForgotten n u.link.tx } } := by
  unfold State.forgetDue dueForgotten
  cases tx : u.link.tx with
  | notice source body due =>
    by_cases here : source = n
    · simp [here]
    · simp only [here, if_false, not_false_eq_true, decide_true, Bool.and_true, ne_eq]
      rw [← tx]
  | answer a => simp only; rw [← tx]
  | idle => simp only; rw [← tx]

theorem endScan_eq {sc : Scan} {p : Plate} (cause : UncheckedCause) (on : u.inspection.work = .scanning sc)
    (resident : u.plate? sc.bay = some p) : u.endScan cause = scanLeft (verdictOf cause sc p) cause sc p u := by
  unfold State.endScan
  simp only [on, resident, forgetDue_eq]
  rfl

/-- Two states that differ in what a scan changes alone: bays, unit, store, lines and link. -/
def ScanOnly (s u : State) : Prop :=
  u = { s with bays := u.bays, inspection := u.inspection, store := u.store, lines := u.lines, link := u.link }

theorem ScanOnly.frame (h : ScanOnly s u) : u.settings = s.settings ∧ u.exposure = s.exposure ∧
    u.approvalQueue = s.approvalQueue ∧ u.inspectionQueue = s.inspectionQueue ∧ u.intake = s.intake ∧ u.decoder = s.decoder ∧
    u.screening = s.screening ∧ u.filler = s.filler := by
  unfold ScanOnly at h
  rw [h]
  exact ⟨rfl, rfl, rfl, rfl, rfl, rfl, rfl, rfl⟩

/-- The end of a scan is what the claims call so, whatever the event that brings it changes of lines and link beside it. -/
theorem endScan_ended {sc sc' : Scan} {p : Plate} {cause : UncheckedCause} {lines : Lines} {link : Link} (frame : ScanOnly s u)
    (on : u.inspection.work = .scanning sc) (resident : u.plate? sc.bay = some p)
    (named : sc.bay = sc'.bay ∧ sc.key = sc'.key) (bays : ∀ o, u.bays.set sc.bay o = s.bays.set sc.bay o)
    (inspection : { u.inspection with work := .idle } = { s.inspection with work := .idle })
    (store : u.store.stop .inspect = s.store.stop .inspect) (pulse : lines.pulse = (u.endScan cause).lines.pulse)
    (sources : ∀ n, (u.endScan cause).link.sources.getLsbD n = true → link.sources.getLsbD n = true) :
    ScanEnded (verdictOf cause sc p) cause sc' p s { u.endScan cause with lines := lines, link := link } := by
  obtain ⟨settings, exposure, approvals, inspections, intake, decoder, screening, filler⟩ := frame.frame
  obtain ⟨bay, key⟩ := named
  rw [endScan_eq cause on resident] at pulse sources ⊢
  rw [ScanEnded, ← bay, ← key, ← settings, ← bays, ← store]
  refine ⟨rfl, ?_, pulse, rfl, sources 9 (source_pending (by decide) _), fun lt => ?_, rfl, exposure, approvals, inspections,
    intake, decoder, screening, filler⟩
  · exact congrArg (fun i : Inspection => { i with lastScan := .verdict (verdictOf cause sc p) cause sc.bay sc.key }) inspection
  · exact sources sc.bay (source_kept _ (source_pending (by omega) _))

theorem endScan_scanEnded {sc sc' : Scan} {p : Plate} {cause : UncheckedCause} (frame : ScanOnly s u)
    (on : u.inspection.work = .scanning sc) (resident : u.plate? sc.bay = some p)
    (named : sc.bay = sc'.bay ∧ sc.key = sc'.key) (bays : ∀ o, u.bays.set sc.bay o = s.bays.set sc.bay o)
    (inspection : { u.inspection with work := .idle } = { s.inspection with work := .idle })
    (store : u.store.stop .inspect = s.store.stop .inspect) :
    ScanEnded (verdictOf cause sc p) cause sc' p s (u.endScan cause) :=
  endScan_ended (lines := (u.endScan cause).lines) (link := (u.endScan cause).link) frame on resident named bays inspection
    store rfl fun _ h => h

/-! ### Comparisons -/

/-- The bay's plate and the scan when this line has been compared (R143 to R149). -/
def comparedPlate (sc : Scan) (p : Plate) (cov : List Nat) (line : ScanLine) (u : State) : Plate × Scan :=
  let flags := flagElements sc.settings.thr (deviations u.inspection.dark u.inspection.gain u.inspection.weak cov line) []
  let tr := Tracker.matchLine sc.next
    { list := p.defects, opens := sc.openDefects, nextNumber := sc.nextNumber, untracked := p.untracked, free := u.freeRecords }
    (formRuns sc.settings flags.1)
  ({ p with defects := tr.list, untracked := tr.untracked },
    { sc with next := sc.next + 1, drift := flags.2, openDefects := tr.opens, nextNumber := tr.nextNumber })

/-- The head of the FIFO is compared with its FULL expected line: the next fetch begins, or the scan ends (R144, R152). -/
theorem compareIfReady_eq {sc : Scan} {p : Plate} {cov : List Nat} {line : ScanLine} {rest : List ScanLine}
    (on : u.inspection.work = .scanning sc) (resident : u.plate? sc.bay = some p) (fifo : sc.fifo = line :: rest)
    (full : sc.expected = .full sc.next cov) : u.compareIfReady =
      if sc.next + 1 < p.h / u.settings.resolution.side then (u.compareLine sc p cov line rest).beginExpected (sc.next + 1)
      else (u.compareLine sc p cov line rest).endScan .none := by
  have height : (u.compareLine sc p cov line rest).scanLines sc.bay = p.h / u.settings.resolution.side := by
    have resident' : (u.compareLine sc p cov line rest).plate? sc.bay = some (comparedPlate sc p cov line u).1 :=
      State.plate?_eq_of_setBay (State.plate?_lt resident) rfl
    unfold State.scanLines
    rw [resident']; rfl
  unfold State.compareIfReady
  simp only [on, fifo, full, resident, if_true, height]

/-- The fetch of the next expected line begins (R103, R144). -/
theorem beginExpected_eq {sc : Scan} {p : Plate} (y : Nat) (on : u.inspection.work = .scanning sc)
    (resident : u.plate? sc.bay = some p) : u.beginExpected y = { u with
      inspection := { u.inspection with work := (.scanning { sc with expected := .fetching y [] }) }
      store := Store.grant { u.store with
        inspect := some { addr := u.bayBase sc.bay + y * (u.settings.resolution.side * (p.w / 64)), write := none } } } := by
  have burst : u.scanBurst sc.bay y 0 =
      { addr := u.bayBase sc.bay + y * (u.settings.resolution.side * (p.w / 64)), write := none } := by
    simp [State.scanBurst, State.scanWords, resident]
  unfold State.beginExpected
  simp only [on, burst]
  rfl

end Sys2Proof.Proofs
end

section
/-! CLAIMS SETTLED. Scan lines in each state of the Inspection Unit (R137, R144, R145, R152, R153). -/

namespace Sys2Proof.Proofs

open Sys2Proof.Machine Sys2Proof.Claims

variable {s t u v w x : State}

theorem scanLines_eq {n : Nat} {p : Plate} (resident : u.plate? n = some p) :
    u.scanLines n = p.h / u.settings.resolution.side := by
  unfold State.scanLines; rw [resident]; rfl

/-- The sums of a calibration after a line (R137). -/
def summed (sums : List Nat) (line : ScanLine) : List Nat := sums.zipIdx.map fun p => p.1 + (line.getD p.2 0).toNat

theorem summed_getD (sums : List Nat) (line : ScanLine) {e : Nat} (lt : e < sums.length) :
    (summed sums line).getD e 0 = sums.getD e 0 + (line.getD e 0).toNat := by
  simp [summed, List.getD_eq_getElem?_getD, List.getElem?_eq_getElem lt]

/-- A scan line received in SCANNING, by the scan's state (R144, R145). -/
theorem receiveLine_eq {sc : Scan} {p : Plate} (line : ScanLine) (resident : u.plate? sc.bay = some p) :
    (p.h / u.settings.resolution.side ≤ sc.received → u.receiveLine sc line = u) ∧
    (sc.received < p.h / u.settings.resolution.side →
      (sc.lagged = true → u.receiveLine sc line =
        if sc.received + 1 = p.h / u.settings.resolution.side then
          (u.setWork (.scanning { sc with received := sc.received + 1 })).endScan .lagged
        else u.setWork (.scanning { sc with received := sc.received + 1 })) ∧
      (sc.lagged = false → sc.fifo.length < 4 → u.receiveLine sc line =
        (u.setWork (.scanning { sc with received := sc.received + 1, fifo := sc.fifo ++ [line] })).compareIfReady) ∧
      (sc.lagged = false → sc.fifo.length = 4 → u.receiveLine sc line =
        if sc.received + 1 = p.h / u.settings.resolution.side then (u.markLagged sc).endScan .lagged else u.markLagged sc)) := by
  unfold State.receiveLine
  simp only [scanLines_eq resident]
  refine ⟨fun all => if_pos all, fun more => ⟨fun lagged => ?_, fun timely room => ?_, fun timely full => ?_⟩⟩
  · rw [if_neg (not_le.2 more), if_pos lagged]
  · rw [if_neg (not_le.2 more), if_neg (by simp [timely]), if_pos (show sc.fifo.length < Config.fifoLines from room)]
  · rw [if_neg (not_le.2 more), if_neg (by simp [timely]),
      if_neg (show ¬ sc.fifo.length < Config.fifoLines by unfold Config.fifoLines; omega)]

/-- No line is compared while the expected line is not FULL (R144). -/
theorem compareIfReady_waits {sc : Scan} (on : u.inspection.work = .scanning sc) (waits : ∀ y cov, sc.expected ≠ .full y cov) :
    u.compareIfReady = u := by
  unfold State.compareIfReady
  simp only [on]
  split
  · rename_i full _; exact absurd full (waits _ _)
  · rfl

theorem stop_stop (a : Asker) (st : Store) : (st.stop a).stop a = st.stop a := by
  unfold Store.stop
  cases st.service with
  | burst b c live => simp +contextual
  | idle => simp +contextual
  | refresh => simp +contextual

theorem scanVerdict_eq (set : InspectionSettings) (p : Plate) : scanVerdict set p =
    if 0 < p.untracked ∨ ∃ d ∈ p.defects, set.rejectArea ≤ d.area then .reject
    else if ∃ d ∈ p.defects, set.minArea ≤ d.area then .marginal else .clean := by
  unfold scanVerdict
  simp

theorem scanLine_scanning {sc : Scan} (line : ScanLine) (on : s.inspection.work = .scanning sc) :
    exec (.scanLine line) s = .next (s.transmit.receiveLine sc line) := by
  have taken : s.transmit.scanLine line = s.transmit.receiveLine sc line := by
    unfold State.scanLine
    simp only [State.transmit_inspection, on]
  exact congrArg Host.Outcome.next taken

theorem scanOnly_setWork (work : InspectionUnit) (s : State) : ScanOnly s (s.transmit.setWork work) := by
  unfold ScanOnly State.setWork
  rw [s.transmit_frame]

theorem scanOnly_markLagged (sc : Scan) (s : State) : ScanOnly s (s.transmit.markLagged sc) := by
  unfold ScanOnly State.markLagged
  rw [s.transmit_frame]
  rfl

/-- A line received with its expected line FULL is compared as the claims say (R144, R152). -/
theorem compareIfReady_compared {sc : Scan} {p : Plate} {cov : List Nat} (line : ScanLine) (resident : s.plate? sc.bay = some p)
    (empty : sc.fifo = []) (full : sc.expected = .full sc.next cov) :
    Compared { sc with received := sc.received + 1 } p cov line [] s
      (s.transmit.setWork (.scanning { sc with received := sc.received + 1, fifo := sc.fifo ++ [line] })).compareIfReady := by
  have frame := s.transmit_frame
  unfold Compared
  rw [frame]
  generalize s.transmit.link = k
  generalize joined : { sc with received := sc.received + 1, fifo := sc.fifo ++ [line] } = sc'
  have compares := compareIfReady_eq (u := State.setWork (.scanning sc') { s with link := k }) (sc := sc') (line := line)
    (rest := []) (cov := cov) (p := p) rfl (by rw [← joined]; exact resident) (by rw [← joined]; simp [empty])
    (by rw [← joined]; exact full)
  generalize before : State.setWork (.scanning sc') { s with link := k } = u at compares
  generalize compared : u.compareLine sc' p cov line [] = y at compares
  have bay : sc'.bay = sc.bay := by rw [← joined]
  have on : y.inspection.work = .scanning { (comparedPlate sc' p cov line u).2 with fifo := [], expected := .empty } := by
    rw [← compared]; rfl
  have table : y.bays = (s.setBay sc'.bay (some (comparedPlate sc' p cov line u).1)).bays := by rw [← compared, ← before]; rfl
  have resident' : y.plate? sc'.bay = some (comparedPlate sc' p cov line u).1 :=
    State.plate?_eq_of_setBay (by rw [bay]; exact State.plate?_lt resident) table
  refine ⟨fun left => ?_, fun last => ?_⟩
  · rw [compares.trans (if_pos (by rw [← before, ← joined]; exact left)), beginExpected_eq _ on resident', ← compared, ← before]
    subst joined
    rfl
  · rw [compares.trans (if_neg (by rw [← before, ← joined]; exact not_lt.2 last))]
    have frame' : ScanOnly s y := by rw [← compared, ← before]; rfl
    have ended := endScan_scanEnded (cause := .none) (sc' := { sc with received := sc.received + 1 }) frame' on resident'
      (by rw [← joined]; exact ⟨rfl, rfl⟩) (fun o => by rw [table]; exact List.set_set ..) (by rw [← compared, ← before]; rfl)
      (by rw [← compared, ← before]; rfl)
    rw [verdictOf, if_pos rfl, scanVerdict_eq] at ended
    subst joined before
    exact ended

/-- Settles O47, by the state of the unit and of its scan. -/
theorem scanLinesAreTaken : Obligations.ScanLinesAreTaken := by
  unfold Obligations.ScanLinesAreTaken
  refine ⟨fun line s idle => ?_, fun line c s on fewer => ?_, fun line sc p s on resident more timely => ?_,
    fun line sc p s on resident more lagged => ?_, fun line sc p s on resident all => ?_,
    fun l sc p s here due raw debounced on resident more => ?_⟩
  · have rests : s.transmit.scanLine line = s.transmit := by
      unfold State.scanLine
      simp only [State.transmit_inspection, idle]
    exact congrArg Host.Outcome.next rests
  · refine ⟨summed c.sums line, congrArg Host.Outcome.next ?_, by simp [summed], fun e lt => summed_getD c.sums line lt⟩
    show s.transmit.scanLine line = _
    unfold State.scanLine
    simp only [State.transmit_inspection, on]
    unfold State.calibrationLine
    rw [if_pos (show c.lines < Config.calibrationLines from fewer)]
    simp only [State.setWork, State.transmit_inspection, summed]
  · have resident' := (transmit_plate? sc.bay).trans resident
    obtain ⟨-, received⟩ := receiveLine_eq (u := s.transmit) line resident'
    rw [State.transmit_settings] at received
    obtain ⟨-, joins, overflows⟩ := received more
    rw [scanLine_scanning line on]
    refine ⟨fun room waits => ?_, fun full left => ?_, fun full last => ?_, fun cov empty ready => ?_⟩
    · rw [joins timely room, compareIfReady_waits (sc := { sc with received := sc.received + 1, fifo := sc.fifo ++ [line] }) rfl waits]
      simp only [State.setWork, State.transmit_inspection]
    · rw [overflows timely full, if_neg (by omega)]
      simp only [State.markLagged, State.setWork, State.onStore, State.setSource, State.transmit_inspection, State.transmit_store]
      rfl
    · rw [overflows timely full, if_pos last]
      refine ⟨_, rfl, endScan_scanEnded (scanOnly_markLagged sc s) rfl ?_ ⟨rfl, rfl⟩ ?_ ?_ ?_⟩
      · exact resident'
      · exact fun o => congrArg (fun b => b.set sc.bay o) s.transmit_bays
      · exact congrArg (fun i : Inspection => { i with work := .idle }) s.transmit_inspection
      · exact (stop_stop .inspect s.transmit.store).trans (congrArg (Store.stop .inspect) s.transmit_store)
    · rw [joins timely (by simp [empty])]
      exact ⟨_, rfl, compareIfReady_compared line resident empty ready⟩
  · have resident' := (transmit_plate? sc.bay).trans resident
    obtain ⟨-, received⟩ := receiveLine_eq (u := s.transmit) line resident'
    rw [State.transmit_settings] at received
    obtain ⟨counts, -⟩ := received more
    rw [scanLine_scanning line on, counts lagged]
    refine ⟨fun left => ?_, fun last => ⟨_, rfl, ?_⟩⟩
    · rw [if_neg (by omega)]
      simp only [State.setWork, State.transmit_inspection]
    · rw [if_pos last]
      refine endScan_scanEnded (scanOnly_setWork _ s) rfl ?_ ⟨rfl, rfl⟩ ?_ ?_ ?_
      · exact resident'
      · exact fun o => congrArg (fun b => b.set sc.bay o) s.transmit_bays
      · exact congrArg (fun i : Inspection => { i with work := .idle }) s.transmit_inspection
      · exact congrArg (Store.stop .inspect) s.transmit_store
  · obtain ⟨rests, -⟩ := receiveLine_eq (u := s.transmit) line ((transmit_plate? sc.bay).trans resident)
    rw [scanLine_scanning line on, rests (by simpa using all)]
  · generalize moved : s.transmit.setInput 4 (movedLine l) = v
    have work : v.inspection.work = .scanning sc := by rw [← moved]; simpa using on
    have resident' : v.plate? sc.bay = some p := by rw [← moved]; exact (transmit_plate? sc.bay).trans resident
    have settings : v.settings = s.settings := by rw [← moved]; exact s.transmit_settings
    have reported : v.reportEdge 4 l.raw = v.endScan .earlyClear := by
      rw [raw]
      show v.plateClear = _
      unfold State.plateClear
      simp only [work]
      exact if_pos (by rw [scanLines_eq resident', settings]; exact more)
    have kept : (v.endScan .earlyClear).lines.inputs = s.lines.inputs.set 4 (movedLine l) := by
      rw [endScan_eq _ work resident', ← moved, s.transmit_frame]; rfl
    refine ⟨_, exec_inputEdge (n := 4) here due (by simp [raw, debounced]) ((congrArg _ moved).trans reported) kept,
      endScan_ended (cause := .earlyClear) ?_ work resident' ⟨rfl, rfl⟩ ?_ ?_ ?_ rfl fun _ => edgeMarked_sources 4 l⟩
    all_goals rw [← moved, s.transmit_frame]
    · rfl
    · exact fun _ => rfl
    · rfl
    · rfl

end Sys2Proof.Proofs
end

section
/-! CLAIMS SETTLED. Scan starts (R18, R150, R151, R167). -/

namespace Sys2Proof.Proofs

open Sys2Proof.Machine Sys2Proof.Claims

variable {s t u v w x y : State} {l : InputLine}

/-! ### An edge's mark beside other changes -/

/-- The pending sources with an edge of this line marked (R162). -/
def markedSources (l : InputLine) (a : BitVec 12) : BitVec 12 := if edgeHits l && !l.masked then a ||| (1#12 <<< 10) else a

theorem markedSources_or (l : InputLine) (a b : BitVec 12) : markedSources l (a ||| b) = markedSources l a ||| b := by
  unfold markedSources
  split
  · rw [BitVec.or_assoc, BitVec.or_comm b, BitVec.or_assoc]
  · rfl

theorem edgeMarked_autoReady {n : Nat} (high : 3 ≤ n) (l : InputLine) (y : State) : AutoReady (edgeMarked n l y) ↔ AutoReady y := by
  have level {k : Nat} (lt : k < 3) : (edgeMarked n l y).asserted k = y.asserted k := by
    unfold State.asserted State.input
    rw [List.getD_eq_getElem?_getD, List.getD_eq_getElem?_getD]
    show (((y.lines.inputs.set n (afterEdge l))[k]?).getD _).debounced = _
    rw [List.getElem?_set_ne (by omega)]
  unfold AutoReady
  rw [level (by decide), level (by decide), level (by decide)]
  rfl

theorem started_edgeMarked (n : Nat) (l : InputLine) (m : Nat) (q : Plate) (y : State) :
    started m q (edgeMarked n l y) = edgeMarked n l (started m q y) := by
  have sources : markedSources l (y.link.sources ||| (1#12 <<< m) ||| (1#12 <<< 8)) =
      markedSources l y.link.sources ||| (1#12 <<< m) ||| (1#12 <<< 8) := by rw [markedSources_or, markedSources_or]
  exact congrArg (fun a : BitVec 12 => ({ edgeMarked n l (started m q y) with
    link := { (started m q y).link with sources := a } } : State)) sources.symm

/-- An AUTO event on the way to the mark of an edge above the interlock lines finds what it would find after it (R120). -/
theorem endsAuto_edgeMarked {n : Nat} {o : Host.Outcome State Fault Refusal} (high : 3 ≤ n)
    (outcome : o = .next (edgeMarked n l y.autoEvent)) : EndsAuto o (edgeMarked n l y) := by
  rintro v (⟨rests, rfl⟩ | ⟨m, rest, q, ready, queue, resident, height, rfl⟩)
  · rw [edgeMarked_autoReady high] at rests
    rw [outcome, autoEvent_rest rests]
  · rw [edgeMarked_autoReady high] at ready
    rw [outcome, autoEvent_of_taken (.inr ⟨m, rest, q, ready, queue, resident, height, rfl⟩), started_edgeMarked]

/-! ### The head of the inspection queue -/

/-- x when the scan of bay n, holding p, has been bound and the queue has these entries left (R18, R150). -/
def scanBound (n : Nat) (rest : List InspectionEntry) (p : Plate) (x : State) : State :=
  { x with
    inspectionQueue := rest
    bays := x.bays.set n (some { p with state := .inspecting })
    inspection := boundScan n p x.inspection
    store := Store.grant { x.store with inspect := some { addr := x.bayBase n, write := none } }
    link := { x.link with sources := x.link.sources ||| (1#12 <<< n) ||| (1#12 <<< 9) } }

/-- x when the reject bin's pulse has begun and the scan start is noted so (R150, R167). -/
def startDiverted (rest : List InspectionEntry) (f : Inspection → Inspection) (x : State) : State :=
  { x with
    inspectionQueue := rest
    lines := { x.lines with pulse := some { reject := true, timeLeft := 10 * x.settings.pulseSteps } }
    inspection := f x.inspection
    link := { x.link with sources := x.link.sources ||| (1#12 <<< 9) } }

theorem scanBound_edgeMarked (k : Nat) (l : InputLine) (n : Nat) (rest : List InspectionEntry) (p : Plate) (x : State) :
    scanBound n rest p (edgeMarked k l x) = edgeMarked k l (scanBound n rest p x) := by
  have sources : markedSources l (x.link.sources ||| (1#12 <<< n) ||| (1#12 <<< 9)) =
      markedSources l x.link.sources ||| (1#12 <<< n) ||| (1#12 <<< 9) := by rw [markedSources_or, markedSources_or]
  exact congrArg (fun a : BitVec 12 => ({ edgeMarked k l (scanBound n rest p x) with
    link := { (scanBound n rest p x).link with sources := a } } : State)) sources.symm

theorem startDiverted_edgeMarked (k : Nat) (l : InputLine) (rest : List InspectionEntry) (f : Inspection → Inspection) (x : State) :
    startDiverted rest f (edgeMarked k l x) = edgeMarked k l (startDiverted rest f x) :=
  congrArg (fun a : BitVec 12 => ({ edgeMarked k l (startDiverted rest f x) with
    link := { (startDiverted rest f x).link with sources := a } } : State))
    (markedSources_or l x.link.sources (1#12 <<< 9)).symm

theorem bindScan_eq {n : Nat} {p : Plate} (rest : List InspectionEntry) (resident : x.plate? n = some p) :
    ({ x with inspectionQueue := rest } : State).bindScan n p = scanBound n rest p x := by
  unfold State.bindScan
  refine Eq.trans (congrArg (State.setSource sourceInspection) (beginExpected_eq 0 rfl
    (State.plate?_eq_of_setBay (State.plate?_lt resident) rfl))) ?_
  rw [Nat.zero_mul]
  rfl

theorem judgeScanStart_bay {n : Nat} {rest : List InspectionEntry} {p : Plate} (queue : x.inspectionQueue = .bay n :: rest)
    (resident : x.plate? n = some p) : x.judgeScanStart = (scanBound n rest p x).autoEvent := by
  have resident' : ({ x with inspectionQueue := rest } : State).plate? n = some p := resident
  unfold State.judgeScanStart
  simp only [queue, resident', bindScan_eq rest resident]

theorem judgeScanStart_aborted {key : PlateKey} {rest : List InspectionEntry} (queue : x.inspectionQueue = .aborted key :: rest) :
    x.judgeScanStart = (startDiverted rest (fun i => { i with
      abortedCount := min (i.abortedCount + 1) 65535, lastScan := .abortedPlate key }) x).autoEvent := by
  unfold State.judgeScanStart
  simp only [queue]
  rfl

theorem judgeScanStart_empty (queue : x.inspectionQueue = []) :
    x.judgeScanStart = startDiverted [] (fun i => { i with
      unexpectedCount := min (i.unexpectedCount + 1) 65535, lastScan := .unexpected }) x := by
  unfold State.judgeScanStart startDiverted
  simp only [queue]
  rw [← queue]
  rfl

/-- A start judged on the way to its edge's mark is judged as after it: the mark adds a pending source alone (R162). -/
theorem scanStartJudged_edgeMarked {o : Host.Outcome State Fault Refusal}
    (outcome : o = .next (edgeMarked 3 l x.judgeScanStart)) : ScanStartJudged (edgeMarked 3 l x) o := by
  refine ⟨fun n rest p queue resident => ?_, fun key rest queue => ?_, fun queue => ?_⟩
  · have queue' : x.inspectionQueue = .bay n :: rest := queue
    rw [judgeScanStart_bay queue' resident] at outcome
    have judged := endsAuto_edgeMarked (by decide) outcome
    rw [← scanBound_edgeMarked] at judged
    exact judged
  · have queue' : x.inspectionQueue = .aborted key :: rest := queue
    rw [judgeScanStart_aborted queue'] at outcome
    have judged := endsAuto_edgeMarked (by decide) outcome
    rw [← startDiverted_edgeMarked] at judged
    exact judged
  · have queue' : x.inspectionQueue = [] := queue
    rw [outcome, judgeScanStart_empty queue', ← startDiverted_edgeMarked]
    unfold startDiverted
    rw [← queue']
    rfl

theorem judgeScanStart_inputs (x : State) : x.judgeScanStart.lines.inputs = x.lines.inputs := by
  unfold State.judgeScanStart
  cases queue : x.inspectionQueue with
  | nil => rfl
  | cons entry rest =>
    cases entry with
    | aborted key => simp
    | bay n =>
      cases resident : ({ x with inspectionQueue := rest } : State).plate? n with
      | none => simp [resident]
      | some p => simp [resident]

/-! ### Rises of L3 -/

/-- A rise of L3 is judged in the state that this leaves, the edge marked in it (R150, R162). -/
theorem exec_scanStart (here : s.lines.inputs[3]? = some l) (due : l.edgeDue = true) (rose : l.raw = true)
    (low : l.debounced = false) (reported : (s.transmit.setInput 3 (movedLine l)).scanStart = x.judgeScanStart)
    (kept : x.lines.inputs = s.lines.inputs.set 3 (movedLine l)) :
    ScanStartJudged (edgeMarked 3 l x) (exec (.inputEdge 3) s) := by
  refine scanStartJudged_edgeMarked (exec_inputEdge (n := 3) here due (by rw [rose, low]; decide) ?_ ?_)
  · rw [rose, ← reported]; rfl
  · rw [judgeScanStart_inputs, kept]; rfl

/-- The line's move and its mark are one change of its record (R161, R162). -/
theorem edgeMarked_setInput (n : Nat) (l m : InputLine) (x : State) : edgeMarked n l (x.setInput n m) = edgeMarked n l x :=
  congrArg (fun inputs => ({ edgeMarked n l x with lines := { x.lines with inputs } } : State)) (List.set_set ..)

theorem scanLeft_edgeMarked (k : Nat) (v : Verdict) (cause : UncheckedCause) (sc : Scan) (p : Plate) (x : State) :
    scanLeft v cause sc p (edgeMarked k l x) = edgeMarked k l (scanLeft v cause sc p x) := by
  have sources : markedSources l (x.link.sources ||| (1#12 <<< sc.bay) ||| (1#12 <<< 9)) =
      markedSources l x.link.sources ||| (1#12 <<< sc.bay) ||| (1#12 <<< 9) := by rw [markedSources_or, markedSources_or]
  exact congrArg (fun a : BitVec 12 => ({ edgeMarked k l (scanLeft v cause sc p x) with
    link := { (scanLeft v cause sc p x).link with sources := a } } : State)) sources.symm

/-- A bay whose scan ended UNCHECKED is never due for release (R20). -/
theorem scanLeft_unchecked (cause : UncheckedCause) (sc : Scan) (p : Plate) (x : State) :
    scanLeft .unchecked cause sc p x = { scanLeft .unchecked cause sc p x with
      bays := x.bays.set sc.bay (some { p with state := .held, verdict := .unchecked, autoDue := false }) } := by
  have due : (x.settings.autoRelease && decide (Verdict.unchecked = .clean) && p.allGood) = false := by simp
  exact congrArg (fun b => ({ scanLeft .unchecked cause sc p x with
    bays := x.bays.set sc.bay (some { p with state := .held, verdict := .unchecked, autoDue := b }) } : State)) due

/-- x when its calibration has been abandoned and answered (R140). -/
def calibrationCut (c : Calibration) (a : Answer) (x : State) : State :=
  { x with
    inspection := { x.inspection with
      work := .idle, lastCalibration := some { phase := c.phase, outcome := .aborted, weak := 0 } }
    link := { x.link with sources := x.link.sources ||| (1#12 <<< 9), answers := x.link.answers ++ [a] } }

theorem calibrationCut_edgeMarked (k : Nat) (c : Calibration) (a : Answer) (x : State) :
    calibrationCut c a (edgeMarked k l x) = edgeMarked k l (calibrationCut c a x) :=
  congrArg (fun b : BitVec 12 => ({ edgeMarked k l (calibrationCut c a x) with
    link := { (calibrationCut c a x).link with sources := b } } : State)) (markedSources_or l x.link.sources (1#12 <<< 9)).symm

theorem cutCalibration_eq {c : Calibration} {k : Nat} {e : Entry} (on : x.inspection.work = .calibrating c)
    (short : c.lines < 16) (entry : c.entry = some k)
    (found : x.link.outstanding.find? (fun y => decide (y.slot = k)) = some e) :
    x.cutCalibration = calibrationCut c
      { slot := some k, kind := kindOfAnswer e.kind, tag := e.tag, reply := only .aborted } x := by
  have cut : x.cutCalibration = x.endCalibration c .aborted 0 (Reply.bare .aborted) := by
    unfold State.cutCalibration
    simp only [on]
    exact if_neg (Nat.not_le_of_lt short)
  rw [cut, State.endCalibration, answer?_eq, entry]
  have answer := entryAnswer_found (r := Reply.bare .aborted) found
  refine (congrArg (fun as => withAnswers as _) answer).trans ?_
  rfl

/-- Settles O49, by the state that the scan or calibration in progress leaves and the queue's head there. -/
theorem scanStartBindsQueueHead : Obligations.ScanStartBindsQueueHead := by
  intro l s here due rose low
  obtain ⟨k, frame⟩ : ∃ k, s.transmit = { s with link := k } := ⟨_, s.transmit_frame⟩
  have table : k.outstanding = s.link.outstanding := by
    have same := s.transmit_outstanding
    rwa [frame] at same
  have marked : edgeMarked 3 l (s.transmit.setInput 3 (movedLine l)) = edgeMarked 3 l { s with link := k } := by
    rw [edgeMarked_setInput, frame]
  have inputs : (s.transmit.setInput 3 (movedLine l)).lines.inputs = s.lines.inputs.set 3 (movedLine l) := by rw [frame]; rfl
  have work : (s.transmit.setInput 3 (movedLine l)).inspection = s.inspection := by rw [frame]; rfl
  rw [frame]
  intro o base
  refine ⟨fun idle => ?_, fun sc p on resident => ?_, fun c i e on short entry found => ?_⟩
  · have judged : ScanStartJudged (edgeMarked 3 l (s.transmit.setInput 3 (movedLine l))) o := by
      refine exec_scanStart here due rose low ?_ inputs
      rw [State.scanStart, work, idle]
    rw [marked] at judged
    exact judged
  · have judged : ScanStartJudged
        (edgeMarked 3 l (scanLeft .unchecked .overlap sc p (s.transmit.setInput 3 (movedLine l)))) o := by
      refine exec_scanStart here due rose low ?_ inputs
      rw [State.scanStart, work, on]
      exact congrArg State.judgeScanStart (endScan_eq .overlap (by rw [work]; exact on) (by rw [frame]; exact resident))
    rw [← scanLeft_edgeMarked, marked, scanLeft_unchecked] at judged
    exact judged
  · have judged : ScanStartJudged (edgeMarked 3 l (calibrationCut c
        { slot := some i, kind := kindOfAnswer e.kind, tag := e.tag, reply := only .aborted }
        (s.transmit.setInput 3 (movedLine l)))) o := by
      refine exec_scanStart here due rose low ?_ inputs
      rw [State.scanStart, work, on]
      refine congrArg State.judgeScanStart (cutCalibration_eq (by rw [work]; exact on) short entry ?_)
      rw [frame]
      exact (congrArg (List.find? _) table).trans found
    rw [← calibrationCut_edgeMarked, marked] at judged
    exact judged

end Sys2Proof.Proofs
end

section
/-! SUPPORT. Fields at offsets of a record, and what stands there (sections 1.6 and 10.9). -/

namespace Sys2Proof.Proofs

open Sys2Proof.Machine Sys2Proof.Claims

variable {d f g : List Byte} {i : Nat}

/-! ### Fields -/

/-- The field f stands at offset i of d. -/
def FieldAt (d : List Byte) (i : Nat) (f : List Byte) : Prop := f <+: d.drop i

/-- A record begins with itself: where to take it apart. -/
theorem fieldAt_of_eq (layout : d = f) : FieldAt d 0 f := by
  rw [layout]
  exact List.prefix_refl f

theorem fieldAt_append : FieldAt d i (f ++ g) ↔ FieldAt d i f ∧ FieldAt d (i + f.length) g := by
  unfold FieldAt
  rw [← List.drop_drop]
  constructor
  · rintro ⟨more, eq⟩
    rw [← eq, List.append_assoc, List.drop_left]
    exact ⟨List.prefix_append .., List.prefix_append ..⟩
  · rintro ⟨⟨more, eq⟩, second⟩
    rw [← eq, List.drop_left] at second
    rw [← eq]
    exact (List.prefix_append_right_inj f).2 second

/-- Of a table of records of one length, record j stands j lengths on. -/
theorem fieldAt_flatMap {α : Type} {record : α → List Byte} {l : List α} {m j : Nat} {x : α}
    (len : ∀ y, (record y).length = m) (table : FieldAt d i (l.flatMap record)) (here : l[j]? = some x) :
    FieldAt d (i + m * j) (record x) := by
  induction l generalizing i j with
  | nil => cases here
  | cons y rest ih =>
    rw [List.flatMap_cons, fieldAt_append, len] at table
    obtain ⟨first, others⟩ := table
    cases j with
    | zero => cases here; exact first
    | succ k =>
      have there := ih others here
      rwa [Nat.add_assoc, Nat.add_comm m, ← Nat.mul_succ] at there

theorem flatMap_length {α : Type} {record : α → List Byte} {m : Nat} (len : ∀ y, (record y).length = m) (l : List α) :
    (l.flatMap record).length = m * l.length := by
  induction l with
  | nil => rfl
  | cons y rest ih => rw [List.flatMap_cons, List.length_append, ih, len, List.length_cons, Nat.mul_succ, Nat.add_comm]

/-! ### Numbers -/

theorem get_of_fieldAt {b : Byte} {rest : List Byte} (field : FieldAt d i (b :: rest)) : d[i]? = some b := by
  obtain ⟨more, eq⟩ := field
  have first : (d.drop i)[0]? = some b := by rw [← eq]; rfl
  simpa using first

theorem byteAt_eq {b : Byte} {rest : List Byte} (field : FieldAt d i (b :: rest)) : byteAt d i = b.toNat := by
  rw [byteAt, List.getD_eq_getElem?_getD, get_of_fieldAt field]
  rfl

theorem byteAt_be8 {n : Nat} (field : FieldAt d i (be8 n)) : byteAt d i = n % 256 :=
  (byteAt_eq field).trans (BitVec.toNat_ofNat n 8)

theorem byteAt_be8_of_lt {n : Nat} (lt : n < 256) (field : FieldAt d i (be8 n)) : byteAt d i = n :=
  (byteAt_be8 field).trans (Nat.mod_eq_of_lt lt)

theorem byteAt_beFlag {b : Bool} (field : FieldAt d i (beFlag b)) : byteAt d i = flagCode b :=
  byteAt_be8_of_lt (by cases b <;> decide) field

theorem u16At_be16 {n : Nat} (field : FieldAt d i (be16 n)) : u16At d i = n % 65536 := by
  have bytes : FieldAt d i (be8 (n / 256) ++ be8 n) := field
  obtain ⟨high, low⟩ := fieldAt_append.1 bytes
  have lowByte : byteAt d (i + 1) = n % 256 := byteAt_be8 low
  rw [u16At, byteAt_be8 high, lowByte]
  omega

theorem u32At_be32 {n : Nat} (field : FieldAt d i (be32 n)) : u32At d i = n % 4294967296 := by
  obtain ⟨high, low⟩ := fieldAt_append.1 field
  have lowWord : u16At d (i + 2) = n % 65536 % 65536 := u16At_be16 low
  rw [u32At, u16At_be16 high, lowWord]
  omega

/-! ### Keys -/

theorem keyReads_of {k : PlateKey} (field : FieldAt d i (beKey k)) : KeyReads k d i := by
  obtain ⟨rest, version⟩ := fieldAt_append.1 field
  obtain ⟨rest, separation⟩ := fieldAt_append.1 rest
  obtain ⟨edition, page⟩ := fieldAt_append.1 rest
  exact ⟨byteAt_be8 edition, u16At_be16 page, byteAt_be8 separation, byteAt_be8 version⟩

/-- A key within its fields reads as itself. -/
theorem keyAt_beKey {k : PlateKey} (edition : k.edition < 256) (page : k.page < 65536) (separation : k.separation < 256)
    (version : k.version < 256) (field : FieldAt d i (beKey k)) : keyAt d i = k := by
  obtain ⟨e, p, s, v⟩ := keyReads_of field
  rw [keyAt, e, p, s, v, Nat.mod_eq_of_lt edition, Nat.mod_eq_of_lt page, Nat.mod_eq_of_lt separation,
    Nat.mod_eq_of_lt version]

theorem bayKeyReads_of {o : Option (Nat × PlateKey)} (field : FieldAt d i (beBayKey o)) : BayKeyReads o d i := by
  cases o with
  | none =>
    obtain ⟨bay, key⟩ := fieldAt_append.1 field
    exact ⟨fun _ => ⟨byteAt_be8 bay, keyReads_of key⟩, fun _ _ h => by cases h⟩
  | some c =>
    obtain ⟨bay, key⟩ := fieldAt_append.1 field
    refine ⟨fun h => (by cases h), fun n k h => ?_⟩
    cases h
    exact ⟨byteAt_be8 bay, keyReads_of key⟩

/-! ### Sets -/

theorem setBits_testBit (members : List Bool) (k acc n : Nat) (fits : acc < 2 ^ k) :
    ((members.zipIdx k).foldl (fun acc p => if p.1 then acc + 2 ^ p.2 else acc) acc).testBit n =
      if n < k then acc.testBit n else members.getD (n - k) false := by
  induction members generalizing k acc with
  | nil =>
    by_cases low : n < k
    · simp [low]
    · simp only [low, if_false]
      exact Nat.testBit_lt_two_pow (Nat.lt_of_lt_of_le fits (Nat.pow_le_pow_right (by decide) (by omega)))
  | cons b rest ih =>
    have below : (if b then acc + 2 ^ k else acc) < 2 ^ (k + 1) := by
      rw [Nat.pow_succ]; split <;> omega
    rw [List.zipIdx_cons, List.foldl_cons, ih (k + 1) _ below]
    rcases Nat.lt_trichotomy n k with low | rfl | high
    · rw [if_pos (by omega), if_pos low]
      split
      · rw [Nat.add_comm]; exact Nat.testBit_two_pow_add_gt low acc
      · rfl
    · have clear : acc.testBit n = false := Nat.testBit_lt_two_pow fits
      rw [if_pos (Nat.lt_succ_self n), if_neg (Nat.lt_irrefl n), Nat.sub_self]
      cases b with
      | true => rw [if_pos rfl, Nat.add_comm, Nat.testBit_two_pow_add_eq, clear]; rfl
      | false => exact clear
    · rw [if_neg (by omega), if_neg (by omega)]
      rw [show n - k = (n - (k + 1)) + 1 by omega]
      rfl

theorem testBit_beSet {members : List Bool} {n : Nat} {b : Bool} (field : FieldAt d i (beSet members))
    (here : members[n]? = some b) (lt : n < 8) : (byteAt d i).testBit n = b := by
  have value := byteAt_be8 field
  rw [value, show 256 = 2 ^ 8 from rfl, Nat.testBit_mod_two_pow, setBits_testBit members 0 0 n (by decide)]
  simp [lt, here, List.getD]

end Sys2Proof.Proofs
end

section
/-! SUPPORT. The pieces that the records of section 10.9 share: their lengths, their codes, and what each says. -/

namespace Sys2Proof.Proofs

open Sys2Proof.Machine Sys2Proof.Claims

variable {s t : State} {p : Plate} {d : List Byte} {i : Nat}

/-! ### Lengths -/

@[simp] theorem be8_length (n : Nat) : (be8 n).length = 1 := rfl
@[simp] theorem be16_length (n : Nat) : (be16 n).length = 2 := rfl
@[simp] theorem be32_length (n : Nat) : (be32 n).length = 4 := rfl
@[simp] theorem beFlag_length (b : Bool) : (beFlag b).length = 1 := rfl
@[simp] theorem beSet_length (members : List Bool) : (beSet members).length = 1 := rfl
@[simp] theorem beKey_length (k : PlateKey) : (beKey k).length = 5 := rfl
@[simp] theorem beBayKey_length (o : Option (Nat × PlateKey)) : (beBayKey o).length = 6 := by cases o <;> rfl
@[simp] theorem outcomeBytes_length (o : ExposureOutcome) : o.bytes.length = 4 := by cases o <;> rfl
@[simp] theorem lastBytes_length (o : LastOutcome) : o.bytes.length = 11 := by cases o <;> rfl
@[simp] theorem plateCountBytes_length (p : Plate) : p.countBytes.length = 8 := rfl
@[simp] theorem linkCountBytes_length (l : Link) : l.countBytes.length = 8 := rfl
@[simp] theorem settingsBytes_length (c : Settings) : c.bytes.length = 9 := rfl
@[simp] theorem entryBytes_length (e : InspectionEntry) : e.bytes.length = 6 := by cases e <;> rfl
@[simp] theorem defectBytes_length (r : DefectRecord) : r.bytes.length = 16 := rfl
@[simp] theorem inputBytes_length (l : InputLine) : l.settingBytes.length = 4 := rfl
/-! ### Codes -/

/-- The code of a bay state, FREE among them (R2). -/
def stateCode (o : Option PlateState) : Nat := o.elim 0 PlateState.code

theorem plateStates_code (o : Option PlateState) : plateStates[stateCode o]? = some o := by
  cases o with
  | none => rfl
  | some st => cases st <;> rfl

theorem plateState_code (st : PlateState) : plateStates[st.code % 256]? = some (some st) := by cases st <;> rfl

theorem code_eq_iff {c : Nat} {o : Option PlateState} (at_ : plateStates[c]? = some o) (x : Option PlateState) :
    stateCode x = c ↔ x = o := by
  constructor
  · rintro rfl
    rw [plateStates_code] at at_
    exact Option.some.inj at_
  · rintro rfl
    have lt : stateCode x < plateStates.length := (List.getElem?_eq_some_iff.1 (plateStates_code x)).1
    exact (List.getElem?_inj lt (by decide)).1 ((plateStates_code x).trans at_.symm)

theorem policy_code (q : Policy) : [Policy.hold, Policy.hatch][q.code % 256]? = some q := by cases q <;> rfl
theorem verdict_code (v : Verdict) : verdicts[v.code % 256]? = some v := by cases v <;> rfl
theorem abortCause_code (c : AbortCause) : abortCauses[c.code % 256]? = some (some c) := by cases c <;> rfl
theorem exposureState_code (e : ExposureState) : exposureStates[e.code % 256]? = some e := by cases e <;> rfl
theorem mode_code (m : ExposureMode) : [ExposureMode.manual, ExposureMode.auto][m.code % 256]? = some m := by cases m <;> rfl
theorem sign_code (x : Sign) : [Sign.excess, Sign.loss, Sign.mixed][x.code % 256]? = some x := by cases x <;> rfl
theorem edge_code (e : EdgeSetting) : [EdgeSetting.rising, EdgeSetting.falling, EdgeSetting.both][e.code % 256]? = some e := by
  cases e <;> rfl
theorem output_code (o : OutputSetting) :
    [OutputSetting.low, OutputSetting.high, OutputSetting.auto][o.code % 256]? = some o := by cases o <;> rfl
theorem stripState_code (x : StripState) :
    [StripState.absent, .good, .damaged, .missing][x.code % 256]? = some x := by cases x <;> rfl
theorem faultCause_code (c : FaultCause) :
    [FaultCause.none, .check, .zeroRun, .longLine, .misplaced, .longStrip, .shortStrip, .truncated, .unknownToken,
      .windowSlot, .windowData, .windowForm][c.code % 256]? = some c := by cases c <;> rfl

/-! ### Shared pieces -/

theorem count_eq (p : Plate) (st : StripState) : p.count st = stripsWith (fun r => decide (r.state = st)) p :=
  List.countP_eq_length_filter

theorem countsRead_of (field : FieldAt d i p.countBytes) : CountsRead p d i := by
  simp only [Plate.countBytes, fieldAt_append, List.length_append, be16_length, count_eq, and_assoc] at field
  obtain ⟨good, damaged, absent, missing⟩ := field
  exact ⟨u16At_be16 good, u16At_be16 damaged, u16At_be16 absent, u16At_be16 missing⟩

/-- The part of a plate record that a damage summary repeats (section 10.9). -/
def historyBytes (p : Plate) : List Byte :=
  be16 p.duplicates ++ be16 p.zoneIgnored ++ p.outcome.bytes ++ be8 p.exposures ++ be8 p.verdict.code
    ++ be16 p.defects.length ++ be16 p.untracked

@[simp] theorem historyBytes_length (p : Plate) : (historyBytes p).length = 14 := by
  simp only [historyBytes, List.length_append, be16_length, be8_length, outcomeBytes_length]

theorem historyReads_of (field : FieldAt d i (historyBytes p)) : HistoryReads p d i := by
  simp only [historyBytes, fieldAt_append, List.length_append, be16_length, be8_length, outcomeBytes_length, Nat.reduceAdd,
    and_assoc] at field
  obtain ⟨duplicates, ignored, outcome, exposures, verdict, defects, untracked⟩ := field
  refine ⟨u16At_be16 duplicates, u16At_be16 ignored, fun h => ?_, fun h => ?_, fun cause pass h => ?_, byteAt_be8 exposures,
    ?_, u16At_be16 defects, u16At_be16 untracked⟩
  · rw [h] at outcome
    simp only [ExposureOutcome.bytes, fieldAt_append, and_assoc] at outcome
    obtain ⟨code, cause, pass⟩ := outcome
    exact ⟨byteAt_be8 code, byteAt_be8 cause, u16At_be16 pass⟩
  · rw [h] at outcome
    simp only [ExposureOutcome.bytes, fieldAt_append, and_assoc] at outcome
    obtain ⟨code, cause, pass⟩ := outcome
    exact ⟨byteAt_be8 code, byteAt_be8 cause, u16At_be16 pass⟩
  · rw [h] at outcome
    simp only [ExposureOutcome.bytes, fieldAt_append, and_assoc] at outcome
    obtain ⟨code, causeCode, reached⟩ := outcome
    refine ⟨byteAt_be8 code, ?_, u16At_be16 reached⟩
    have value : byteAt d (i + 5) = cause.code % 256 := byteAt_be8 causeCode
    rw [value, abortCause_code]
  · have value : byteAt d (i + 9) = p.verdict.code % 256 := byteAt_be8 verdict
    rw [value, verdict_code]

theorem lastReads_of {o : LastOutcome} (field : FieldAt d i o.bytes) : LastReads o d i := by
  refine ⟨?_, fun n k => ?_, fun cause pass begun n k => ?_⟩ <;> rintro rfl <;>
    simp only [LastOutcome.bytes, fieldAt_append, List.length_append, be8_length, be16_length, beFlag_length, Nat.reduceAdd,
      and_assoc] at field
  · obtain ⟨code, cause, pass, begun, bay⟩ := field
    exact ⟨byteAt_be8 code, byteAt_be8 cause, u16At_be16 pass, byteAt_be8 begun, bayKeyReads_of bay⟩
  · obtain ⟨code, cause, pass, begun, bay⟩ := field
    exact ⟨byteAt_be8 code, byteAt_be8 cause, u16At_be16 pass, byteAt_be8 begun, bayKeyReads_of bay⟩
  · obtain ⟨code, causeCode, reached, mark, bay⟩ := field
    refine ⟨byteAt_be8 code, ?_, u16At_be16 reached, byteAt_beFlag mark, bayKeyReads_of bay⟩
    rw [byteAt_be8 causeCode, abortCause_code]

theorem countersRead_of {l : Link} (field : FieldAt d i l.countBytes) : CountersRead l d i := by
  simp only [Link.countBytes, fieldAt_append, List.length_append, be16_length, and_assoc] at field
  obtain ⟨badCheck, timeouts, linkBusy, dropped⟩ := field
  exact ⟨u16At_be16 badCheck, u16At_be16 timeouts, u16At_be16 linkBusy, u16At_be16 dropped⟩

end Sys2Proof.Proofs
end

section
/-! SUPPORT. The plate, strip, defect, status and lines records as section 10.9 lays them out (R23, R44, R98, R157, R164,
R178). -/

namespace Sys2Proof.Proofs

open Sys2Proof.Machine Sys2Proof.Claims

variable {s t : State} {p : Plate} {d : List Byte} {i n : Nat}

/-! ### The plate record and the damage summary -/

/-- A key whose fields lie in the ranges of R4 reads as itself. -/
theorem keyAt_of_ok {k : PlateKey} (ok : KeyOk k) (edition : k.edition < 256) (field : FieldAt d i (beKey k)) : keyAt d i = k := by
  obtain ⟨_, page, separation, version⟩ := ok
  exact keyAt_beKey edition (by omega) (by omega) (by omega) field

theorem record_eq (n : Nat) (p : Plate) : p.record n =
    be8 n ++ be8 p.state.code ++ beKey p.key ++ be16 p.w ++ be16 p.h ++ be8 p.policy.code ++ [p.screenSet, p.curveSet]
      ++ beFlag p.replate ++ p.countBytes ++ historyBytes p := by
  simp only [Plate.record, historyBytes, List.append_assoc]

theorem plateRecordReads (layout : d = p.record n) (ok : KeyOk p.key) (edition : p.key.edition < 256) (lt : n < 256) :
    PlateRecordReads n p d := by
  rw [record_eq] at layout
  have length := congrArg List.length layout
  have whole := fieldAt_of_eq layout
  simp only [fieldAt_append, List.length_append, List.length_cons, List.length_nil, be8_length, beKey_length, be16_length,
    beFlag_length, plateCountBytes_length, historyBytes_length, Nat.reduceAdd, and_assoc] at length whole
  obtain ⟨bay, state, key, w, h, policy, sets, replate, counts, history⟩ := whole
  have screen : FieldAt d 12 ([p.screenSet] ++ [p.curveSet]) := sets
  obtain ⟨screenSet, curveSet⟩ := fieldAt_append.1 screen
  have at12 : d[12]? = some p.screenSet := get_of_fieldAt screenSet
  have at13 : d[13]? = some p.curveSet := get_of_fieldAt curveSet
  have replateMark : byteAt d 14 = flagCode p.replate := byteAt_beFlag replate
  refine ⟨length, byteAt_be8_of_lt lt bay, ?_, keyAt_of_ok ok edition key, u16At_be16 w, u16At_be16 h, ?_, at12, at13,
    replateMark, countsRead_of counts, historyReads_of history⟩
  · rw [byteAt_be8 state]
    exact plateState_code p.state
  · rw [byteAt_be8 policy, policy_code]

/-- The lowest strip not GOOD is the one that the record names (R98). -/
theorem firstNotGood_eq {r : StripRecord} (here : p.strips[i]? = some r) (bad : r.state ≠ .good)
    (below : ∀ j, j < i → (p.strips[j]?).map StripRecord.state = some .good) : p.firstNotGood = some i := by
  obtain ⟨lt, rfl⟩ := List.getElem?_eq_some_iff.1 here
  rw [Plate.firstNotGood, List.findIdx?_eq_some_iff_getElem]
  refine ⟨lt, by simpa using bad, fun j less => ?_⟩
  have good := below j less
  rw [List.getElem?_eq_getElem (by omega)] at good
  simpa using good

theorem firstNotGood_eq_none (good : ∀ r ∈ p.strips, r.state = .good) : p.firstNotGood = none := by
  rw [Plate.firstNotGood, List.findIdx?_eq_none_iff]
  intro r mem
  simp [good r mem]

theorem not_allGood {r : StripRecord} (mem : r ∈ p.strips) (bad : r.state ≠ .good) : ¬ p.allGood = true :=
  fun good => bad (allGood_iff.1 good r mem)

theorem summary_eq (p : Plate) : p.summary =
    beKey p.key ++ be8 p.policy.code ++ p.countBytes ++ be16 p.checkDamaged ++ be16 (p.firstNotGood.getD 0xFFFF)
      ++ historyBytes p ++ be8 p.damageClass.code := by
  simp only [Plate.summary, historyBytes, List.append_assoc]

theorem summaryReads (layout : d = p.summary) (ok : KeyOk p.key) (edition : p.key.edition < 256) : SummaryReads p d := by
  rw [summary_eq] at layout
  have length := congrArg List.length layout
  have whole := fieldAt_of_eq layout
  simp only [fieldAt_append, List.length_append, be8_length, beKey_length, be16_length, plateCountBytes_length,
    historyBytes_length, Nat.reduceAdd, and_assoc] at length whole
  obtain ⟨key, policy, counts, check, first, history, damage⟩ := whole
  have damageCode : byteAt d 32 = p.damageClass.code % 256 := byteAt_be8 damage
  refine ⟨length, keyAt_of_ok ok edition key, ?_, countsRead_of counts, ?_, fun i r here bad below => ?_, fun good => ?_,
    historyReads_of history, fun good => ?_, ?_, ?_, ?_⟩
  · rw [byteAt_be8 policy, policy_code]
  · rw [u16At_be16 check, Plate.checkDamaged, List.countP_eq_length_filter]
    rfl
  · rw [u16At_be16 first, firstNotGood_eq here bad below]
    rfl
  · rw [u16At_be16 first, firstNotGood_eq_none good]
    rfl
  · rw [damageCode, Plate.damageClass, if_pos (allGood_iff.2 good)]
    rfl
  · rintro filling ⟨r, mem, state⟩
    have bad : r.state ≠ .good := by rcases state with h | h <;> rw [h] <;> decide
    rw [damageCode, Plate.damageClass, if_neg (not_allGood mem bad), filling]
    rfl
  · rintro approving ⟨r, mem, state⟩
    have bad : r.state ≠ .good := by rw [state]; decide
    rw [damageCode, Plate.damageClass, if_neg (not_allGood mem bad), approving]
    simp only [anyAbsent_iff.2 ⟨r, mem, state⟩]
    rfl
  · rintro later ⟨r, mem, state⟩
    have bad : r.state ≠ .good := by rcases state with h | h <;> rw [h] <;> decide
    rw [damageCode, Plate.damageClass, if_neg (not_allGood mem bad)]
    rcases later with h | h | h | h | h <;> rw [h] <;> rfl

/-! ### Strips and defects -/

/-- The record of the strip that lies k above the first, wrapping after the last (R44). -/
def stripRecordAt (p : Plate) (first k : Nat) : List Byte :=
  (p.strips.getD ((first + k) % p.strips.length) StripRecord.fresh).bytes ((first + k) % p.strips.length)

theorem stripRecordAt_length (first : Nat) (p : Plate) (k : Nat) : (stripRecordAt p first k).length = 5 := rfl

theorem stripRecords_eq (p : Plate) (first count : Nat) :
    p.stripRecords first count = (List.range count).flatMap (stripRecordAt p first) := rfl

theorem stripsRead {first count : Nat} (layout : d = p.stripRecords first count) : StripsRead p first count d := by
  rw [stripRecords_eq] at layout
  have length := congrArg List.length layout
  have whole := fieldAt_of_eq layout
  rw [flatMap_length (stripRecordAt_length first p), List.length_range] at length
  refine ⟨length, fun k r lt here => ?_⟩
  have field := fieldAt_flatMap (stripRecordAt_length first p) whole (List.getElem?_range lt)
  simp only [stripRecordAt, List.getD_eq_getElem?_getD, here, Option.getD_some, StripRecord.bytes, fieldAt_append, List.length_append,
    be8_length, be16_length, Nat.reduceAdd, Nat.zero_add, and_assoc] at field
  obtain ⟨strip, state, marks, cause⟩ := field
  refine ⟨u16At_be16 strip, ?_, byteAt_be8_of_lt ?_ marks, ?_⟩
  · rw [byteAt_be8 state, stripState_code]
  · split <;> split <;> decide
  · rw [byteAt_be8 cause, faultCause_code]

theorem defectsRead (layout : d = p.defectRecords) (ok : KeyOk p.key) (edition : p.key.edition < 256) : DefectsRead p d := by
  have length := congrArg List.length layout
  have whole := fieldAt_of_eq layout
  simp only [Plate.defectRecords, fieldAt_append, List.length_append, flatMap_length defectBytes_length, be8_length, be16_length,
    beKey_length, Nat.zero_add, and_assoc] at length whole
  obtain ⟨records, number, untracked, verdict, key⟩ := whole
  refine ⟨length, fun j r here => ?_, u16At_be16 number, u16At_be16 untracked, ?_, keyAt_of_ok ok edition key⟩
  · have field := fieldAt_flatMap defectBytes_length records here
    simp only [DefectRecord.bytes, fieldAt_append, List.length_append, be8_length, be16_length, be32_length, Nat.reduceAdd,
      Nat.zero_add, and_assoc] at field
    obtain ⟨number, firstLine, lastLine, firstElement, lastElement, area, sign, peak⟩ := field
    refine ⟨u16At_be16 number, u16At_be16 firstLine, u16At_be16 lastLine, u16At_be16 firstElement, u16At_be16 lastElement,
      u32At_be32 area, ?_, byteAt_be8 peak⟩
    rw [byteAt_be8 sign, sign_code]
  · have code : byteAt d (16 * p.defects.length + 4) = p.verdict.code % 256 := byteAt_be8 verdict
    rw [code, verdict_code]

end Sys2Proof.Proofs
end

section
/-! CLAIMS SETTLED. The five reads (R23, R44, R45, R157, R164, R178), over the status and lines records. -/

namespace Sys2Proof.Proofs

open Sys2Proof.Machine Sys2Proof.Claims

variable {s t : State} {p : Plate} {d body : List Byte} {addr tag : Byte} {i n : Nat}

/-! ### The status record -/

theorem baysInState_eq {c : Nat} {o : Option PlateState} (at_ : plateStates[c]? = some o) (s : State) :
    s.baysInState c = (s.bays.filter fun b => decide (b.map Plate.state = o)).length := by
  rw [← List.countP_eq_length_filter]
  refine List.countP_congr fun b _ => ?_
  have code := code_eq_iff at_ (b.map Plate.state)
  cases b with
  | none => simpa [stateCode, eq_comm] using code
  | some p => simpa [stateCode] using code

theorem freeRecords_lt (s : State) : s.freeRecords < 65536 :=
  Nat.lt_of_le_of_lt (Nat.sub_le ..) (by decide)

/-- The place of an inspection entry, empty or not, in the status record (R178). -/
def entryPlace (queue : List InspectionEntry) (k : Nat) : List Byte :=
  match queue[k]? with
  | some e => e.bytes
  | none => beBayKey none

@[simp] theorem entryPlace_length (queue : List InspectionEntry) (k : Nat) : (entryPlace queue k).length = 6 := by
  unfold entryPlace
  cases queue[k]? with
  | none => rfl
  | some e => exact entryBytes_length e

theorem entryPlace_reads {queue : List InspectionEntry} {k : Nat} (field : FieldAt d i (entryPlace queue k)) :
    (queue[k]? = none → BayKeyReads none d i) ∧
    (∀ n, queue[k]? = some (.bay n) → byteAt d i = n % 256 ∧ KeyReads zeroKey d (i + 1)) ∧
    (∀ key, queue[k]? = some (.aborted key) → byteAt d i = 0xFE ∧ KeyReads key d (i + 1)) := by
  unfold entryPlace at field
  refine ⟨fun h => ?_, fun n h => ?_, fun key h => ?_⟩ <;> rw [h] at field
  · exact bayKeyReads_of field
  · obtain ⟨bay, key⟩ := fieldAt_append.1 field
    exact ⟨byteAt_be8 bay, keyReads_of key⟩
  · obtain ⟨mark, key⟩ := fieldAt_append.1 field
    exact ⟨byteAt_be8 mark, keyReads_of key⟩

/-- The settings, the unit address, the bay counts and the two queues, the first part of the status record (R178). -/
def queueBytes (s : State) : List Byte :=
  s.settings.bytes ++ be8 s.link.unitAddr.toNat ++ (List.range 8).flatMap (fun c => be8 (s.baysInState c))
    ++ be8 s.approvalQueue.length ++ (List.range 8).flatMap (fun k => be8 (s.approvalQueue.getD k 0xFF))
    ++ be8 s.inspectionQueue.length ++ (List.range 4).flatMap (entryPlace s.inspectionQueue)

/-- The status record, its first part named: the blocks' own fields follow it (R178). -/
theorem statusRecord_eq (s : State) : s.statusRecord = queueBytes s
    ++ be8 s.intake.queue.length ++ be32 s.charged ++ be16 s.intake.dropped
    ++ be8 s.exposure.state.code ++ beBayKey s.exposure.current ++ be16 s.exposure.passCounter
    ++ beFlag s.exposure.spent ++ beFlag s.exposure.autoHold ++ s.exposure.last.bytes
    ++ be8 s.inspection.work.code ++ be16 s.freeRecords ++ be8 s.store.owed ++ be8 s.link.outstanding.length
    ++ s.link.countBytes := rfl

@[simp] theorem queueBytes_length (s : State) : (queueBytes s).length = 52 := by
  have places := flatMap_length (entryPlace_length s.inspectionQueue) (List.range 4)
  have bays := flatMap_length (fun c => be8_length (s.baysInState c)) (List.range 8)
  have approvals := flatMap_length (fun k => be8_length (s.approvalQueue.getD k 0xFF)) (List.range 8)
  simp only [queueBytes, List.length_append, places, bays, approvals, settingsBytes_length, be8_length, List.length_range]

theorem statusReads (layout : d = s.statusRecord) : StatusReads s d := by
  rw [statusRecord_eq] at layout
  have length := congrArg List.length layout
  have whole := fieldAt_of_eq layout
  simp only [fieldAt_append, List.length_append, be8_length, be16_length, be32_length, beFlag_length, beBayKey_length,
    lastBytes_length, linkCountBytes_length, queueBytes_length, Nat.reduceAdd, and_assoc] at length whole
  obtain ⟨queues, blocks, charged, dropped, exposure, current, pass, spent, autoHold, last, unit, free, owed, outstanding,
    counters⟩ := whole
  simp only [queueBytes, Settings.bytes, fieldAt_append, List.length_append, be8_length, be16_length, beFlag_length,
    flatMap_length (fun _ => be8_length _), List.length_range, Nat.reduceAdd, Nat.reduceMul, and_assoc] at queues
  obtain ⟨bayMode, zoneCode, zoneMask, resolution, mode, pulse, release, unitAddr, bays, approvals, approval, inspections,
    inspection⟩ := queues
  have range {k m : Nat} (lt : k < m) : (List.range m)[k]? = some k := List.getElem?_range lt
  refine ⟨length, ?_, ?_, ?_, ?_, ?_, byteAt_be8 pulse, byteAt_beFlag release, ?_, fun c o at_ => ?_, byteAt_be8 approvals,
    fun k lt => ?_, byteAt_be8 inspections, fun k lt => ?_, byteAt_be8 blocks, u32At_be32 charged, u16At_be16 dropped, ?_,
    bayKeyReads_of current, u16At_be16 pass, byteAt_beFlag spent, byteAt_beFlag autoHold, lastReads_of last, ?_, ?_,
    byteAt_be8 owed, byteAt_be8 outstanding, countersRead_of counters⟩
  · rw [byteAt_be8 bayMode]
    cases s.settings.bayMode <;> rfl
  · rw [u16At_be16 zoneCode]
    exact Nat.mod_eq_of_lt s.settings.zoneCode.isLt
  · rw [u16At_be16 zoneMask]
    exact Nat.mod_eq_of_lt s.settings.zoneMask.isLt
  · rw [byteAt_be8 resolution]
    cases s.settings.resolution <;> rfl
  · rw [byteAt_be8 mode, mode_code]
  · exact byteAt_be8_of_lt (by omega) unitAddr
  · have lt : c < 8 := (List.getElem?_eq_some_iff.1 at_).1
    have field := fieldAt_flatMap (fun _ => be8_length _) bays (range lt)
    rw [Nat.one_mul] at field
    rw [byteAt_be8 field, baysInState_eq at_]
  · have field := fieldAt_flatMap (fun _ => be8_length _) approval (range lt)
    rw [Nat.one_mul] at field
    exact byteAt_be8 field
  · have place := fieldAt_flatMap (entryPlace_length s.inspectionQueue) inspection (range lt)
    rw [show 29 + 6 * k = 28 + 6 * k + 1 by omega]
    exact entryPlace_reads place
  · rw [byteAt_be8 exposure, exposureState_code]
  · rw [byteAt_be8 unit]
    cases s.inspection.work <;> rfl
  · rw [u16At_be16 free]
    exact Nat.mod_eq_of_lt (freeRecords_lt s)

/-! ### The lines record -/

theorem linesRead (layout : d = s.linesRecord) (eight : s.lines.inputs.length = 8) : LinesRead s d := by
  have length := congrArg List.length layout
  have whole := fieldAt_of_eq layout
  simp only [State.linesRecord, Lines.outputSettingBytes, State.outputLevelByte, fieldAt_append, List.length_append, be8_length,
    beSet_length, flatMap_length inputBytes_length, eight, Nat.reduceAdd, Nat.reduceMul, and_assoc] at length whole
  obtain ⟨raw, debounced, reported, flags, settings, o0, o1, o2, o3, levels, pulse⟩ := whole
  refine ⟨length, fun n l here => ?_, fun n l here => ?_, ⟨?_, ?_, ?_, ?_, fun n lt => ?_⟩, ?_⟩
  · have lt : n < 8 := eight ▸ (List.getElem?_eq_some_iff.1 here).1
    have field := fieldAt_flatMap inputBytes_length settings here
    simp only [InputLine.settingBytes, fieldAt_append, List.length_append, be8_length, beFlag_length, Nat.reduceAdd,
      and_assoc] at field
    obtain ⟨debounce, edge, hold, masked⟩ := field
    rw [show 5 + 4 * n = 4 + 4 * n + 1 by omega, show 6 + 4 * n = 4 + 4 * n + 2 by omega,
      show 7 + 4 * n = 4 + 4 * n + 3 by omega]
    refine ⟨testBit_beSet raw (by simp [here]) lt, testBit_beSet debounced (by simp [here]) lt, byteAt_be8 debounce, ?_,
      byteAt_beFlag hold, byteAt_beFlag masked⟩
    rw [byteAt_be8 edge, edge_code]
  · have lt : n < 8 := eight ▸ (List.getElem?_eq_some_iff.1 here).1
    exact ⟨testBit_beSet reported (by simp [here, InputLine.reported]) lt, testBit_beSet flags (by simp [here]) lt⟩
  · rw [byteAt_be8 o0, output_code]
  · rw [byteAt_be8 o1, output_code]
  · rw [byteAt_be8 o2, output_code]
  · rw [byteAt_be8 o3, output_code]
  · exact testBit_beSet levels (by simp [List.getElem?_range lt]) (by omega)
  · rw [byteAt_be8 pulse]
    cases s.lines.pulse with
    | none => rfl
    | some q => cases reject : q.reject <;> simp [reject]

/-! ### Bay notices -/

theorem noticeBody_bay (lt : n < 8) (s : State) : s.noticeBody n = be8 n ++ s.bayReport n := by
  unfold State.noticeBody
  rw [if_pos lt]

theorem noticeBody_free (lt : n < 8) (free : s.plate? n = none) :
    s.noticeBody n = [BitVec.ofNat 8 n, 0] ++ List.replicate 16 0 ++ [0xFF, 0xFF] ++ List.replicate 15 0 := by
  rw [noticeBody_bay lt, State.bayReport, free]
  rfl

theorem noticeBody_resident (lt : n < 8) (resident : s.plate? n = some p) :
    s.noticeBody n = [BitVec.ofNat 8 n, BitVec.ofNat 8 p.state.code] ++ p.summary := by
  rw [noticeBody_bay lt, State.bayReport, resident]
  rfl

/-! ### The reads -/

/-- READ STRIPS that names a plate reaches its rule with that plate (R44). -/
theorem readStrips_names {kind : Byte} (length : body.length = 10) (names : Names body s n p) (slot : Option Nat) :
    ownReadStrips body slot (requested kind tag s) =
      readStripsRule (u16At body 6) (u16At body 8) n p slot (requested kind tag s) := by
  rw [ownReadStrips, fixedBody_of_length length]
  exact plateRequest_names names _ slot requested_settings requested_bays

/-- Settles O23, by the layout of each record and the rule of each read. -/
theorem readsAnswerAndChangeNothing : Obligations.ReadsAnswerAndChangeNothing := by
  intro addr tag s ready
  refine ⟨exec_unchanged ready rfl, ?_, statusReads rfl, linesRead rfl, fun n lt free => noticeBody_free lt free,
    fun body n p names => ?_⟩
  · have same : (requested 21 tag s).linesRecord = s.linesRecord := by rw [requested_frame]; rfl
    refine exec_unchanged ready ?_
    rw [ownReadLines, fixedBody_of_length (body := []) (n := 0) rfl, State.readLines, same]
  have resident := Names.resident names
  have key : KeyOk p.key := by obtain ⟨_, _, ok, _, same⟩ := names; rwa [same]
  have edition : p.key.edition < 256 := by
    obtain ⟨_, _, _, _, same⟩ := names
    rw [same]
    exact (body.getD 1 0).isLt
  have lt : n < 8 := by
    obtain ⟨_, bay, _⟩ := names
    exact Nat.lt_of_lt_of_le bay (by cases s.settings.bayMode <;> decide)
  refine ⟨plateRecordReads rfl key edition (by omega), summaryReads rfl key edition,
    ⟨BitVec.ofNat 8 p.state.code, ?_, noticeBody_resident lt resident⟩, fun length => ?_, fun length held => ?_,
    defectsRead rfl key edition, fun length other => ?_, fun length bad => ?_, fun length first least most => ⟨?_, stripsRead rfl⟩⟩
  · rw [BitVec.toNat_ofNat]
    exact plateState_code p.state
  · exact exec_unchanged ready (plateOwner_names length names readPlateRule _)
  · refine exec_unchanged ready ((plateOwner_names length names readDefectsRule _).trans ?_)
    rw [readDefectsRule, if_pos held]
  · refine exec_unchanged ready ((plateOwner_names length names readDefectsRule _).trans ?_)
    rw [readDefectsRule, if_neg other]
    rfl
  · refine exec_unchanged ready ((readStrips_names length names _).trans ?_)
    rw [readStripsRule, if_pos bad]
    rfl
  · refine exec_unchanged ready ((readStrips_names length names _).trans ?_)
    rw [readStripsRule, if_neg (by omega)]

end Sys2Proof.Proofs
end

section
/-! SUPPORT. Plates that stay in their bays: from one state to the next no plate comes, and no strip of one that stays goes
back to ABSENT. Every operation but OPEN PLATE is such a change (R39, R42, R94). -/

namespace Sys2Proof.Machine

/-! ### Strips that go on -/

/-- From p to q the key is the same and no strip goes back to ABSENT (R39). -/
def Plate.GoesOn (p q : Plate) : Prop :=
  q.key = p.key ∧ ∀ (i : Nat) (r' : StripRecord), q.strips[i]? = some r' →
    ∃ r, p.strips[i]? = some r ∧ (r.state ≠ .absent → r'.state ≠ .absent)

theorem Plate.GoesOn.of_strips {p q : Plate} (key : q.key = p.key) (strips : q.strips = p.strips) : p.GoesOn q :=
  ⟨key, fun _ r' h => ⟨r', strips ▸ h, id⟩⟩

theorem Plate.GoesOn.trans {p q r : Plate} (h : p.GoesOn q) (h' : q.GoesOn r) : p.GoesOn r := by
  obtain ⟨key, strips⟩ := h
  obtain ⟨key', strips'⟩ := h'
  refine ⟨key'.trans key, fun i c hc => ?_⟩
  obtain ⟨b, hb, stays'⟩ := strips' i c hc
  obtain ⟨a, ha, stays⟩ := strips i b hb
  exact ⟨a, ha, stays' ∘ stays⟩

/-- A strip recorded anew is not ABSENT. -/
theorem Plate.goesOn_modStrip (p : Plate) (i : Nat) {f : StripRecord → StripRecord} (h : ∀ r, (f r).state ≠ .absent) :
    p.GoesOn (p.modStrip i f) := by
  refine ⟨rfl, fun j r' hr => ?_⟩
  rw [Plate.modStrip, List.getElem?_set] at hr
  split at hr
  · split at hr
    · rename_i same lt
      subst same
      cases hr
      exact ⟨p.strips[i], List.getElem?_eq_getElem lt, fun _ => h _⟩
    · cases hr
  · exact ⟨r', hr, id⟩

/-- A written strip is GOOD or DAMAGED (R42). -/
theorem StripRecord.written_state (r : StripRecord) (ctx : StripContext) : (r.written ctx).state ≠ .absent := by
  unfold StripRecord.written
  cases ctx.content <;> simp

/-! ### Plates that go on -/

/-- From s to t no plate comes: every plate of t goes on from the one its bay held in s. -/
def State.PlatesGoOn (s t : State) : Prop :=
  ∀ (n : Nat) (q : Plate), t.plate? n = some q → ∃ p, s.plate? n = some p ∧ p.GoesOn q

theorem State.PlatesGoOn.of_bays {s t : State} (h : t.bays = s.bays) : s.PlatesGoOn t :=
  fun n q hq => ⟨q, State.plate?_congr h n ▸ hq, .of_strips rfl rfl⟩

theorem State.PlatesGoOn.refl {s : State} : s.PlatesGoOn s := .of_bays rfl

theorem State.PlatesGoOn.trans {s t u : State} (h : s.PlatesGoOn t) (h' : t.PlatesGoOn u) : s.PlatesGoOn u := by
  intro n r hr
  obtain ⟨q, hq, on'⟩ := h' n r hr
  obtain ⟨p, hp, on⟩ := h n q hq
  exact ⟨p, hp, on.trans on'⟩

/-- Plates go on into a state of the same bay table. -/
theorem State.PlatesGoOn.bays {s t u : State} (h : s.PlatesGoOn t) (same : u.bays = t.bays) : s.PlatesGoOn u :=
  h.trans (.of_bays same)

/-- The plant lines are no part of a plate. -/
theorem State.PlatesGoOn.lines {s t : State} (h : s.PlatesGoOn t) (l : Lines) : s.PlatesGoOn { t with lines := l } :=
  h.bays rfl

/-- With every bay FREE there is no plate to go on. -/
theorem State.PlatesGoOn.of_free {s t : State} (h : ∀ n, t.plate? n = none) : s.PlatesGoOn t := by
  intro n q hq
  rw [h n] at hq
  cases hq

/-- Plates go on over the items of a list. -/
theorem State.PlatesGoOn.foldl {α : Type} (f : State → α → State) (hf : ∀ (s : State) a, s.PlatesGoOn (f s a))
    (l : List α) (s : State) : s.PlatesGoOn (l.foldl f s) := by
  induction l generalizing s with
  | nil => exact .refl
  | cons a l ih => exact (hf s a).trans (ih (f s a))

variable (s : State)

theorem State.goOn_setBay {n : Nat} {p q : Plate} (resident : s.plate? n = some p) (h : p.GoesOn q) :
    s.PlatesGoOn (s.setBay n (some q)) := by
  intro m r hr
  by_cases hm : m = n
  · subst hm
    rw [State.plate?_setBay s (State.plate?_lt resident)] at hr
    cases hr
    exact ⟨p, resident, h⟩
  · rw [State.plate?_setBay_other s hm] at hr
    exact ⟨r, hr, .of_strips rfl rfl⟩

theorem State.goOn_modPlate (n : Nat) (f : Plate → Plate) (h : ∀ p : Plate, p.GoesOn (f p)) :
    s.PlatesGoOn (s.modPlate n f) := by
  cases hp : s.plate? n with
  | none => rw [s.modPlate_none f hp]; exact .refl
  | some p => rw [s.modPlate_some f hp]; exact s.goOn_setBay hp (h p)

/-! ### Freeing, starts and queueing -/

theorem State.goOn_freeBay (n : Nat) : s.PlatesGoOn (s.freeBay n) := by
  cases hp : s.plate? n with
  | none => simp only [State.freeBay, hp]; exact .refl
  | some p =>
    intro m q hq
    rw [State.plate?_freeBay hp] at hq
    split at hq
    · cases hq
    · exact ⟨q, hq, .of_strips rfl rfl⟩

theorem State.goOn_freeBays (ns : List Nat) : s.PlatesGoOn (s.freeBays ns) :=
  .foldl _ (fun u n => u.goOn_freeBay n) ns s

theorem State.goOn_takeStart : s.PlatesGoOn s.takeStart := by
  rcases s.takeStart_cases with h | ⟨n, rest, p, -, resident, h⟩ <;> rw [h]
  · exact .refl
  · exact (s.goOn_setBay (q := { p with state := .exposing }) resident (.of_strips rfl rfl)).bays
      (by simp [State.setBay])

theorem State.goOn_autoEvent : s.PlatesGoOn s.autoEvent := by
  rcases s.autoEvent_cases with h | ⟨-, -, -, h⟩ <;> rw [h]
  · exact .refl
  · exact s.goOn_takeStart

theorem State.goOn_becomeQueued (n : Nat) (atHead : Bool) : s.PlatesGoOn (s.becomeQueued n atHead) := by
  refine .trans ?_ (State.goOn_autoEvent _)
  exact State.goOn_modPlate { s with approvalQueue := _ } n _ fun _ => .of_strips rfl rfl

/-! ### Approvals -/

theorem State.goOn_judgeApproval (n : Nat) (entry : Option Nat) : s.PlatesGoOn (s.judgeApproval n entry).1 := by
  have abandoned : s.PlatesGoOn (s.abandonBay n) := .of_bays rfl
  rcases s.judgeApproval_cases n entry with ⟨r, h⟩ | ⟨p, -, h⟩ | ⟨p, -, -, h⟩ <;> rw [h]
  · exact .refl
  · exact abandoned.trans (State.goOn_becomeQueued _ n _)
  · have approving := (s.abandonBay n).goOn_modPlate n
      (fun p => { p with state := .approving, approveEntry := entry }) fun _ => .of_strips rfl rfl
    exact abandoned.trans (approving.bays (by simp))

theorem State.goOn_judgeHeld (n : Nat) : s.PlatesGoOn (s.judgeHeld n) := by
  rcases s.judgeHeld_judged n with h | ⟨p, k, r, -, -, h⟩ <;> rw [h]
  · exact .refl
  · have clear := s.goOn_modPlate n (fun p => { p with approvalHeld := false, approveEntry := none })
      fun _ => .of_strips rfl rfl
    exact (clear.trans (State.goOn_judgeApproval _ n p.approveEntry)).bays (by simp)

theorem State.goOn_holdApproval (n : Nat) (slot : Option Nat) : s.PlatesGoOn (s.holdApproval n slot) :=
  s.goOn_modPlate n (fun p => { p with approvalHeld := true, approveEntry := slot }) fun _ => .of_strips rfl rfl

/-! ### The decoder and the filler -/

theorem State.goOn_blockTake : s.PlatesGoOn s.blockTake := by
  rcases s.blockTake_cases with h | ⟨b, rest, -, -, h⟩ <;> rw [h]
  · exact .refl
  · rcases State.judgeBlock_cases b { s with intake := { s.intake with queue := rest } } with
      h | ⟨n, p, -, -, -, h⟩ | ⟨n, p, -, -, -, h⟩ <;> rw [h]
    · exact .of_bays rfl
    · exact State.goOn_modPlate { s with intake := { s.intake with queue := rest } } n _ fun _ => .of_strips rfl rfl
    · exact .of_bays (by simp)

theorem State.goOn_completeWrite (takeFirst : Bool) (i : Nat) (ctx : StripContext) :
    s.PlatesGoOn (s.completeWrite takeFirst i ctx) := by
  have recorded : s.PlatesGoOn (State.setBuffer i .free (State.setSource ctx.bay
      (s.modPlate ctx.bay (Plate.modStrip ctx.strip fun r => r.written ctx)))) :=
    (s.goOn_modPlate ctx.bay (Plate.modStrip ctx.strip fun r => r.written ctx) fun p =>
      p.goesOn_modStrip ctx.strip fun r => r.written_state ctx).bays rfl
  unfold State.completeWrite
  dsimp only
  refine recorded.trans ?_
  split
  · exact (State.goOn_blockTake _).trans (State.goOn_judgeHeld _ _)
  · exact (State.goOn_judgeHeld _ _).trans (State.goOn_blockTake _)

theorem State.goOn_stripWriteComplete (takeFirst : Bool) : s.PlatesGoOn (s.stripWriteComplete takeFirst) := by
  unfold State.stripWriteComplete
  split
  · exact .refl
  · split
    · split
      · exact s.goOn_completeWrite takeFirst _ _
      · exact .refl
    · exact .refl

theorem State.goOn_completeFill (n : Nat) (p : Plate) : s.PlatesGoOn (s.completeFill n p) := by
  have clear := s.goOn_modPlate n (fun p => { p with approveEntry := none }) fun _ => .of_strips rfl rfl
  exact (clear.trans (State.goOn_becomeQueued _ n p.replate)).bays (by simp [State.completeFill])

/-- A hatched strip is MISSING, and the fill goes on or its bay becomes QUEUED (R94, R95). -/
theorem State.goOn_completeHatchStrip (f : FillContext) : s.PlatesGoOn (s.completeHatchStrip f) := by
  unfold State.completeHatchStrip
  dsimp only
  refine (s.goOn_modPlate f.bay (Plate.modStrip f.strip fun _ => { StripRecord.fresh with state := .missing })
    fun p => p.goesOn_modStrip f.strip fun _ => by simp).trans ?_
  split
  · exact .of_bays rfl
  · split
    · exact .of_bays (by simp)
    · exact .trans (.of_bays (State.setSource_bays _ _)) (State.goOn_completeFill _ f.bay _)

theorem State.goOn_hatchStripComplete : s.PlatesGoOn s.hatchStripComplete := by
  unfold State.hatchStripComplete
  split
  · split
    · exact s.goOn_completeHatchStrip _
    · exact .refl
  · exact .refl

/-! ### Exposures -/

theorem State.goOn_becomeIdle : s.PlatesGoOn s.becomeIdle := .trans (.of_bays rfl) (State.goOn_autoEvent _)

theorem State.goOn_completeExposure : s.PlatesGoOn s.completeExposure := by
  unfold State.completeExposure
  split
  · exact .refl
  · refine .trans ?_ (State.goOn_becomeIdle _)
    unfold State.bayCompleted
    refine .bays ?_ (State.setSource_bays _ _)
    exact .trans (.of_bays rfl) (State.goOn_modPlate _ _ _ fun _ => .of_strips rfl rfl)

theorem State.goOn_abort (cause : AbortCause) : s.PlatesGoOn (s.abort cause) := by
  unfold State.abort
  split
  · exact .refl
  · refine .trans ?_ (State.goOn_becomeIdle _)
    split
    · unfold State.baySpoiled
      refine .bays ?_ (State.setSource_bays _ _)
      exact .trans (.of_bays rfl) (State.goOn_modPlate _ _ _ fun _ => .of_strips rfl rfl)
    · unfold State.bayReturned
      split
      · exact .trans (.of_bays rfl) (State.goOn_freeBay _ _)
      · exact .trans (.of_bays rfl) (State.goOn_becomeQueued _ _ _)

theorem State.goOn_interlockFall (cause : AbortCause) : s.PlatesGoOn (s.interlockFall cause) := by
  unfold State.interlockFall
  split
  · exact .refl
  · exact s.goOn_abort cause

theorem State.goOn_passClose : s.PlatesGoOn s.passClose := by
  unfold State.passClose State.closePass
  split
  · dsimp only
    split
    · exact .trans (.of_bays rfl) (State.goOn_completeExposure _)
    · exact .of_bays (by simp)
  · exact .refl

theorem State.goOn_nextPass : s.PlatesGoOn s.nextPass := by
  unfold State.nextPass
  split
  · exact s.goOn_abort _
  · dsimp only
    split
    · split
      · exact .of_bays rfl
      · exact s.goOn_abort _
    · exact s.goOn_abort _

theorem State.goOn_drumIndex : s.PlatesGoOn s.drumIndex := by
  unfold State.drumIndex
  refine s.goOn_passClose.trans ?_
  dsimp only
  split
  · exact .of_bays (by simp)
  · exact State.goOn_nextPass _
  · exact .refl

/-! ### Scans -/

theorem State.goOn_endScan (cause : UncheckedCause) : s.PlatesGoOn (s.endScan cause) := by
  cases on : s.inspection.work with
  | idle | calibrating => simp only [State.endScan, on]; exact .refl
  | scanning sc =>
    cases hp : s.plate? sc.bay with
    | none => simp only [State.endScan, on, hp]; exact .of_bays rfl
    | some p =>
      obtain ⟨v, due, bays⟩ := State.endScan_bays cause on hp
      exact (s.goOn_setBay (q := { p with state := .held, verdict := v, autoDue := due }) hp (.of_strips rfl rfl)).bays bays

theorem State.goOn_compareLine {sc : Scan} {p : Plate} (coverage : List Nat) (line : ScanLine) (rest : List ScanLine)
    (resident : s.plate? sc.bay = some p) : s.PlatesGoOn (s.compareLine sc p coverage line rest) := by
  refine (s.goOn_setBay resident ?_).bays (s.compareLine_bays sc p coverage line rest)
  exact .of_strips rfl rfl

theorem State.goOn_compareIfReady : s.PlatesGoOn s.compareIfReady := by
  unfold State.compareIfReady
  split
  · rename_i sc _
    split
    · rename_i line rest y coverage p _ _ resident
      split
      · have compared := s.goOn_compareLine coverage line rest resident
        dsimp only
        split
        · exact compared.bays (by simp)
        · exact compared.trans (State.goOn_endScan _ _)
      · exact .refl
    · exact .refl
  · exact .refl

theorem State.goOn_receiveLine (sc : Scan) (line : ScanLine) : s.PlatesGoOn (s.receiveLine sc line) := by
  have counted : ∀ w, s.PlatesGoOn (s.setWork w) := fun w => .of_bays rfl
  have lagged : s.PlatesGoOn (s.markLagged sc) := .of_bays rfl
  unfold State.receiveLine
  dsimp only
  split
  · exact .refl
  · split
    · split
      · exact (counted _).trans (State.goOn_endScan _ _)
      · exact counted _
    · split
      · exact (counted _).trans (State.goOn_compareIfReady _)
      · split
        · exact lagged.trans (State.goOn_endScan _ _)
        · exact lagged

theorem State.goOn_scanLine (line : ScanLine) : s.PlatesGoOn (s.scanLine line) := by
  unfold State.scanLine
  split
  · exact .refl
  · exact .of_bays (by simp)
  · exact s.goOn_receiveLine _ line

theorem State.goOn_expectedLineFull : s.PlatesGoOn s.expectedLineFull := by
  unfold State.expectedLineFull
  split
  · split
    · split
      · exact .trans (.of_bays (State.setWork_bays _ _)) (State.goOn_compareIfReady _)
      · exact .refl
    · exact .refl
  · exact .refl

theorem State.goOn_judgeScanStart : s.PlatesGoOn s.judgeScanStart := by
  unfold State.judgeScanStart
  split
  · dsimp only
    refine .trans ?_ (State.goOn_autoEvent _)
    split
    · rename_i p resident
      exact (State.goOn_setBay _ (q := { p with state := .inspecting }) resident (.of_strips rfl rfl)).bays
        (by simp [State.bindScan])
    · exact .of_bays rfl
  · exact .trans (.of_bays rfl) (State.goOn_autoEvent _)
  · exact .of_bays rfl

theorem State.goOn_scanStart : s.PlatesGoOn s.scanStart := by
  refine .trans ?_ (State.goOn_judgeScanStart _)
  split
  · exact .refl
  · exact .of_bays (by simp)
  · exact s.goOn_endScan _

theorem State.goOn_plateClear : s.PlatesGoOn s.plateClear := by
  unfold State.plateClear
  split
  · split
    · exact s.goOn_endScan _
    · exact .refl
  · exact .refl

/-! ### Plant lines -/

theorem State.goOn_reportEdge (n : Nat) (level : Bool) : s.PlatesGoOn (s.reportEdge n level) := by
  unfold State.reportEdge
  split
  · exact s.goOn_interlockFall _
  · exact .trans (.of_bays (by simp)) (State.goOn_interlockFall _ _)
  · exact s.goOn_autoEvent
  · exact s.goOn_interlockFall _
  · exact s.goOn_scanStart
  · exact s.goOn_plateClear
  · exact .refl

theorem State.goOn_takeEdge (n : Nat) : s.PlatesGoOn (s.takeEdge n) := by
  unfold State.takeEdge
  dsimp only
  split
  · exact .of_bays rfl
  · exact (State.PlatesGoOn.trans (.of_bays (State.setInput_bays ..)) (State.goOn_reportEdge _ _ _)).bays
      (State.markEdge_bays ..)

theorem State.goOn_inputEdge (n : Nat) : s.PlatesGoOn (s.inputEdge n) := by
  unfold State.inputEdge
  split
  · exact s.goOn_takeEdge n
  · exact .refl

theorem State.goOn_takeDueEdges : s.PlatesGoOn s.takeDueEdges := .foldl _ (fun u n => u.goOn_inputEdge n) _ s

theorem State.goOn_lineTick : s.PlatesGoOn s.lineTick := s.goOn_takeDueEdges.lines _

theorem State.goOn_rawLevelChange (n : Nat) (level : Bool) : s.PlatesGoOn (s.rawLevelChange n level) := by
  unfold State.rawLevelChange
  dsimp only
  have changed := (s.goOn_inputEdge n).bays (State.setInput_bays _ n { (s.inputEdge n).input n with raw := level })
  split
  · exact changed.trans (State.goOn_takeEdge _ n)
  · exact changed

theorem State.goOn_takeUndebounced : s.PlatesGoOn s.takeUndebounced := by
  refine State.PlatesGoOn.foldl _ (fun u n => ?_) _ s
  split
  · exact u.goOn_takeEdge n
  · exact .refl

theorem State.goOn_setLines (body : List Byte) : s.PlatesGoOn (s.setLines body).1 := by
  unfold State.setLines
  split
  · dsimp only [done]
    exact (s.goOn_takeDueEdges.lines (s.takeDueEdges.lines.withSettings body)).trans (State.goOn_takeUndebounced _)
  · exact .refl

/-! ### Resets and sends -/

theorem State.goOn_fullReset (kind : ResetKind) (straps : BitVec 2) : s.PlatesGoOn (s.fullReset kind straps) :=
  .of_free (State.plate?_replicate (k := 8) rfl)

theorem State.goOn_clearPlates : s.PlatesGoOn s.clearPlates :=
  .of_free (State.plate?_replicate (k := s.bays.length) (List.map_const' ..))

@[simp] theorem State.answerPlateWork_bays (approvals : List Nat) (calibration : Option Nat) :
    (s.answerPlateWork approvals calibration).bays = s.bays := by
  unfold State.answerPlateWork
  generalize s.link.outstanding = es
  induction es generalizing s with
  | nil => rfl
  | cons e es ih =>
    rw [List.foldl_cons, ih]
    split
    · simp
    · split <;> simp

theorem State.goOn_resetPlates : s.PlatesGoOn s.resetPlates := by
  unfold State.resetPlates
  extract_lets u cleared cleared'
  have phase : s.PlatesGoOn u := by
    simp only [u]
    split
    · split
      · exact .of_bays (by simp)
      · exact .refl
    · exact .refl
  have freed : u.PlatesGoOn cleared := u.goOn_clearPlates.bays (State.answerPlateWork_bays _ _ _)
  have marked : cleared'.bays = cleared.bays := by
    simp only [cleared']
    split <;> rfl
  exact phase.trans (freed.bays marked)

theorem State.goOn_answerSent : s.PlatesGoOn s.answerSent := by
  unfold State.answerSent
  split
  · split
    · exact s.goOn_fullReset _ _
    · exact .of_bays (by simp)
  · exact .refl

theorem State.goOn_noticeSent : s.PlatesGoOn s.noticeSent := by
  unfold State.noticeSent State.noticeReported
  split
  · refine .bays ?_ (State.transmit_bays _)
    split
    · exact .trans (.of_bays rfl) (State.goOn_freeBay _ _)
    · exact .of_bays rfl
  · exact .refl

end Sys2Proof.Machine
end

section
/-! SUPPORT. The owners of requests: each lets every plate go on but OPEN PLATE's, which fills a bay with a plate of a key
that no bay carries (R5, R39). -/

namespace Sys2Proof.Machine

variable (s : State)

/-! ### Owners that open no plate -/

/-- What the owner does lets every plate go on, for every entry and state. -/
def Owner.GoesOn (owner : Owner) : Prop := ∀ (slot : Option Nat) (s : State), s.PlatesGoOn (owner slot s).1

/-- An owner that leaves the bay table alone. -/
theorem Owner.GoesOn.of_bays {owner : Owner} (h : ∀ slot s, (owner slot s).1.bays = s.bays) : owner.GoesOn :=
  fun slot s => .of_bays (h slot s)

theorem fixedBody_goesOn (n : Nat) (body : List Byte) {owner : Owner} (h : owner.GoesOn) :
    (fixedBody n body owner).GoesOn := by
  intro slot s
  unfold fixedBody
  split
  · exact h slot s
  · exact .refl

theorem plateRequest_goesOn (body : List Byte) {rule : Nat → Plate → Owner} (h : ∀ n p, (rule n p).GoesOn) :
    (plateRequest body rule).GoesOn := by
  intro slot s
  unfold plateRequest
  split
  · exact .refl
  · exact h _ _ slot s

theorem ownConfigure_goesOn (body : List Byte) : (ownConfigure body).GoesOn := by
  refine fixedBody_goesOn 9 body fun slot s => ?_
  unfold State.configure
  split
  · exact .refl
  · rename_i c _
    split
    · obtain ⟨bays, link, h, -, ⟨same, -⟩ | free⟩ := s.configured_frame c
      · exact .of_bays (by rw [done, h, same])
      · exact .of_free (State.plate?_replicate (by rw [done, h, free]))
    · exact .refl

theorem ownReset_goesOn (body : List Byte) : (ownReset body).GoesOn := by
  refine fixedBody_goesOn 1 body fun slot s => ?_
  unfold resetRule
  split
  · split
    · exact .of_bays rfl
    · exact s.goOn_fullReset _ _
  · exact s.goOn_resetPlates
  · exact .refl

theorem ownStripBlock_goesOn (body : List Byte) : (ownStripBlock body).GoesOn := by
  intro slot s
  unfold ownStripBlock State.stripBlock
  split
  · exact .refl
  · rename_i b _
    split
    · show s.PlatesGoOn (s.countForeign b)
      rcases s.countForeign_cases b with h | ⟨n, h⟩ <;> rw [h]
      · exact .refl
      · exact s.goOn_modPlate n _ fun _ => .of_strips rfl rfl
    · refine .of_bays ?_
      unfold State.placeBlock State.admitBlock
      (repeat' split) <;> rfl

theorem ownApprovePlate_goesOn (body : List Byte) : (ownApprovePlate body).GoesOn := by
  refine fixedBody_goesOn 6 body (plateRequest_goesOn body fun n p slot s => ?_)
  unfold approveRule
  split
  · exact .refl
  · split
    · exact .refl
    · split
      · exact s.goOn_holdApproval n slot
      · exact s.goOn_judgeApproval n slot

theorem ownReleasePlate_goesOn (body : List Byte) : (ownReleasePlate body).GoesOn := by
  refine fixedBody_goesOn 6 body (plateRequest_goesOn body fun n p slot s => ?_)
  unfold releaseRule
  cases p.state with
  | filling | approving | queued | held => exact s.goOn_freeBay n
  | exposing | exposed | inspecting => exact .refl

theorem ownPriorityPlate_goesOn (body : List Byte) : (ownPriorityPlate body).GoesOn := by
  refine fixedBody_goesOn 6 body (plateRequest_goesOn body fun n p => .of_bays fun slot s => ?_)
  unfold priorityRule
  split <;> rfl

theorem ownReexposePlate_goesOn (body : List Byte) : (ownReexposePlate body).GoesOn := by
  refine fixedBody_goesOn 6 body (plateRequest_goesOn body fun n p slot s => ?_)
  unfold reexposeRule
  split
  · exact .refl
  · split
    · exact .refl
    · exact (s.goOn_modPlate n Plate.forReexposure fun _ => .of_strips rfl rfl).trans (State.goOn_becomeQueued _ n false)

theorem ownReadStrips_goesOn (body : List Byte) : (ownReadStrips body).GoesOn := by
  refine fixedBody_goesOn 10 body (plateRequest_goesOn body fun n p => .of_bays fun slot s => ?_)
  unfold readStripsRule
  split <;> rfl

theorem ownReadDefects_goesOn (body : List Byte) : (ownReadDefects body).GoesOn := by
  refine fixedBody_goesOn 6 body (plateRequest_goesOn body fun n p => .of_bays fun slot s => ?_)
  unfold readDefectsRule
  split <;> rfl

theorem ownLoadScreen_goesOn (body : List Byte) : (ownLoadScreen body).GoesOn := by
  refine .of_bays fun slot s => ?_
  unfold ownLoadScreen State.loadScreen
  (repeat' split) <;> rfl

theorem ownLoadCurve_goesOn (body : List Byte) : (ownLoadCurve body).GoesOn := by
  refine .of_bays fun slot s => ?_
  unfold ownLoadCurve State.loadCurve
  (repeat' split) <;> rfl

theorem ownSetSkew_goesOn (body : List Byte) : (ownSetSkew body).GoesOn := by
  refine .of_bays fun slot s => ?_
  unfold ownSetSkew State.setSkew
  (repeat' split) <;> rfl

theorem ownStartExposure_goesOn (body : List Byte) : (ownStartExposure body).GoesOn := by
  refine fixedBody_goesOn 0 body fun slot s => ?_
  unfold State.startExposure
  split
  · exact .refl
  · split
    · exact .trans (.of_bays (State.onExposure_bays ..)) (State.goOn_takeStart _)
    · exact .refl

theorem ownAbortExposure_goesOn (body : List Byte) : (ownAbortExposure body).GoesOn := by
  refine fixedBody_goesOn 6 body fun slot s => ?_
  unfold State.abortExposure
  split
  · exact .refl
  · split
    · exact .trans (.of_bays (State.onExposure_bays ..)) (State.goOn_abort _ _)
    · exact .refl

theorem ownCalibrateScanner_goesOn (body : List Byte) : (ownCalibrateScanner body).GoesOn := by
  refine fixedBody_goesOn 1 body (.of_bays fun slot s => ?_)
  unfold calibrateRule
  (repeat' split) <;> rfl

theorem ownSetInspection_goesOn (body : List Byte) : (ownSetInspection body).GoesOn := by
  refine .of_bays fun slot s => ?_
  unfold ownSetInspection State.setInspection
  split <;> rfl

/-- The owner of any request but OPEN PLATE lets every plate go on. -/
theorem ownerOf_goesOn {kind : Byte} (body : List Byte) (other : kind.toNat ≠ 4) : (ownerOf kind body).GoesOn := by
  unfold ownerOf
  split
  · exact ownConfigure_goesOn body
  · exact fixedBody_goesOn 0 body fun _ _ => .refl
  · exact ownReset_goesOn body
  · rename_i h; exact absurd h other
  · exact ownStripBlock_goesOn body
  · exact ownApprovePlate_goesOn body
  · exact ownReleasePlate_goesOn body
  · exact ownPriorityPlate_goesOn body
  · exact ownReexposePlate_goesOn body
  · exact fixedBody_goesOn 6 body (plateRequest_goesOn body fun _ _ _ _ => .refl)
  · exact ownReadStrips_goesOn body
  · exact ownReadDefects_goesOn body
  · exact ownLoadScreen_goesOn body
  · exact ownLoadCurve_goesOn body
  · exact ownSetSkew_goesOn body
  · exact ownStartExposure_goesOn body
  · exact ownAbortExposure_goesOn body
  · exact ownCalibrateScanner_goesOn body
  · exact ownSetInspection_goesOn body
  · exact fun _ s => s.goOn_setLines body
  · exact fixedBody_goesOn 0 body fun _ _ => .refl
  · exact fixedBody_goesOn 1 body fun _ _ => .of_bays rfl
  · exact fun _ _ => .refl

end Sys2Proof.Machine
end

section
/-! CLAIMS SETTLED. No strip of a plate that stays in its bay goes back to ABSENT (R39). -/

namespace Sys2Proof.Proofs

open Sys2Proof.Machine Sys2Proof.Claims

variable {s t u v : State} {addr kind tag : Byte} {body : List Byte}

/-! ### Strips kept -/

/-- The strips of plates that go on are kept. -/
theorem stripsKept_of_goOn (h : s.PlatesGoOn t) : StripsKept s t := by
  intro n i p p' r r' hp hp' _ hr hr' decoded
  obtain ⟨q, hq, _, strips⟩ := h n p' hp'
  obtain rfl : p = q := Option.some.inj (hp.symm.trans hq)
  obtain ⟨r₀, hr₀, stays⟩ := strips i r' hr'
  obtain rfl : r = r₀ := Option.some.inj (hr.symm.trans hr₀)
  exact stays decoded

/-- Only the bay tables count. -/
theorem stripsKept_congr (before : s.bays = u.bays) (after : t.bays = v.bays) (h : StripsKept u v) : StripsKept s t := by
  intro n i p p' r r' hp hp'
  rw [State.plate?_congr before] at hp
  rw [State.plate?_congr after] at hp'
  exact h n i p p' r r' hp hp'

/-- OPEN PLATE fills a bay with a plate of a key that no bay carried, and the strips of the others are kept (R5). -/
theorem openPlate_stripsKept (f : OpenFields) (s : State) : StripsKept s (s.openPlate f).1 := by
  rcases s.openPlate_cases f with ⟨r, h⟩ | ⟨m, fresh, -, -, h⟩ <;> rw [h]
  · exact stripsKept_of_goOn .refl
  · have freed := s.goOn_freeBays (s.withdrawals f.key)
    have opened : ∀ n, ((s.freeBays (s.withdrawals f.key)).fillBay m (f.plate (s.hasPredecessor f.key))).1.plate? n =
        ((s.freeBays (s.withdrawals f.key)).setBay m (some (f.plate (s.hasPredecessor f.key)))).plate? n :=
      State.plate?_congr rfl
    intro n i p p' r r' hp hp' key
    rw [opened] at hp'
    by_cases here : n = m
    · subst here
      have lt := State.plate?_lt hp'
      rw [State.plate?_setBay _ (by simpa [State.setBay] using lt)] at hp'
      cases hp'
      have unused : s.findPlate f.key = none := by simpa using fresh
      exact absurd key.symm (State.findPlate_none unused hp)
    · rw [State.plate?_setBay_other _ here] at hp'
      exact stripsKept_of_goOn freed n i p p' r r' hp hp' key

/-- The owner of any request keeps the strips. -/
theorem ownerOf_stripsKept (kind : Byte) (body : List Byte) (slot : Option Nat) (s : State) :
    StripsKept s (ownerOf kind body slot s).1 := by
  by_cases h : kind.toNat = 4
  · obtain rfl : kind = 4 := BitVec.eq_of_toNat_eq h
    show StripsKept s (fixedBody 12 body (fun _ s => s.openPlate (openFields body)) slot s).1
    unfold fixedBody
    split
    · exact openPlate_stripsKept _ s
    · exact stripsKept_of_goOn .refl
  · exact stripsKept_of_goOn (ownerOf_goesOn body h slot s)

/-! ### Frames and characters -/

@[simp] theorem deliver_bays (slot : Nat) (x : State × Option Reply) : (deliver slot x).bays = x.1.bays := by
  obtain ⟨t, _ | r⟩ := x
  · rfl
  · exact State.answer_bays t slot r

/-- A request keeps the strips: its entry and its answer are no part of a plate. -/
theorem request_stripsKept (kind tag : Byte) (body : List Byte) (s : State) :
    StripsKept s (s.request kind tag (ownerOf kind body)) := by
  unfold State.request
  split
  · refine stripsKept_congr ?_ (deliver_bays _ _) (ownerOf_stripsKept kind body _ _)
    rfl
  · exact stripsKept_of_goOn (.of_bays (s.refuseBusy_bays kind tag))

theorem takeFrame_stripsKept (addr kind tag : Byte) (body : List Byte) (s : State) :
    StripsKept s (s.takeFrame addr kind tag (ownerOf kind body)) := by
  unfold State.takeFrame
  split
  · exact request_stripsKept kind tag body s
  · split
    · exact ownerOf_stripsKept kind body none s
    · exact stripsKept_of_goOn .refl

theorem judgeFrame_stripsKept (addr kind tag : Byte) (body : List Byte) (check : BitVec 16) (s : State) :
    StripsKept s (s.judgeFrame addr kind tag body check) := by
  unfold State.judgeFrame
  split
  · exact stripsKept_of_goOn (.of_bays rfl)
  · split
    · exact stripsKept_congr s.hunt_bays.symm rfl (takeFrame_stripsKept addr kind tag body s.hunt)
    · exact stripsKept_of_goOn (.of_bays rfl)

theorem takeCharacter_stripsKept (c : Byte) (s : State) : StripsKept s (s.takeCharacter c) := by
  unfold State.takeCharacter
  split
  · split
    · exact stripsKept_of_goOn (.of_bays rfl)
    · exact stripsKept_of_goOn .refl
  · unfold State.joinCharacter
    split
    · exact judgeFrame_stripsKept _ _ _ _ _ s
    · exact stripsKept_of_goOn (.of_bays rfl)

/-- A frame that comes in HUNTING is the only one of its step. -/
theorem receive_stripsKept (hunting : s.link.receiver = .hunting) :
    StripsKept s (s.receive addr kind tag body (ownerOf kind body)) := by
  simp only [State.receive, hunting, Receiver.admits, if_true]
  split
  · exact stripsKept_of_goOn (.of_bays rfl)
  · exact stripsKept_congr s.hunt_bays.symm rfl (takeFrame_stripsKept addr kind tag body s.hunt)

theorem endFrame_stripsKept (check : BitVec 16) (hunting : s.link.receiver = .hunting) :
    StripsKept s (s.endFrame addr kind tag body check) := by
  simp only [State.endFrame, hunting, Receiver.admits, if_true]
  exact judgeFrame_stripsKept addr kind tag body check s

/-! ### Steps -/

/-- The transmitter's choice, made first, is no part of a plate. -/
theorem run_stripsKept {f : State → State} (h : StripsKept s.transmit (f s.transmit)) (ht : run f s = .next t) :
    StripsKept s t := by
  cases ht
  exact stripsKept_congr s.transmit_bays.symm rfl h

/-- A command of one frame at most keeps the strips. -/
theorem exec_stripsKept (c : Instr) (one : s.link.receiver = .hunting ∨ isFrame c = false) (h : exec c s = .next t) :
    StripsKept s t := by
  have hunting : isFrame c = true → s.transmit.link.receiver = .hunting := fun hf => by
    rcases one with hr | hn
    · simpa using hr
    · rw [hf] at hn; cases hn
  have frame : ∀ addr kind tag body, isFrame c = true →
      run (State.receive addr kind tag body (ownerOf kind body)) s = .next t → StripsKept s t :=
    fun addr kind tag body hf => run_stripsKept (receive_stripsKept (hunting hf))
  have event : ∀ {f : State → State}, (∀ u : State, u.PlatesGoOn (f u)) → run f s = .next t → StripsKept s t :=
    fun hf => run_stripsKept (stripsKept_of_goOn (hf _))
  cases c with
  | configure addr tag body => exact frame addr 0x01 tag body rfl h
  | readStatus addr tag body => exact frame addr 0x02 tag body rfl h
  | resetFull addr tag body => exact frame addr 0x03 tag body rfl h
  | resetPlates addr tag body => exact frame addr 0x03 tag body rfl h
  | openPlate addr tag body => exact frame addr 0x04 tag body rfl h
  | stripBlock addr tag body => exact frame addr 0x05 tag body rfl h
  | approvePlate addr tag body => exact frame addr 0x06 tag body rfl h
  | releasePlate addr tag body => exact frame addr 0x07 tag body rfl h
  | priorityPlate addr tag body => exact frame addr 0x08 tag body rfl h
  | reexposePlate addr tag body => exact frame addr 0x09 tag body rfl h
  | readPlate addr tag body => exact frame addr 0x0A tag body rfl h
  | readStrips addr tag body => exact frame addr 0x0B tag body rfl h
  | readDefects addr tag body => exact frame addr 0x0C tag body rfl h
  | loadScreen addr tag body => exact frame addr 0x0D tag body rfl h
  | loadCurve addr tag body => exact frame addr 0x0E tag body rfl h
  | setSkew addr tag body => exact frame addr 0x0F tag body rfl h
  | startExposure addr tag body => exact frame addr 0x10 tag body rfl h
  | abortExposure addr tag body => exact frame addr 0x11 tag body rfl h
  | calibrateScanner addr tag body => exact frame addr 0x12 tag body rfl h
  | setInspection addr tag body => exact frame addr 0x13 tag body rfl h
  | setLines addr tag body => exact frame addr 0x14 tag body rfl h
  | readLines addr tag body => exact frame addr 0x15 tag body rfl h
  | clearLineEvents addr tag body => exact frame addr 0x16 tag body rfl h
  | unknownKind addr kind tag body => exact frame addr kind tag body rfl h
  | ignoredFrame addr kind tag body => exact frame addr kind tag body rfl h
  | frameCheckFailed addr kind tag body check => exact run_stripsKept (endFrame_stripsKept check (hunting rfl)) h
  | startCharacter character => exact run_stripsKept (takeCharacter_stripsKept character _) h
  | frameGapTimeout => exact event (fun u => .of_bays (by unfold State.gap; split <;> rfl)) h
  | answerSent => exact event State.goOn_answerSent h
  | noticeSent => exact event State.goOn_noticeSent h
  | hardwareReset straps => exact event (fun u => u.goOn_fullReset _ _) h
  | lineTick => exact event State.goOn_lineTick h
  | rawLevelChange line level => exact event (fun u => u.goOn_rawLevelChange line level) h
  | inputEdge line => exact event (fun u => u.goOn_inputEdge line) h
  | burstComplete grantFirst =>
    change execBurstComplete grantFirst s = .next t at h
    unfold execBurstComplete at h
    split at h
    · split at h
      · exact event (fun u => .of_bays (u.completeBurst_bays grantFirst _ _ _)) h
      · cases h
    · exact event (fun _ => .refl) h
  | blockTake => exact event State.goOn_blockTake h
  | decodeEnd => exact event (fun u => .of_bays u.decodeEnd_bays) h
  | windowApplied => exact event (fun u => .of_bays u.windowApplied_bays) h
  | stripWriteStart => exact event (fun u => .of_bays u.stripWriteStart_bays) h
  | stripWriteComplete takeFirst => exact event (fun u => u.goOn_stripWriteComplete takeFirst) h
  | hatchStripComplete => exact event State.goOn_hatchStripComplete h
  | passFetchComplete => exact event (fun u => .of_bays u.passFetchComplete_bays) h
  | drumIndex => exact event State.goOn_drumIndex h
  | passClose => exact event State.goOn_passClose h
  | scanLine samples => exact event (fun u => u.goOn_scanLine samples) h
  | darkCalibrationDone => exact event (fun u => .of_bays u.darkCalibrationDone_bays) h
  | whiteCalibrationDone => exact event (fun u => .of_bays u.whiteCalibrationDone_bays) h
  | expectedLineFull => exact event State.goOn_expectedLineFull h
  | dotClockPulse => exact event (fun u => .of_bays u.dotClock_bays) h
  | diverterPulseEnd => exact event (fun u => .of_bays u.diverterPulseEnd_bays) h
  | refreshTimer => exact event (fun u => .of_bays (u.onStore_bays Store.refreshTimer)) h
  | refreshComplete => exact event (fun u => .of_bays (u.onStore_bays Store.refreshComplete)) h

/-- Settles O60: OPEN PLATE alone brings plates, of keys that no bay carried, and a step of one frame at most opens one
at most; every other change lets the strips go on. -/
theorem stripsNeverReturnToAbsent : Obligations.StripsNeverReturnToAbsent := by
  refine ⟨fun s t one h => ?_, takeCharacter_stripsKept⟩
  unfold step at h
  split at h
  · cases h
    exact stripsKept_of_goOn .refl
  · rename_i c rest waiting
    have one' := one.imp id fun noFrame => noFrame c (by simp [waiting])
    exact stripsKept_congr (u := { s with pending := rest }) rfl rfl (exec_stripsKept c one' h)

end Sys2Proof.Proofs
end

section
/-! SUPPORT. The bay that carries a plate key (R3, R30, R31, R38). -/

namespace Sys2Proof.Proofs

open Sys2Proof.Machine

variable {s u : State} {key : PlateKey} {n : Nat} {p : Plate}

/-- A key that no plate carries is found in no bay. -/
theorem findPlate_of_unused (unused : ∀ n p, s.plate? n = some p → p.key ≠ key) : s.findPlate key = none := by
  cases h : s.findPlate key with
  | none => rfl
  | some m =>
    obtain ⟨n, p, hp, hk⟩ := (findPlate_isSome_iff key).1 (by rw [h]; rfl)
    exact absurd hk (unused n p hp)

/-- A bay found for a key holds a plate of it. -/
theorem plate_of_findPlate (found : s.findPlate key = some n) : ∃ p, s.plate? n = some p ∧ p.key = key := by
  have carries := List.find?_some found
  simpa [Option.any_eq_true] using carries

/-- A key that one bay alone carries is found there. -/
theorem findPlate_of_unique (resident : s.plate? n = some p) (carries : p.key = key)
    (unique : ∀ m q, s.plate? m = some q → q.key = key → m = n) : s.findPlate key = some n := by
  obtain ⟨m, found⟩ := Option.isSome_iff_exists.1 ((findPlate_isSome_iff key).2 ⟨n, p, resident, carries⟩)
  obtain ⟨q, hq, hk⟩ := plate_of_findPlate found
  rw [found, unique m q hq hk]

theorem findPlate_congr (h : u.bays = s.bays) (key : PlateKey) : u.findPlate key = s.findPlate key := by
  have plates : u.plate? = s.plate? := funext (State.plate?_congr h)
  unfold State.findPlate State.bayNumbers
  rw [plates, h]

end Sys2Proof.Proofs
end

section
/-! CLAIMS SETTLED. The admission of a STRIP BLOCK (R29 to R33). -/

namespace Sys2Proof.Proofs

open Sys2Proof.Machine Sys2Proof.Claims

variable {addr kind tag : Byte} {body : List Byte} {s u : State} {b : Block} {n : Nat} {p : Plate}

/-! ### Block headers (R28, R29) -/

/-- The header of a block body passes its own checks (R29). -/
def SoundHeader (body : List Byte) : Prop :=
  19 ≤ body.length ∧ crc16 (body.take 17) = BitVec.ofNat 16 (u16At body 17) ∧ byteAt body 7 ≤ 1

/-- The block that a body with a sound header carries (section 10.9). -/
def bodyBlock (body : List Byte) : Block :=
  { key := keyAt body 0, strip := u16At body 5, zone := if byteAt body 7 = 0 then .common else .variant,
    zoneCode := BitVec.ofNat 16 (u16At body 8), windows := byteAt body 10, codeLength := u16At body 11,
    bodyCheck := BitVec.ofNat 32 (u32At body 13), headerCheck := BitVec.ofNat 16 (u16At body 17), body := body.drop 19 }

theorem blockOf_sound (sound : SoundHeader body) : blockOf body = some (bodyBlock body) := by
  obtain ⟨length, check, zone⟩ := sound
  unfold blockOf
  rw [if_neg (by simpa [Config.headerBytes] using length)]
  dsimp only
  rw [if_neg (by simpa using check)]
  rcases Nat.le_one_iff_eq_zero_or_eq_one.1 zone with h | h <;> simp [h, bodyBlock, Config.headerBytes]

theorem blockOf_unsound (unsound : ¬ SoundHeader body) : blockOf body = none := by
  unfold blockOf
  split
  · rfl
  · rename_i length
    dsimp only
    split
    · rfl
    · rename_i check
      have zone : ¬ byteAt body 7 ≤ 1 := fun zone => unsound ⟨not_lt.1 length, not_not.1 check, zone⟩
      split
      · omega
      · omega
      · rfl

/-- The zone test refuses a VARIANT whose code differs from the plant's under the mask (R30). -/
theorem foreignZone_iff : u.foreignZone (bodyBlock body) = true ↔ byteAt body 7 ≠ 0 ∧
    (BitVec.ofNat 16 (u16At body 8) ^^^ u.settings.zoneCode) &&& u.settings.zoneMask ≠ 0 := by
  by_cases h : byteAt body 7 = 0 <;> simp [State.foreignZone, bodyBlock, h]

/-! ### The owner's judgement -/

/-- A body whose header cannot be trusted is refused BAD BLOCK (R29). -/
theorem stripBlock_unsound (unsound : ¬ SoundHeader body) : u.stripBlock body = (u, some (only .badBlock)) := by
  unfold State.stripBlock
  rw [blockOf_unsound unsound]
  rfl

theorem stripBlock_foreign (sound : SoundHeader body) (foreign : u.foreignZone (bodyBlock body) = true) :
    u.stripBlock body = (u.countForeign (bodyBlock body), some (only .notForZone)) := by
  unfold State.stripBlock
  simp only [blockOf_sound sound, foreign, if_true]
  rfl

theorem stripBlock_placed (sound : SoundHeader body) (own : u.foreignZone (bodyBlock body) = false) :
    u.stripBlock body = u.placeBlock (bodyBlock body) := by
  unfold State.stripBlock
  simp only [blockOf_sound sound, own, Bool.false_eq_true, if_false]

/-- A foreign block of no resident plate is counted nowhere (R30). -/
theorem countForeign_unused (found : u.findPlate b.key = none) : u.countForeign b = u := by
  unfold State.countForeign
  rw [found]

theorem countForeign_resident (found : u.findPlate b.key = some n) (resident : u.plate? n = some p) :
    u.countForeign b = u.setBay n (some { p with zoneIgnored := min (p.zoneIgnored + 1) 65535 }) := by
  unfold State.countForeign
  rw [found]
  exact State.modPlate_some _ resident

/-- A block of no resident plate is refused (R31). -/
theorem placeBlock_unused (found : u.findPlate b.key = none) : u.placeBlock b = (u, some (only .noSuchPlate)) := by
  unfold State.placeBlock
  rw [found]
  rfl

theorem placeBlock_late (found : u.findPlate b.key = some n) (resident : u.plate? n = some p) (late : p.state ≠ .filling) :
    u.placeBlock b = (u, some (only .late)) := by
  unfold State.placeBlock
  rw [found, Option.bind_some, resident]
  exact if_neg late

theorem placeBlock_filling (found : u.findPlate b.key = some n) (resident : u.plate? n = some p)
    (filling : p.state = .filling) : u.placeBlock b = u.admitBlock b p := by
  unfold State.placeBlock
  rw [found, Option.bind_some, resident]
  exact if_pos filling

theorem noRoom_iff : u.noRoom b = true ↔ 32 ≤ u.intake.queue.length ∨ 262144 < u.charged + b.body.length := by
  rw [State.noRoom, Bool.or_eq_true, decide_eq_true_iff, decide_eq_true_iff]
  rfl

/-- A strip index or window count out of range (R32). -/
theorem admitBlock_badField (bad : p.strips.length ≤ b.strip ∨ 16 < b.windows) :
    u.admitBlock b p = (u, some (only .badField)) := by
  unfold State.admitBlock
  rw [if_pos bad]
  rfl

theorem admitBlock_queueFull (strip : b.strip < p.strips.length) (windows : b.windows ≤ 16) (full : u.noRoom b = true) :
    u.admitBlock b p = (u, some (only .queueFull)) := by
  unfold State.admitBlock
  rw [if_neg (by omega), if_pos full]
  rfl

theorem admitBlock_accepted (strip : b.strip < p.strips.length) (windows : b.windows ≤ 16) (room : u.noRoom b = false) :
    u.admitBlock b p =
      ({ u with intake := { u.intake with queue := u.intake.queue ++ [b] } }, some (only .accepted)) := by
  unfold State.admitBlock
  rw [if_neg (by omega), if_neg (by simp [room])]
  rfl

/-! ### STRIP BLOCK -/

/-- Settles O16, check by check. -/
theorem stripBlockAdmissionInOrder : Obligations.StripBlockAdmissionInOrder := by
  intro addr tag body s ready key sound foreign bare
  have unchanged : ∀ {st : Status}, (requested 5 tag s).stripBlock body = (requested 5 tag s, some (only st)) →
      exec (.stripBlock addr tag body) s = .next (bare st) := exec_unchanged (owner := ownStripBlock body) ready
  have found : ∀ {n p}, s.plate? n = some p → p.key = key → (∀ m q, s.plate? m = some q → q.key = key → m = n) →
      (requested 5 tag s).findPlate (bodyBlock body).key = some n := fun resident carries unique =>
    (findPlate_congr requested_bays _).trans (findPlate_of_unique resident carries unique)
  have unused : (∀ n p, s.plate? n = some p → p.key ≠ key) →
      (requested 5 tag s).findPlate (bodyBlock body).key = none := fun h =>
    (findPlate_congr requested_bays _).trans (findPlate_of_unused h)
  have zone : sound → ((requested 5 tag s).foreignZone (bodyBlock body) = true ↔ foreign) := fun hs => by
    obtain ⟨_, _, kind⟩ := hs
    rw [foreignZone_iff, requested_settings]
    exact and_congr_left' (by omega)
  have placed : sound → ¬ foreign →
      (requested 5 tag s).stripBlock body = (requested 5 tag s).placeBlock (bodyBlock body) := fun hs own =>
    stripBlock_placed hs (Bool.eq_false_iff.2 (own ∘ (zone hs).1))
  refine ⟨fun unsound => unchanged (stripBlock_unsound unsound), fun hs hf absent => unchanged ?_,
    fun n p hs hf resident carries unique => ?_, fun hs own absent => unchanged ?_,
    fun n p hs own resident carries unique => ?_⟩
  · rw [stripBlock_foreign hs ((zone hs).2 hf), countForeign_unused (unused absent)]
  · have counted := stripBlock_foreign hs ((zone hs).2 hf)
    rw [countForeign_resident (found resident carries unique) (by simpa using resident)] at counted
    refine (exec_answered (owner := ownStripBlock body) ready counted rfl).trans ?_
    simp only [State.setBay, requested_bays]
    rfl
  · rw [placed hs own, placeBlock_unused (unused absent)]
  · have at_ := found resident carries unique
    have resident' : (requested 5 tag s).plate? n = some p := by simpa using resident
    have admitted : p.state = .filling →
        (requested 5 tag s).stripBlock body = (requested 5 tag s).admitBlock (bodyBlock body) p := fun filling =>
      (placed hs own).trans (placeBlock_filling at_ resident' filling)
    have full : (requested 5 tag s).noRoom (bodyBlock body) = true ↔
        32 ≤ s.intake.queue.length ∨ 262144 < s.charged + (body.length - 19) := by
      rw [noRoom_iff]
      simp [bodyBlock, State.charged]
    refine ⟨fun late => unchanged ?_, fun filling bad => unchanged ?_, fun filling strip windows =>
      ⟨fun h => unchanged ?_, fun queue budget => ?_⟩⟩
    · rw [placed hs own, placeBlock_late at_ resident' late]
    · rw [admitted filling, admitBlock_badField bad]
    · rw [admitted filling, admitBlock_queueFull strip windows (full.2 h)]
    · have room : (requested 5 tag s).noRoom (bodyBlock body) = false :=
        Bool.eq_false_iff.2 fun h => by have := full.1 h; omega
      refine (exec_answered (owner := ownStripBlock body) ready
        ((admitted filling).trans (admitBlock_accepted strip windows room)) rfl).trans ?_
      simp only [requested_intake]
      rfl

end Sys2Proof.Proofs
end

section
/-! SUPPORT. BLOCK_TAKE as the claims speak of it: when the decoder may take a block, and what the second look at its bay
does with it (R37, R38, R40, R41). -/

namespace Sys2Proof.Proofs

open Sys2Proof.Machine Sys2Proof.Claims

variable {s u : State} {b : Block} {rest : List Block} {n i : Nat} {p : Plate} {r : StripRecord}

/-! ### When a block may be taken (R37) -/

theorem isFree_iff (x : StripBuffer) : x.isFree = true ↔ x = .free := by
  cases x <;> simp [StripBuffer.isFree]

/-- A write of this plate key and strip is in progress: a buffer for it is READY or WRITING. -/
theorem writingStrip_iff {d : Decoder} {key : PlateKey} {strip : Nat} : d.writingStrip key strip = true ↔
    ∃ ctx lines, ctx.key = key ∧ ctx.strip = strip ∧
      ((∃ through, .ready ctx lines through ∈ d.buffers) ∨ ∃ served, .writing ctx lines served ∈ d.buffers) := by
  simp only [Decoder.writingStrip, List.any_eq_true, Bool.and_eq_true, Bool.or_eq_true, Option.any_eq_true, decide_eq_true_eq]
  constructor
  · rintro ⟨x, mem, kind, ctx, context, same⟩
    cases x with
    | free | building => simp [StripBuffer.isReady, StripBuffer.isWriting] at kind
    | ready c lines through =>
      cases context
      exact ⟨ctx, lines, same.1, same.2, .inl ⟨through, mem⟩⟩
    | writing c lines served =>
      cases context
      exact ⟨ctx, lines, same.1, same.2, .inr ⟨served, mem⟩⟩
  · rintro ⟨ctx, lines, key, strip, ⟨through, mem⟩ | ⟨served, mem⟩⟩
    · exact ⟨_, mem, .inl rfl, ctx, rfl, key, strip⟩
    · exact ⟨_, mem, .inr rfl, ctx, rfl, key, strip⟩

theorem mayTake_iff : s.decoder.mayTake b = true ↔ MayTake b s := by
  have writes : s.decoder.writingStrip b.key b.strip = false ↔
      ∀ ctx lines, ctx.key = b.key → ctx.strip = b.strip →
        (∀ through, .ready ctx lines through ∉ s.decoder.buffers) ∧
        ∀ served, .writing ctx lines served ∉ s.decoder.buffers := by
    rw [Bool.eq_false_iff, ne_eq, writingStrip_iff]
    push Not
    rfl
  simp only [Decoder.mayTake, Bool.and_eq_true, Bool.not_eq_true', writes, List.any_eq_false, List.any_eq_true, isFree_iff,
    Bool.not_eq_true, MayTake, and_assoc]

/-! ### The take -/

/-- The block has left the queue. -/
def blockGone (rest : List Block) (s : State) : State := { s.transmit with intake := { s.intake with queue := rest } }

@[simp] theorem blockGone_bays : (blockGone rest s).bays = s.bays := s.transmit_bays
@[simp] theorem blockGone_decoder : (blockGone rest s).decoder = s.decoder := s.transmit_decoder
@[simp] theorem blockGone_plate? (n : Nat) : (blockGone rest s).plate? n = s.plate? n := State.plate?_congr s.transmit_bays n

theorem exec_blockTake (s : State) : exec .blockTake s = .next s.transmit.blockTake := rfl

/-- A block that may not be taken waits (R37). -/
theorem blockTake_waits (queue : s.intake.queue = b :: rest) (wait : ¬ MayTake b s) : s.transmit.blockTake = s.transmit := by
  have may : s.decoder.mayTake b = false := Bool.eq_false_iff.2 (wait ∘ mayTake_iff.1)
  simp [State.blockTake, queue, may]

/-- A block that may be taken leaves the queue and is judged (R38). -/
theorem blockTake_judged (queue : s.intake.queue = b :: rest) (may : MayTake b s) :
    s.transmit.blockTake = State.judgeBlock b (blockGone rest s) := by
  have may' : s.decoder.mayTake b = true := mayTake_iff.2 may
  simp [State.blockTake, queue, may', blockGone]

/-! ### The second look (R38, R40, R41) -/

/-- R40: what is decoded, a MISSING record apart, as log entry 27 has it. -/
theorem decodes_iff (r : StripRecord) (zone : ZoneKind) : r.decodes zone = true ↔
    r.state = .absent ∨ r.state = .missing ∨ r.state = .good ∧ r.source = .common ∧ zone = .variant ∨
    r.state = .damaged ∧ (r.variantSeen = false ∨ zone = .variant) := by
  obtain ⟨state, source, seen, cause⟩ := r
  cases state with
  | absent | missing => simp [StripRecord.decodes]
  | good => cases source <;> cases zone <;> simp [StripRecord.decodes]
  | damaged => cases seen <;> cases zone <;> simp [StripRecord.decodes]

/-- No bay has the plate FILLING with the block's strip: the block is dropped. -/
theorem judgeBlock_misfit
    (misfit : ∀ n p, u.plate? n = some p → p.key = b.key → p.state ≠ .filling ∨ p.strips.length ≤ b.strip) :
    u.judgeBlock b = u.dropBlock := by
  unfold State.judgeBlock
  split
  · rfl
  · rename_i n found
    split
    · rfl
    · rename_i p resident
      refine if_neg fun fits => ?_
      rcases misfit n p resident (State.findPlate_key found resident) with state | strip
      · exact state fits.1
      · omega

section
variable (found : u.findPlate b.key = some n) (resident : u.plate? n = some p) (filling : p.state = .filling)
  (record : p.strips[b.strip]? = some r)
include found resident filling record

/-- The plate is FILLING and has the strip: its record decides. -/
theorem judgeBlock_fits : u.judgeBlock b =
    if r.decodes b.zone then u.bindBlock ((u.decoder.buffers.findIdx? StripBuffer.isFree).getD 0) n p b
    else u.modPlate n fun p => { p with duplicates := satInc Config.countHold p.duplicates } := by
  obtain ⟨strip, rfl⟩ := List.getElem?_eq_some_iff.1 record
  simp only [State.judgeBlock, found, resident, filling, strip, and_self, if_true, List.getD_eq_getElem?_getD, record,
    Option.getD_some]

theorem judgeBlock_duplicate (known : r.decodes b.zone = false) :
    u.judgeBlock b = u.setBay n (some { p with duplicates := min (p.duplicates + 1) 65535 }) := by
  rw [judgeBlock_fits found resident filling record, if_neg (by simp [known])]
  exact State.modPlate_some _ resident

theorem judgeBlock_decoded (decodes : r.decodes b.zone = true)
    (free : u.decoder.buffers.findIdx? StripBuffer.isFree = some i) : u.judgeBlock b = u.bindBlock i n p b := by
  rw [judgeBlock_fits found resident filling record, if_pos decodes, free, Option.getD_some]

end

end Sys2Proof.Proofs
end

section
/-! CLAIMS SETTLED. A block that waits, is dropped, or is finished with undecoded (R37, R38, R41). -/

namespace Sys2Proof.Proofs

open Sys2Proof.Machine Sys2Proof.Claims

/-- Settles O24, by the second look at the taken block's bay. -/
theorem blockTakeDropsOrDiscards : Obligations.BlockTakeDropsOrDiscards := by
  refine ⟨fun b rest s queue wait => ?_, fun s queue => ?_, fun b rest s queue may => ⟨fun misfit => ?_,
    fun n p r resident carries unique filling record known => ?_⟩⟩
  · rw [exec_blockTake, blockTake_waits queue wait]
  · rw [exec_blockTake, blockTake_empty (by simpa using queue)]
  · rw [exec_blockTake, blockTake_judged queue may, judgeBlock_misfit (by simpa using misfit)]
    rfl
  · have found : (blockGone rest s).findPlate b.key = some n :=
      (findPlate_congr blockGone_bays b.key).trans (findPlate_of_unique resident carries unique)
    have undecoded : r.decodes b.zone = false := by
      rw [Bool.eq_false_iff, ne_eq, decodes_iff]
      rcases known with ⟨good, zone⟩ | ⟨damaged, seen, common⟩
      · simpa [good] using zone
      · simp [damaged, seen, common]
    rw [exec_blockTake, blockTake_judged queue may,
      judgeBlock_duplicate found (by simpa using resident) filling record undecoded]
    simp only [State.setBay, blockGone_bays]
    rfl

end Sys2Proof.Proofs
end

section
/-! SUPPORT. The windows of a block as the claims speak of them: the form of a window record (R58), the validations in their
order (R58 to R60), and the first window that is applied or at fault (R61, R69). -/

namespace Sys2Proof.Proofs

open Sys2Proof.Machine Sys2Proof.Claims

variable {body : List Byte} {r w k m : Nat}

/-! ### Window records -/

/-- The window record at an offset has not the form that R58 asks. -/
abbrev BadForm (body : List Byte) (r : Nat) : Prop :=
  byteAt body (r + 6) % 16 < 2 ∨ 4 < byteAt body (r + 6) % 16 ∨ 1 < byteAt body (r + 6) / 64 ∨
    1 < byteAt body (r + 6) / 16 % 4 ∨ 63 < (recordAt body r).y0 ∨ (recordAt body r).width < 1 ∨
    4096 < (recordAt body r).width ∨ (recordAt body r).height < 1 ∨ 64 < (recordAt body r).height

theorem windowAt_good (good : ¬ BadForm body r) : windowAt body r = some (recordAt body r) := by
  simp only [BadForm, recordAt, not_or, not_lt] at good
  obtain ⟨side₁, side₂, form, merge, fields⟩ := good
  have form : byteAt body (r + 6) / 64 = 0 ∨ byteAt body (r + 6) / 64 = 1 := by omega
  have merge : byteAt body (r + 6) / 16 % 4 = 0 ∨ byteAt body (r + 6) / 16 % 4 = 1 := by omega
  have side : byteAt body (r + 6) % 16 = 2 ∨ byteAt body (r + 6) % 16 = 3 ∨ byteAt body (r + 6) % 16 = 4 := by omega
  rcases form with form | form <;> rcases merge with merge | merge <;> rcases side with side | side | side <;>
    simp [windowAt, recordAt, form, merge, side, fields]

theorem windowAt_bad (bad : BadForm body r) : windowAt body r = none := by
  unfold windowAt
  dsimp only
  split
  · rename_i form merge side hform hmerge hside
    refine if_neg fun fields => ?_
    have form : byteAt body (r + 6) / 64 ≤ 1 := by
      split at hform
      · omega
      · omega
      · cases hform
    have merge : byteAt body (r + 6) / 16 % 4 ≤ 1 := by
      split at hmerge
      · omega
      · omega
      · cases hmerge
    have side : 2 ≤ byteAt body (r + 6) % 16 ∧ byteAt body (r + 6) % 16 ≤ 4 := by
      split at hside
      · omega
      · omega
      · omega
      · cases hside
    simp only [BadForm, recordAt] at bad
    omega
  · rfl

/-! ### The validations (R58 to R60) -/

/-- A window names a slot that its plate does not declare, or a screen slot that is empty (R59). -/
abbrev BadSlot (ctx : StripContext) (screens : List (Option Screen)) (win : Window) : Prop :=
  ctx.screenSet.getLsbD win.screen = false ∨ ctx.curveSet.getLsbD win.curve = false ∨ screens.getD win.screen none = none

theorem sampleForm_bytes (f : SampleForm) : f.bytes = if f = .companded8 then 1 else 2 := by
  cases f <;> rfl

theorem windowCause_eq (ctx : StripContext) (screens : List (Option Screen)) (b : Block) (j : Nat) :
    windowCause ctx screens b j =
      if b.body.length < b.codeLength + 10 * j + 10 then .windowData
      else if BadForm b.body (b.codeLength + 10 * j) then .windowForm
      else if BadSlot ctx screens (recordOf b j) then .windowSlot
      else if b.body.length < (recordOf b j).offset + (recordOf b j).width * (recordOf b j).height *
        (recordOf b j).form.bytes then .windowData
      else .none := by
  rw [sampleForm_bytes]
  rfl

/-- The model's validations are the same tests in the same order. -/
theorem validWindow_tests (ctx : StripContext) (screens : List (Option Screen)) (b : Block) (j : Nat) :
    validWindow ctx.screenSet ctx.curveSet screens b j =
      if b.body.length < b.codeLength + 10 * j + 10 then .error .windowData
      else if BadForm b.body (b.codeLength + 10 * j) then .error .windowForm
      else if BadSlot ctx screens (recordOf b j) then .error .windowSlot
      else if b.body.length < (recordOf b j).offset + (recordOf b j).width * (recordOf b j).height *
        (recordOf b j).form.bytes then .error .windowData
      else .ok (recordOf b j) := by
  have place : b.codeLength + j * Config.windowBytes = b.codeLength + 10 * j := by rw [Config.windowBytes, Nat.mul_comm]
  unfold validWindow
  rw [place]
  refine if_congr Iff.rfl rfl ?_
  by_cases bad : BadForm b.body (b.codeLength + 10 * j)
  · rw [windowAt_bad bad, if_pos bad]
  · rw [windowAt_good bad, if_neg bad]
    refine if_congr ?_ rfl rfl
    rw [Bool.not_eq_true, Bool.not_eq_true, Option.isNone_iff_eq_none]
    rfl

/-- A window passes the validations, or fails with the cause that the claims name. -/
theorem validWindow_eq (ctx : StripContext) (screens : List (Option Screen)) (b : Block) (j : Nat) :
    validWindow ctx.screenSet ctx.curveSet screens b j =
      if windowCause ctx screens b j = .none then .ok (recordOf b j) else .error (windowCause ctx screens b j) := by
  rw [validWindow_tests, windowCause_eq]
  split_ifs <;> trivial

/-! ### The next window (R61) -/

/-- Windows that pass and lie beyond the plate are skipped. -/
theorem nextWindow_skips {valid : Nat → Except FaultCause Window} (d left k : Nat)
    (skipped : ∀ j, k ≤ j → j < k + d → ∃ win, valid j = .ok win ∧ w ≤ win.x0) :
    nextWindow w valid (d + left) k = nextWindow w valid left (k + d) := by
  induction d generalizing k with
  | zero => rw [Nat.zero_add, Nat.add_zero]
  | succ d ih =>
    obtain ⟨win, valid_k, beyond⟩ := skipped k le_rfl (by omega)
    rw [show d + 1 + left = d + left + 1 by omega, nextWindow, valid_k]
    simp only [beyond, if_true]
    rw [ih (k + 1) fun j hk hj => skipped j (by omega) (by omega), show k + 1 + d = k + (d + 1) by omega]

/-- The first window at fault ends the decode (R58). -/
theorem nextWindow_fault {valid : Nat → Except FaultCause Window} {f : FaultCause} (left m : Nat)
    (fault : valid m = .error f) : nextWindow w valid (left + 1) m = .finish f := by
  rw [nextWindow, fault]

/-- The first window that passes and reaches the plate is applied (R61). -/
theorem nextWindow_apply {valid : Nat → Except FaultCause Window} {win : Window} (left m : Nat) (passes : valid m = .ok win)
    (reaches : win.x0 < w) : nextWindow w valid (left + 1) m = .apply m win := by
  rw [nextWindow, passes]
  exact if_neg (by omega)

/-- The decoder goes on with a block's windows as the claims say (R58 to R63, R69). -/
theorem windowsFrom_proceed (i : Nat) (ctx : StripContext) (b : Block) (lines : List Line) (k : Nat) (u : State) :
    WindowsFrom (.next (u.proceed i ctx b lines k)) i ctx b lines k u := by
  intro m first last skipped win building
  have valid := validWindow_eq ctx u.screening.screens b
  have reached : nextWindow ctx.w (validWindow ctx.screenSet ctx.curveSet u.screening.screens b) (b.windows - k) k =
      nextWindow ctx.w (validWindow ctx.screenSet ctx.curveSet u.screening.screens b) (b.windows - m) m := by
    have skips := nextWindow_skips (w := ctx.w) (m - k) (b.windows - m) k fun j hk hj =>
      have ⟨passes, beyond⟩ := skipped j hk (by omega)
      ⟨recordOf b j, (valid j).trans (if_pos passes), beyond⟩
    rwa [show m - k + (b.windows - m) = b.windows - k by omega, show k + (m - k) = m by omega] at skips
  have left : m < b.windows → b.windows - m = b.windows - m - 1 + 1 := by omega
  unfold State.proceed
  rw [reached]
  refine ⟨fun done => ?_, fun more fails => ?_, fun more passes reaches => ?_⟩
  · rw [done, Nat.sub_self]
    rfl
  · rw [left more, nextWindow_fault _ m ((valid m).trans (if_neg fails))]
    rfl
  · rw [left more, nextWindow_apply _ m ((valid m).trans (if_pos passes)) reaches]
    rfl

end Sys2Proof.Proofs
end

section
/-! CLAIMS SETTLED. A taken block that is decoded (R40, R50 to R53, R58 to R61). -/

namespace Sys2Proof.Proofs

open Sys2Proof.Machine Sys2Proof.Claims

variable {u : State} {b : Block} {i n : Nat} {p : Plate}

/-- The buffer bound to a block is the FREE one of the lowest number (log entry 16). -/
theorem findIdx?_isFree {buffers : List StripBuffer} (free : buffers[i]? = some .free)
    (lowest : ∀ j, j < i → buffers[j]? ≠ some .free) : buffers.findIdx? StripBuffer.isFree = some i := by
  obtain ⟨lt, free⟩ := List.getElem?_eq_some_iff.1 free
  refine List.findIdx?_eq_some_iff_getElem.2 ⟨lt, by rw [free]; rfl, fun j hj => ?_⟩
  rw [isFree_iff]
  exact fun h => lowest j hj (List.getElem?_eq_some_iff.2 ⟨hj.trans lt, h⟩)

/-- The strip context of a buffer bound to a block (R49). -/
def boundContext (n : Nat) (p : Plate) (b : Block) : StripContext :=
  { bay := n, key := b.key, strip := b.strip, zone := b.zone, w := p.w, screenSet := p.screenSet, curveSet := p.curveSet,
    content := .image, cause := .none }

theorem bindBlock_check (bad : crc32 b.body ≠ b.bodyCheck) :
    u.bindBlock i n p b = u.setBuffer i (.building (boundContext n p b) b [] (.ended .check)) :=
  if_neg bad

theorem bindBlock_fault {cause : FaultCause} {lines : List Line} (sound : crc32 b.body = b.bodyCheck)
    (fault : lineArt p.w b.codeLength b.body = .error (cause, lines)) :
    u.bindBlock i n p b = u.setBuffer i (.building (boundContext n p b) b lines (.ended cause)) := by
  simp only [State.bindBlock, sound, if_true, fault]
  rfl

theorem bindBlock_windows {lines : List Line} (sound : crc32 b.body = b.bodyCheck)
    (art : lineArt p.w b.codeLength b.body = .ok lines) :
    u.bindBlock i n p b = u.proceed i (boundContext n p b) b lines 0 := by
  simp only [State.bindBlock, sound, if_true, art]
  rfl

/-- Settles O25: the taken block is bound to the first FREE buffer, and its check, its line art and its windows are gone
through in this order. -/
theorem blockTakeDecodes : Obligations.BlockTakeDecodes := by
  intro b rest n i p r s queue may resident carries unique filling record decodes free lowest ctx bound
  have found : (blockGone rest s).findPlate b.key = some n :=
    (findPlate_congr blockGone_bays b.key).trans (findPlate_of_unique resident carries unique)
  have decoded : r.decodes b.zone = true := by
    rw [decodes_iff]
    tauto
  have taken : exec .blockTake s = .next ((blockGone rest s).bindBlock i n p b) := by
    rw [exec_blockTake, blockTake_judged queue may,
      judgeBlock_decoded found (by simpa using resident) filling record decoded (by simpa using findIdx?_isFree free lowest)]
  have building : ∀ lines cause, (blockGone rest s).setBuffer i (.building ctx b lines (.ended cause)) = bound lines cause :=
    fun lines cause => by
      simp only [State.setBuffer, blockGone_decoder]
      rfl
  refine ⟨fun bad => ?_, fun cause lines sound fault => ?_, fun lines sound art => ?_⟩
  · rw [taken, bindBlock_check bad]
    exact congrArg _ (building [] .check)
  · rw [taken, bindBlock_fault sound fault]
    exact congrArg _ (building lines cause)
  · rw [taken, bindBlock_windows sound art]
    exact windowsFrom_proceed i ctx b lines 0 (blockGone rest s)

end Sys2Proof.Proofs
end

section
/-! CLAIMS SETTLED. The end of a decode and the start of a strip write (R63, R64, R66, R90, R104). -/

namespace Sys2Proof.Proofs

open Sys2Proof.Machine Sys2Proof.Claims

variable {s : State} {buffers : List StripBuffer} {kind : StripBuffer → Bool} {i : Nat} {x : StripBuffer}

/-! ### Buffers of a kind -/

/-- The first buffer of a kind, where no buffer before it is of that kind. -/
theorem findIdx?_of_before (here : buffers[i]? = some x) (is : kind x = true)
    (before : ∀ j, j < i → (buffers[j]?).map kind = some false) : buffers.findIdx? kind = some i := by
  obtain ⟨lt, rfl⟩ := List.getElem?_eq_some_iff.1 here
  refine List.findIdx?_eq_some_iff_getElem.2 ⟨lt, is, fun j hj => ?_⟩
  simpa [hj.trans lt] using before j hj

theorem getD_of_getElem? (here : buffers[i]? = some x) : buffers.getD i .free = x := by
  rw [List.getD_eq_getElem?_getD, here, Option.getD_some]

/-! ### The end of a decode -/

/-- DECODE_END ends the decode of the BUILDING buffer (R63). -/
theorem decodeEnd_eq {ctx : StripContext} {b : Block} {lines : List Line} {cause : FaultCause}
    (here : s.decoder.buffers[i]? = some (.building ctx b lines (.ended cause)))
    (before : ∀ j, j < i → (s.decoder.buffers[j]?).map StripBuffer.isBuilding = some false) :
    s.decodeEnd = s.endDecode i ctx lines cause := by
  simp only [State.decodeEnd, findIdx?_of_before here rfl before, getD_of_getElem? here]

/-- A dot of a hatched strip in a buffer (R63, R90). -/
theorem hatchLines_dot {w strip line x : Nat} (fits : w ≤ 32768) (inStrip : line < 64) (inLine : x < w) :
    ((hatchLines w strip).getD line 0).getLsbD x = hatchDot x (64 * strip + line) := by
  have row : (hatchLines w strip).getD line 0 = Line.ofDots w fun x => hatchDot x (64 * strip + line) := by
    simp [hatchLines, List.getD_eq_getElem?_getD, inStrip]
  rw [row, getLsbD_lineOfDots _ _ _ fits, decide_eq_true inLine, Bool.true_and]

/-- Settles O27: the BUILDING buffer's decode ends with its image or with the hatch. -/
theorem decodeEndMakesReady : Obligations.DecodeEndMakesReady := by
  refine ⟨fun i ctx b lines cause s here before => ?_, fun w strip line x fits inStrip inLine =>
    hatchLines_dot fits inStrip inLine, fun w strip j p _ place => ?_⟩
  · show Host.Outcome.next s.transmit.decodeEnd = _
    rw [decodeEnd_eq (by simpa using here) (by simpa using before)]
    simp only [State.endDecode, State.transmit_decoder]
  · rw [hatchWord, getLsbD_ofDots, decide_eq_true place, Bool.true_and]
    rfl

/-! ### The start of a strip write -/

/-- While a buffer is WRITING no strip write starts (R64). -/
theorem stripWriteStart_busy (busy : ∃ b ∈ s.decoder.buffers, b.isWriting = true) : s.stripWriteStart = s :=
  if_pos (List.any_eq_true.2 busy)

/-- With no buffer READY no strip write starts (R64). -/
theorem stripWriteStart_none (none : s.decoder.readyOrder = []) : s.stripWriteStart = s := by
  simp [State.stripWriteStart, none]

section
variable {rest : List Nat} {ctx : StripContext} {lines : List Line} {through : Bool}
  (order : s.decoder.readyOrder = i :: rest) (here : s.decoder.buffers[i]? = some (.ready ctx lines through))
include order here

/-- A held approval holds back the buffer first in READY order, and all behind it (R66). -/
theorem stripWriteStart_held (held : s.heldBack ctx through = true) : s.stripWriteStart = s := by
  simp [State.stripWriteStart, order, here, held]

/-- The buffer first in READY order starts its write and asks the strip's first burst (R64). -/
theorem stripWriteStart_starts (idle : ∀ b ∈ s.decoder.buffers, b.isWriting = false) (passes : s.heldBack ctx through = false) :
    s.stripWriteStart = State.onStore (Store.ask .decoder (s.stripBurst ctx lines 0))
      { s with decoder := { buffers := s.decoder.buffers.set i (.writing ctx lines 0), readyOrder := rest } } := by
  have notWriting : s.decoder.buffers.any StripBuffer.isWriting = false := by simpa using idle
  simp only [State.stripWriteStart, notWriting, order, getD_of_getElem? here, passes, Bool.false_eq_true, if_false]

end

/-- R66 holds back a buffer just where its bay's approval is held and it is not the one let through. -/
theorem heldBack_eq_false {ctx : StripContext} {through : Bool} : s.heldBack ctx through = false ↔
    through = true ∨ ∀ p, s.plate? ctx.bay = some p → p.approvalHeld = false := by
  cases resident : s.plate? ctx.bay <;> cases through <;> simp [State.heldBack, resident]

/-- Settles O29, by what STRIP_WRITE_START does with the buffer first in READY order. -/
theorem stripWriteStartsInReadyOrder : Obligations.StripWriteStartsInReadyOrder := by
  refine ⟨fun i rest ctx lines through s idle order here passes => ?_, fun i rest ctx lines p s order here resident held => ?_,
    fun s nothing => congrArg Host.Outcome.next ?_⟩
  · refine ⟨(List.range 8).map (stripWord lines ctx.w), ?_, by simp, fun j hj => by simp [hj]⟩
    have starts := stripWriteStart_starts (s := s.transmit) (by simpa using order) (by simpa using here) (by simpa using idle)
      (heldBack_eq_false.2 (by simpa using passes))
    refine (congrArg Host.Outcome.next starts).trans ?_
    simp [State.onStore, Store.ask, State.stripBurst, State.bayBase]
  · exact congrArg Host.Outcome.next (stripWriteStart_held (s := s.transmit) (by simpa using order) (by simpa using here)
      (by simp [State.heldBack, resident, held]))
  · rcases nothing with busy | none
    · exact stripWriteStart_busy (by simpa using busy)
    · exact stripWriteStart_none (by simpa using none)

end Sys2Proof.Proofs
end

section
/-! CLAIMS SETTLED. A window applied (R62, R69, R79). -/

namespace Sys2Proof.Proofs

open Sys2Proof.Machine Sys2Proof.Claims

variable {s : State} {sc : Screen} {curve : List Nat} {body : List Byte} {c : WindowContext} {lines : List Line}

/-- A dot of the window's clipped area that is not yet set (R61, R69). -/
abbrev ToSet (c : WindowContext) (line x : Nat) : Prop :=
  c.window.y0 ≤ line ∧ line < c.yEnd ∧ c.window.x0 ≤ x ∧ x < c.xEnd ∧ (x, line) ∉ c.dotsSet

theorem applyWindow_length : (applyWindow sc curve body c lines).length = lines.length := by
  simp [applyWindow]

/-- A line of an applied window: rebuilt dot by dot where the clipped area reaches it, and else as it was. -/
theorem applyWindow_line {line : Nat} (lt : line < lines.length) :
    (applyWindow sc curve body c lines).getD line 0 =
      if c.window.y0 ≤ line ∧ line < c.yEnd then
        Line.ofDots c.w fun x =>
          if c.window.x0 ≤ x ∧ x < c.xEnd ∧ (x, line) ∉ c.dotsSet then
            c.window.merge.dot ((lines.getD line 0).getLsbD x) (photoDot sc curve body c.window c.strip x line)
          else (lines.getD line 0).getLsbD x
      else lines.getD line 0 := by
  simp only [applyWindow, List.getD_eq_getElem?_getD, List.getElem?_map, List.getElem?_zipIdx, List.getElem?_eq_getElem lt,
    Option.map_some, Option.getD_some, Nat.zero_add]

/-- A dot of an applied window: merged with its photo dot where it is to be set, and else as it was (R62, R79). -/
theorem applyWindow_dot {line x : Nat} (fits : c.w ≤ 32768) (lt : line < lines.length) (inLine : x < c.w) :
    ((applyWindow sc curve body c lines).getD line 0).getLsbD x =
      if ToSet c line x then
        c.window.merge.dot ((lines.getD line 0).getLsbD x) (photoDot sc curve body c.window c.strip x line)
      else (lines.getD line 0).getLsbD x := by
  rw [applyWindow_line lt]
  by_cases reached : c.window.y0 ≤ line ∧ line < c.yEnd
  · rw [if_pos reached, getLsbD_lineOfDots _ _ _ fits, decide_eq_true inLine, Bool.true_and]
    simp only [ToSet, reached, true_and]
  · rw [if_neg reached, if_neg fun ⟨low, high, _⟩ => reached ⟨low, high⟩]

/-- WINDOW_APPLIED sets the window's dots and goes on with the next window (R62, R69). -/
theorem windowApplied_eq {ctx : StripContext} {b : Block} {k : Nat} (work : s.screening.work = some c)
    (here : s.decoder.buffers[c.buffer]? = some (.building ctx b lines (.applying k)))
    (screen : s.screening.screens[c.window.screen]? = some (some sc)) :
    s.windowApplied = State.proceed c.buffer ctx b
      (applyWindow sc (s.screening.curves.getD c.window.curve []) b.body c lines) (k + 1)
      { s with screening := { s.screening with work := none } } := by
  have slot : s.screening.screens.getD c.window.screen none = some sc := by
    rw [List.getD_eq_getElem?_getD, screen, Option.getD_some]
  simp only [State.windowApplied, work, getD_of_getElem? here, slot]

/-- Settles O28: the applied window's dots are merged one by one, and the decoder goes on. -/
theorem windowAppliedMergesPhoto : Obligations.WindowAppliedMergesPhoto := by
  intro c ctx b lines k sc s work here screen _ fits
  refine ⟨applyWindow sc (s.screening.curves.getD c.window.curve []) b.body c lines, ?_, applyWindow_length,
    fun line x lt inLine => ?_⟩
  · have applied := windowApplied_eq (s := s.transmit) (by simpa using work) (by simpa using here) (by simpa using screen)
    rw [show exec .windowApplied s = .next s.transmit.windowApplied from rfl, applied, State.transmit_screening]
    exact windowsFrom_proceed c.buffer ctx b _ (k + 1) _
  · rw [applyWindow_dot fits lt inLine]
    refine if_congr Iff.rfl ?_ rfl
    cases c.window.merge <;> rfl

end Sys2Proof.Proofs
end

section
/-! CLAIMS SETTLED. Line art: what each token does, and what all of them leave (R53 to R57). -/

namespace Sys2Proof.Proofs

open Sys2Proof.Machine Sys2Proof.Claims

variable {w kind n : Nat} {a a' : Art} {dot : Nat → Bool} {dots : Line}

/-! ### The tests of a token (R56) -/

/-- The model's tests are those that the claims name. -/
theorem fault_eq_tokenFault : a.fault w kind n = tokenFault w kind n a := by
  unfold Art.fault tokenFault
  by_cases unknown : kind = 0 ∨ 7 ≤ kind
  · rw [if_pos (by omega), if_pos unknown]
  · rw [if_neg (by omega), if_neg unknown]
    exact if_congr (by omega) rfl (if_congr (by omega) rfl (if_congr Iff.rfl rfl (if_congr Iff.rfl rfl
      (if_congr (by omega) rfl rfl))))

/-- What a token that passes the tests has been found to be, as far as the strip's room goes. -/
theorem passes_tests (passes : tokenFault w kind n a = .none) :
    1 ≤ kind ∧ kind ≤ 6 ∧ (kind ≠ 6 → a.x ≠ 0 ∨ a.done.length ≠ 64) ∧ (5 ≤ kind → a.x = 0) ∧
      (kind = 5 → a.done.length + n ≤ 64) ∧ (kind = 6 → 64 ≤ a.done.length) ∧ (kind ≤ 3 → a.x + n ≤ w) := by
  unfold tokenFault at passes
  dsimp only at passes
  split_ifs at passes
  omega

/-- A token read: its fault, or its effect and what follows it (R55 to R57). -/
theorem readArt_token (k hi lo : Byte) (rest : List Byte) : readArt w a (k :: hi :: lo :: rest) =
    if tokenFault w k.toNat (hi.toNat * 256 + lo.toNat) a = .none then
      if k.toNat = 6 then .ok a.done else readArt w (a.apply w k.toNat (hi.toNat * 256 + lo.toNat)) rest
    else .error (tokenFault w k.toNat (hi.toNat * 256 + lo.toNat) a, a.written) := by
  rw [readArt, fault_eq_tokenFault]
  split
  · rename_i passes
    rw [if_pos passes]
  · rename_i fails
    rw [if_neg fails]

/-- The code area ends within a token (R57). -/
theorem readArt_short {bytes : List Byte} (short : bytes.length < 3) : readArt w a bytes = .error (.truncated, a.written) := by
  match bytes, short with
  | [], _ | [_], _ | [_, _], _ => rfl

/-! ### The dots of a run (R54) -/

theorem runMask_dot (x n i : Nat) : (runMask x n).getLsbD i = (decide (i < 32768) && decide (x ≤ i ∧ i < x + n)) := by
  rw [runMask, BitVec.getLsbD_ofNat, Nat.testBit_shiftLeft, Nat.testBit_two_pow_sub_one]
  congr 1
  rw [← Bool.decide_and, decide_eq_decide]
  omega

/-- A run written with these dots. -/
theorem put_wrote (run : ∀ x, x < 32768 → a.x ≤ x → x < a.x + n → dots.getLsbD x = dot x) :
    Wrote w n dot a (a.put w n dots) := by
  refine ⟨(a.cur &&& ~~~(runMask a.x n)) ||| (dots &&& runMask a.x n), fun x lt => ?_, rfl⟩
  have merged : ((a.cur &&& ~~~(runMask a.x n)) ||| (dots &&& runMask a.x n)).getLsbD x =
      (a.cur.getLsbD x && (decide (x < 32768) && !(runMask a.x n).getLsbD x) || dots.getLsbD x && (runMask a.x n).getLsbD x) := by
    rw [BitVec.getLsbD_or, BitVec.getLsbD_and, BitVec.getLsbD_not, BitVec.getLsbD_and]
  rw [merged, runMask_dot]
  by_cases inRun : a.x ≤ x ∧ x < a.x + n
  · rw [if_pos inRun]
    simp only [lt, inRun, and_self, decide_true, Bool.and_true, Bool.not_true, Bool.and_false, Bool.false_or,
      run x lt inRun.1 inRun.2]
  · rw [if_neg inRun]
    simp only [lt, inRun, decide_true, decide_false, Bool.and_false, Bool.not_false, Bool.and_true, Bool.or_false]

theorem apply_white : Wrote w n (fun _ => false) a (a.apply w 1 n) := put_wrote fun _ _ _ _ => BitVec.getLsbD_zero

theorem apply_black : Wrote w n (fun _ => true) a (a.apply w 2 n) :=
  put_wrote fun x lt low high => by simp [runMask_dot, lt, low, high]

theorem apply_copy : Wrote w n a.ref.getLsbD a (a.apply w 3 n) := put_wrote fun _ _ _ _ => rfl

theorem apply_rest : Wrote w (w - a.x) a.ref.getLsbD a (a.apply w 4 n) := put_wrote fun _ _ _ _ => rfl

/-! ### Whole lines within the plate -/

/-- A line with no dot at or beyond W. -/
abbrev LineWithin (w : Nat) (l : Line) : Prop := ∀ x, w ≤ x → l.getLsbD x = false

/-- Line art within its strip: at most 64 lines, a line begun among them, and no dot at or beyond W. -/
structure ArtFits (w : Nat) (a : Art) : Prop where
  x_lt : a.x < w
  lines : a.done.length ≤ 64
  begun : a.x ≠ 0 → a.done.length < 64
  done : ∀ l ∈ a.done, LineWithin w l
  cur : LineWithin w a.cur
  ref : LineWithin w a.ref

theorem within_zero : LineWithin w 0 := fun _ _ => BitVec.getLsbD_zero

theorem fits_start (width : 1 ≤ w) : ArtFits w Art.start :=
  { x_lt := width, lines := Nat.zero_le _, begun := fun started => absurd rfl started, done := by simp [Art.start],
    cur := within_zero, ref := within_zero }

/-- A run that stays on its line, with room for that line, keeps line art within its strip. -/
theorem wrote_fits (wrote : Wrote w n dot a a') (fits : ArtFits w a) (onLine : a.x + n ≤ w) (room : a.done.length < 64) :
    ArtFits w a' := by
  obtain ⟨l, dots, rfl⟩ := wrote
  have within : LineWithin w l := fun x beyond => by
    by_cases lt : x < 32768
    · rw [dots x lt, if_neg (by omega), fits.cur x beyond]
    · exact BitVec.getLsbD_of_ge l x (by omega)
  split_ifs with closed
  · exact
      { x_lt := Nat.zero_lt_of_lt fits.x_lt, lines := by simpa using room, begun := fun started => absurd rfl started,
        done := List.forall_mem_append.2 ⟨fits.done, by simpa using within⟩, cur := within_zero, ref := within }
  · exact
      { x_lt := lt_of_le_of_ne onLine closed, lines := fits.lines, begun := fun _ => room, done := fits.done,
        cur := within, ref := fits.ref }

/-- Lines added equal to the reference line, as far as there is room. -/
theorem apply_repeat_fits (fits : ArtFits w a) (atStart : a.x = 0) (room : a.done.length + n ≤ 64) : ArtFits w (a.apply w 5 n) :=
  { x_lt := fits.x_lt, lines := by simpa [Art.apply] using room, begun := fun started => absurd atStart started,
    done := List.forall_mem_append.2 ⟨fits.done, fun l mem => List.eq_of_mem_replicate mem ▸ fits.ref⟩,
    cur := fits.cur, ref := fits.ref }

/-- A token that passes the tests, END apart, keeps line art within its strip. -/
theorem apply_fits (fits : ArtFits w a) (passes : tokenFault w kind n a = .none) (notEnd : kind ≠ 6) : ArtFits w (a.apply w kind n) := by
  obtain ⟨low, high, notFull, atStart, repeats, -, onLine⟩ := passes_tests passes
  have begun := fits.begun
  have lines := fits.lines
  have x_lt := fits.x_lt
  have cases : kind = 1 ∨ kind = 2 ∨ kind = 3 ∨ kind = 4 ∨ kind = 5 := by omega
  rcases cases with rfl | rfl | rfl | rfl | rfl
  · exact wrote_fits apply_white fits (onLine (by omega)) (by omega)
  · exact wrote_fits apply_black fits (onLine (by omega)) (by omega)
  · exact wrote_fits apply_copy fits (onLine (by omega)) (by omega)
  · exact wrote_fits (apply_rest (n := n)) fits (by omega) (by omega)
  · exact apply_repeat_fits fits (atStart le_rfl) (repeats rfl)

theorem ArtFits.written (fits : ArtFits w a) : a.written.length ≤ 64 ∧ ∀ l ∈ a.written, LineWithin w l := by
  unfold Art.written
  split
  · exact ⟨fits.lines, fits.done⟩
  · rename_i started
    exact ⟨by simpa using fits.begun started, List.forall_mem_append.2 ⟨fits.done, by simpa using fits.cur⟩⟩

/-- What line art comes to: 64 lines, or a fault and at most 64 lines, with no dot at or beyond W. -/
def ArtSound (w : Nat) : Except (FaultCause × List Line) (List Line) → Prop
  | .ok lines => lines.length = 64 ∧ ∀ l ∈ lines, LineWithin w l
  | .error (cause, lines) => cause ≠ .none ∧ lines.length ≤ 64 ∧ ∀ l ∈ lines, LineWithin w l

/-- Line art read on from within its strip, token by token. -/
theorem readArt_sound : ∀ (bytes : List Byte) {a : Art}, ArtFits w a → ArtSound w (readArt w a bytes)
  | k :: hi :: lo :: rest, a, fits => by
    rw [readArt_token]
    split_ifs with passes isEnd
    · obtain ⟨-, -, -, -, -, full, -⟩ := passes_tests passes
      exact ⟨le_antisymm fits.lines (full isEnd), fits.done⟩
    · exact readArt_sound rest (apply_fits fits passes isEnd)
    · exact ⟨passes, fits.written⟩
  | [], a, fits | [_], a, fits | [_, _], a, fits => by
    rw [readArt_short (by simp)]
    exact ⟨by decide, fits.written⟩

/-- Settles O26: each token by the equation of its kind, and the whole by the room that the tests keep. -/
theorem lineArtFillsTheStrip : Obligations.LineArtFillsTheStrip := by
  refine ⟨fun w codeLength body => rfl, ?_, fun w codeLength body lines width _ result => ?_,
    fun w codeLength body cause lines width _ result => ?_⟩
  · intro w a kind hi lo rest _ _ n read written
    refine ⟨fun fails => (readArt_token kind hi lo rest).trans (if_neg fails), fun passes => ?_,
      fun short lt => readArt_short lt⟩
    have next : read = if kind.toNat = 6 then .ok a.done else readArt w (a.apply w kind.toNat n) rest :=
      (readArt_token kind hi lo rest).trans (if_pos passes)
    rw [next]
    refine ⟨fun white => ?_, fun black => ?_, fun copy => ?_, fun toEnd => ?_, fun again => ?_, fun isEnd => if_pos isEnd⟩
    · exact ⟨_, apply_white, by rw [white]; rfl⟩
    · exact ⟨_, apply_black, by rw [black]; rfl⟩
    · exact ⟨_, apply_copy, by rw [copy]; rfl⟩
    · exact ⟨_, apply_rest (n := n), by rw [toEnd]; rfl⟩
    · rw [again]; rfl
  · have sound : ArtSound w (lineArt w codeLength body) := readArt_sound _ (fits_start width)
    rwa [result] at sound
  · have sound : ArtSound w (lineArt w codeLength body) := readArt_sound _ (fits_start width)
    rwa [result] at sound

end Sys2Proof.Proofs
end

section
/-! SUPPORT. A burst served, as the claims speak of it: what its requester does, and the grants beside its next ask (R105 to
R107, R109; log entry 9). -/

namespace Sys2Proof.Proofs

open Sys2Proof.Machine Sys2Proof.Claims

variable {s u : State} {st : Store} {a : Asker} {b : Burst} {g live : Bool} {words : List StoreWord}

/-! ### Bursts completed -/

/-- The store as a burst in service has left it, the next grant made where it comes before the next ask. -/
abbrev burstDone (g : Bool) (b : Burst) (st : Store) : Store :=
  if g then (st.afterBurst b).grant else st.afterBurst b

/-- u as its burst's requester finds it. -/
abbrev atReport (g : Bool) (b : Burst) (u : State) : State := { u with store := burstDone g b u.store }

/-- BURST_COMPLETE of a burst inside the band store. -/
theorem exec_burstComplete (serving : s.store.service = .burst a b live) (inside : b.addr + 8 ≤ 67108864) :
    exec (.burstComplete g) s = .next (s.transmit.completeBurst g a b live) := by
  show execBurstComplete g s = _
  simp only [execBurstComplete, serving]
  rw [if_pos (by unfold Config.storeWords; exact inside), run_next]

/-- BURST_COMPLETE of a burst that reaches past the last word (R101). -/
theorem exec_burstComplete_outside (serving : s.store.service = .burst a b live) (outside : 67108864 < b.addr + 8) :
    exec (.burstComplete g) s = .fault .outsideStore := by
  show execBurstComplete g s = _
  simp only [execBurstComplete, serving]
  rw [if_neg (by unfold Config.storeWords; omega)]

/-- A requester at work learns of its burst between the two grants (R107). -/
theorem completeBurst_live : u.completeBurst g a b true = State.onStore Store.grant
    (State.served a (u.store.burstWords b) (atReport g b u)) := by
  cases g <;> rfl

/-- A requester that has stopped learns nothing, and the next grant is made (R109). -/
theorem completeBurst_stopped : u.completeBurst g a b false = { u with store := (u.store.afterBurst b).grant } := by
  cases g
  · rfl
  · show ({ u with store := (u.store.afterBurst b).grant.grant } : State) = _
    rw [Store.grant_grant]

theorem afterBurst_write {ws : List StoreWord} (write : b.write = some ws) :
    st.afterBurst b = { st with memory := Memory.writeWords st.memory b.addr ws, service := .idle } := by
  simp only [Store.afterBurst, write]

theorem afterBurst_read (read : b.write = none) : st.afterBurst b = { st with seed := st.seed + 1, service := .idle } := by
  simp only [Store.afterBurst, read]

theorem burstWords_read (read : b.write = none) : st.burstWords b = Memory.readBurst st.memory st.seed b.addr := by
  simp only [Store.burstWords, read]

theorem readBurst_length (m : Memory) (seed addr : Nat) : (Memory.readBurst m seed addr).length = 8 := by
  simp [Memory.readBurst]

/-! ### The next ask and the grants -/

/-- A burst asked that waits for the next grant (R104). -/
def asking (a : Asker) (b : Burst) (st : Store) : Store :=
  match a with
  | .prefetch => { st with prefetch := some b }
  | .inspect => { st with inspect := some b }
  | .decoder => { st with writer := st.writer ++ [(.decoder, b)] }
  | .filler => { st with writer := st.writer ++ [(.filler, b)] }

theorem ask_eq (a : Asker) (b : Burst) (st : Store) : st.ask a b = (asking a b st).grant := by
  cases a <;> rfl

/-- The grant made with an ask and the one that ends the step come to one grant (R105, R106). -/
theorem grant_asked {c : Prop} [Decidable c] (next : Burst) :
    Store.grant (if c then (burstDone g b st).ask a next else burstDone g b st) =
      granted g (fun st => if c then asking a next st else st) (st.afterBurst b) := by
  unfold granted
  by_cases more : c
  · simp only [more, if_true, ask_eq, Store.grant_grant]
  · simp only [more, if_false]

/-! ### What a requester does when its burst is served -/

/-- The exposure prefetch takes the words and asks the next burst of its pass (R116). -/
theorem servedPrefetch_eq {q q' : Nat} {got : List StoreWord} (on : u.exposure.prefetchPass = some q)
    (fetching : u.exposure.buffers[q % 2]? = some (.fetching q' got)) : u.servedPrefetch words = { u with
      exposure := { u.exposure with buffers := u.exposure.buffers.set (q % 2) (.fetching q' (got ++ words)) }
      store := if (got ++ words).length < u.exposureWidth / 2 then
          u.store.ask .prefetch (u.passBurst q ((got ++ words).length / 8))
        else u.store } := by
  have buffer : u.exposure.buffers.getD (q % 2) .empty = .fetching q' got := by
    rw [List.getD_eq_getElem?_getD, fetching, Option.getD_some]
  have width : (u.onExposure fun e => { e with buffers := e.buffers.set (q % 2) (.fetching q' (got ++ words)) }).exposureWidth =
      u.exposureWidth := rfl
  simp only [State.servedPrefetch, on, buffer, width]
  split_ifs <;> (rw [← on]; rfl)

/-- The inspection fetch takes the words and asks the next burst of its line (R142). -/
theorem servedInspect_eq {y : Nat} {sc : Scan} {got : List StoreWord} (on : u.inspection.work = .scanning sc)
    (fetching : sc.expected = .fetching y got) : u.servedInspect words = { u with
      inspection := { u.inspection with work := .scanning { sc with expected := .fetching y (got ++ words) } }
      store := if (got ++ words).length < u.scanWords sc.bay then
          u.store.ask .inspect (u.scanBurst sc.bay y ((got ++ words).length / 8))
        else u.store } := by
  have lineWords : (u.setWork (.scanning { sc with expected := .fetching y (got ++ words) })).scanWords sc.bay =
      u.scanWords sc.bay := rfl
  simp only [State.servedInspect, on, fetching, lineWords]
  split_ifs <;> rfl

/-- The decoder counts the burst and asks the next one of its strip (R64). -/
theorem servedDecoder_eq {i served : Nat} {ctx : StripContext} {lines : List Line}
    (here : u.decoder.buffers[i]? = some (.writing ctx lines served))
    (before : ∀ j, j < i → (u.decoder.buffers[j]?).map StripBuffer.isWriting = some false) : u.servedDecoder = { u with
      decoder := { u.decoder with buffers := u.decoder.buffers.set i (.writing ctx lines (served + 1)) }
      store := if served + 1 < ctx.w / 8 then u.store.ask .decoder (u.stripBurst ctx lines (served + 1)) else u.store } := by
  simp only [State.servedDecoder, findIdx?_of_before here rfl before, getD_of_getElem? here]
  split_ifs <;> rfl

/-- The filler counts the burst and asks the next one of its strip (R94). -/
theorem servedFiller_eq {f : FillContext} (on : u.filler.fill = some f) : u.servedFiller = { u with
      filler := { u.filler with fill := some { f with
        served := f.served + 1
        requested := if f.requested < f.w / 8 then f.requested + 1 else f.requested } }
      store := if f.requested < f.w / 8 then u.store.ask .filler (u.fillBurst f f.requested) else u.store } := by
  simp only [State.servedFiller, on]
  split_ifs <;> rfl

/-- From st to st' this requester asks at most a burst. -/
abbrev MayAsk (a : Asker) (st st' : Store) : Prop := st' = st ∨ ∃ next, st' = st.ask a next

theorem mayAsk_ite {v : State} {c : Prop} [Decidable c] {next : Burst} (same : v.store = u.store) :
    MayAsk a u.store (if c then v.onStore (Store.ask a next) else v).store := by
  rw [← same]
  split
  · exact .inr ⟨next, rfl⟩
  · exact .inl rfl

/-- Whoever is served, at most a burst is asked. -/
theorem served_mayAsk : MayAsk a u.store (u.served a words).store := by
  cases a with
  | prefetch =>
    simp only [State.served, State.servedPrefetch]
    split
    · exact .inl rfl
    · split
      · exact mayAsk_ite rfl
      · exact .inl rfl
  | inspect =>
    simp only [State.served, State.servedInspect]
    split
    · split
      · exact mayAsk_ite rfl
      · exact .inl rfl
    · exact .inl rfl
  | decoder =>
    simp only [State.served, State.servedDecoder]
    split
    · exact .inl rfl
    · split
      · exact mayAsk_ite rfl
      · exact .inl rfl
  | filler =>
    cases on : u.filler.fill with
    | none => exact .inl (by simp only [State.served, State.servedFiller, on])
    | some f =>
      rw [State.served, servedFiller_eq on]
      split
      · exact .inr ⟨_, rfl⟩
      · exact .inl rfl

theorem served_memory : (u.served a words).store.memory = u.store.memory := by
  rcases served_mayAsk (u := u) (a := a) (words := words) with same | ⟨next, asked⟩
  · rw [same]
  · rw [asked, Store.ask_memory]

theorem served_owed : (u.served a words).store.owed = u.store.owed := by
  rcases served_mayAsk (u := u) (a := a) (words := words) with same | ⟨next, asked⟩
  · rw [same]
  · rw [asked, Store.ask_owed]

/-- No burst served changes what the emitters show (R113). -/
theorem served_emitters : (u.served a words).exposure.emitters = u.exposure.emitters := by
  cases a with
  | prefetch =>
    show (u.servedPrefetch words).exposure.emitters = _
    unfold State.servedPrefetch
    split
    · rfl
    · split
      · dsimp only
        split <;> rfl
      · rfl
  | inspect => exact congrArg Exposure.emitters (u.servedInspect_exposure words)
  | decoder => exact congrArg Exposure.emitters u.servedDecoder_exposure
  | filler => exact congrArg Exposure.emitters u.servedFiller_exposure

/-- A completed burst leaves the words that it has written, and no others. -/
theorem completeBurst_memory : (u.completeBurst g a b live).store.memory = (u.store.afterBurst b).memory := by
  cases live with
  | false => rw [completeBurst_stopped, Store.grant_memory]
  | true =>
    rw [completeBurst_live, State.onStore_store, Store.grant_memory, served_memory]
    cases g <;> simp [burstDone]

theorem completeBurst_owed : (u.completeBurst g a b live).store.owed = u.store.owed := by
  have after : (u.store.afterBurst b).owed = u.store.owed := by
    unfold Store.afterBurst
    split <;> rfl
  cases live with
  | false => rw [completeBurst_stopped, Store.grant_owed, after]
  | true =>
    rw [completeBurst_live, State.onStore_store, Store.grant_owed, served_owed]
    cases g <;> simp [burstDone, after]

theorem completeBurst_emitters : (u.completeBurst g a b live).exposure.emitters = u.exposure.emitters := by
  cases live with
  | false => rw [completeBurst_stopped]
  | true => rw [completeBurst_live, State.onStore_exposure, served_emitters]

end Sys2Proof.Proofs
end

section
/-! CLAIMS SETTLED. Bursts served, requester by requester (R101, R105 to R107, R109). -/

namespace Sys2Proof.Proofs

open Sys2Proof.Machine Sys2Proof.Claims

variable {s u : State} {a : Asker} {b : Burst} {g : Bool} {ws : List StoreWord}

/-- A read for the pass fetch completes (R107, R116). -/
theorem completeBurst_prefetch {q q' : Nat} {got : List StoreWord} (read : b.write = none)
    (on : u.exposure.prefetchPass = some q) (fetching : u.exposure.buffers[q % 2]? = some (.fetching q' got)) :
    u.completeBurst g .prefetch b true = { u with
      exposure := { u.exposure with
        buffers := u.exposure.buffers.set (q % 2)
          (.fetching q' (got ++ Memory.readBurst u.store.memory u.store.seed b.addr)) }
      store := granted g (fun st => if got.length + 8 < u.exposureWidth / 2 then
          asking .prefetch (u.passBurst q ((got.length + 8) / 8)) st else st)
        { u.store with seed := u.store.seed + 1, service := .idle } } := by
  rw [completeBurst_live, burstWords_read read, ← afterBurst_read read, ← grant_asked]
  refine (congrArg (State.onStore Store.grant) (servedPrefetch_eq (u := atReport g b u) on fetching)).trans ?_
  rw [List.length_append, readBurst_length]
  rfl

/-- A read for the inspection fetch completes (R107, R142). -/
theorem completeBurst_inspect {y : Nat} {sc : Scan} {got : List StoreWord} (read : b.write = none)
    (on : u.inspection.work = .scanning sc) (fetching : sc.expected = .fetching y got) :
    u.completeBurst g .inspect b true = { u with
      inspection := { u.inspection with work := .scanning { sc with
        expected := .fetching y (got ++ Memory.readBurst u.store.memory u.store.seed b.addr) } }
      store := granted g (fun st => if got.length + 8 < u.scanWords sc.bay then
          asking .inspect (u.scanBurst sc.bay y ((got.length + 8) / 8)) st else st)
        { u.store with seed := u.store.seed + 1, service := .idle } } := by
  rw [completeBurst_live, burstWords_read read, ← afterBurst_read read, ← grant_asked]
  refine (congrArg (State.onStore Store.grant) (servedInspect_eq (u := atReport g b u) on fetching)).trans ?_
  rw [List.length_append, readBurst_length]
  rfl

/-- A burst of a strip write completes (R64, R107). -/
theorem completeBurst_decoder {i served : Nat} {ctx : StripContext} {lines : List Line} (write : b.write = some ws)
    (here : u.decoder.buffers[i]? = some (.writing ctx lines served))
    (before : ∀ j, j < i → (u.decoder.buffers[j]?).map StripBuffer.isWriting = some false) :
    u.completeBurst g .decoder b true = { u with
      decoder := { u.decoder with buffers := u.decoder.buffers.set i (.writing ctx lines (served + 1)) }
      store := granted g (fun st => if served + 1 < ctx.w / 8 then
          asking .decoder (u.stripBurst ctx lines (served + 1)) st else st)
        { u.store with memory := Memory.writeWords u.store.memory b.addr ws, service := .idle } } := by
  rw [completeBurst_live, ← afterBurst_write write, ← grant_asked]
  exact congrArg (State.onStore Store.grant) (servedDecoder_eq (u := atReport g b u) here before)

/-- A burst of a hatch fill completes (R94, R107). -/
theorem completeBurst_filler {f : FillContext} (write : b.write = some ws) (on : u.filler.fill = some f) :
    u.completeBurst g .filler b true = { u with
      filler := { u.filler with fill := some { f with
        served := f.served + 1
        requested := if f.requested < f.w / 8 then f.requested + 1 else f.requested } }
      store := granted g (fun st => if f.requested < f.w / 8 then asking .filler (u.fillBurst f f.requested) st else st)
        { u.store with memory := Memory.writeWords u.store.memory b.addr ws, service := .idle } } := by
  rw [completeBurst_live, ← afterBurst_write write, ← grant_asked]
  exact congrArg (State.onStore Store.grant) (servedFiller_eq (u := atReport g b u) on)

theorem transmit_bayBase (n : Nat) : s.transmit.bayBase n = s.bayBase n := by
  rw [State.bayBase, State.transmit_settings]
  rfl

/-- Burst k of pass q of the plate being exposed (R103). -/
theorem passBurst_eq {n q k : Nat} {key : PlateKey} {p : Plate} (current : u.exposure.current = some (n, key))
    (resident : u.plate? n = some p) :
    u.passBurst q k = { addr := u.bayBase n + q * (p.w / 2) + 8 * k, write := none } := by
  simp [State.passBurst, State.exposureBase, State.exposureWidth, current, resident]

/-- Settles O36: what every written burst leaves, then each requester's own bursts, those of one that has stopped, and those
beyond the band store. -/
theorem burstCompletesIntoStore : Obligations.BurstCompletesIntoStore := by
  refine ⟨fun g live a b ws s serving write inside => ?_, fun g b q q' got s serving read inside on fetching => ?_,
    fun g b y sc p got s serving read inside on fetching resident => ?_,
    fun g b ws i ctx lines served s serving write inside here before => ?_,
    fun g b ws f s serving write inside on => ?_, fun g a b s serving inside => ⟨fun ws write => ?_, fun read => ?_⟩,
    fun g live a b s serving outside => exec_burstComplete_outside serving outside⟩
  · refine ⟨_, exec_burstComplete serving inside, fun addr => ?_, by simp, by simp, ?_, by simp, by simp, ?_, by simp, by simp,
      by simp, by simp⟩
    · rw [completeBurst_memory, afterBurst_write write, State.transmit_store]
      exact Memory.read_writeWords _ _ _ _
    · rw [completeBurst_emitters, State.transmit_exposure]
    · rw [completeBurst_owed, State.transmit_store]
  · have completes := completeBurst_prefetch (u := s.transmit) (g := g) read (by simpa using on) (by simpa using fetching)
    refine ⟨_, exec_burstComplete serving inside, ?_, ?_, by simp, by simp, by simp, by simp, by simp, by simp, ?_, by simp,
      ?_, ?_, by simp, fun n key p current resident => ?_⟩
    · rw [completeBurst_memory, afterBurst_read read, State.transmit_store]
    · rw [completes, State.transmit_exposure, State.transmit_store]; rfl
    · rw [completes]; exact s.transmit_decoder
    · rw [completes]; exact s.transmit_filler
    · rw [completes]; exact s.transmit_inspection
    · have width : s.transmit.exposureWidth = p.w := by simp [State.exposureWidth, current, resident]
      rw [completes, width, passBurst_eq (by simpa using current) ((transmit_plate? n).trans resident), transmit_bayBase,
        State.transmit_store]
      rfl
  · have lineWords : s.transmit.scanWords sc.bay = s.settings.resolution.side * (p.w / 64) := by
      simp [State.scanWords, resident]
    rw [exec_burstComplete serving inside, completeBurst_inspect read (by simpa using on) fetching, State.scanBurst, lineWords,
      transmit_bayBase, State.transmit_inspection, State.transmit_store]
    rfl
  · rw [exec_burstComplete serving inside, completeBurst_decoder write (by simpa using here) (by simpa using before),
      State.stripBurst, transmit_bayBase, State.transmit_decoder, State.transmit_store]
    rfl
  · rw [exec_burstComplete serving inside, completeBurst_filler write (by simpa using on), State.fillBurst, transmit_bayBase,
      State.transmit_filler, State.transmit_store]
    rfl
  · rw [exec_burstComplete serving inside, completeBurst_stopped, afterBurst_write write, State.transmit_store]
  · rw [exec_burstComplete serving inside, completeBurst_stopped, afterBurst_read read, State.transmit_store]

end Sys2Proof.Proofs
end

section
/-! SUPPORT. The contents of the screen and curve slots: every operation leaves them alone but a full reset, LOAD SCREEN and
LOAD CURVE (R75, R77, R80, R83). -/

namespace Sys2Proof.Machine

/-- The contents of the screen and curve slots (R75, R77). -/
def Screening.slots (x : Screening) : List (Option Screen) × List (List Nat) := (x.screens, x.curves)

/-- A window begun, applied or abandoned is no part of a slot. -/
@[simp] theorem Screening.slots_work (x : Screening) (work : Option WindowContext) : { x with work }.slots = x.slots := rfl

variable (s : State)

/-- Slots kept by the treatment of each item are kept over a list. -/
theorem State.foldl_slots {α : Type} (f : State → α → State) (hf : ∀ (s : State) a, (f s a).screening.slots = s.screening.slots)
    (l : List α) : (l.foldl f s).screening.slots = s.screening.slots := by
  induction l generalizing s with
  | nil => rfl
  | cons a l ih => exact (ih (f s a)).trans (hf s a)

/-! ### Freeing and approvals -/

@[simp] theorem State.abandonBay_slots (n : Nat) : (s.abandonBay n).screening.slots = s.screening.slots := by
  unfold State.abandonBay
  dsimp only
  split <;> rfl

@[simp] theorem State.letGo_slots (n : Nat) (p : Plate) : (s.letGo n p).screening.slots = s.screening.slots := by
  unfold State.letGo
  split
  · dsimp only
    split <;> simp
  · simp
  · rfl
  · rfl

@[simp] theorem State.freeBay_slots (n : Nat) : (s.freeBay n).screening.slots = s.screening.slots := by
  unfold State.freeBay
  split <;> simp

@[simp] theorem State.freeBays_slots (ns : List Nat) : (s.freeBays ns).screening.slots = s.screening.slots :=
  s.foldl_slots _ (fun u n => u.freeBay_slots n) ns

@[simp] theorem State.judgeApproval_slots (n : Nat) (entry : Option Nat) :
    (s.judgeApproval n entry).1.screening.slots = s.screening.slots := by
  rcases s.judgeApproval_cases n entry with ⟨r, h⟩ | ⟨p, -, h⟩ | ⟨p, -, -, h⟩ <;> rw [h] <;> simp

@[simp] theorem State.judgeHeld_slots (n : Nat) : (s.judgeHeld n).screening.slots = s.screening.slots := by
  rcases s.judgeHeld_judged n with h | ⟨p, k, r, -, -, h⟩ <;> rw [h]; simp

/-! ### The decoder -/

@[simp] theorem State.proceed_slots (i : Nat) (ctx : StripContext) (block : Block) (lines : List Line) (k : Nat) :
    (s.proceed i ctx block lines k).screening.slots = s.screening.slots := by
  unfold State.proceed
  split <;> simp

@[simp] theorem State.bindBlock_slots (i n : Nat) (p : Plate) (block : Block) :
    (s.bindBlock i n p block).screening.slots = s.screening.slots := by
  unfold State.bindBlock
  dsimp only
  (repeat' split) <;> simp

@[simp] theorem State.blockTake_slots : s.blockTake.screening.slots = s.screening.slots := by
  rcases s.blockTake_cases with h | ⟨b, rest, -, -, h⟩ <;> rw [h]
  rcases State.judgeBlock_cases b { s with intake := { s.intake with queue := rest } } with
    h | ⟨n, p, -, -, -, h⟩ | ⟨n, p, -, -, -, h⟩ <;> rw [h] <;> simp

@[simp] theorem State.windowApplied_slots : s.windowApplied.screening.slots = s.screening.slots := by
  unfold State.windowApplied
  split
  · rfl
  · split
    · simp
    · rfl

@[simp] theorem State.completeWrite_slots (takeFirst : Bool) (i : Nat) (ctx : StripContext) :
    (s.completeWrite takeFirst i ctx).screening.slots = s.screening.slots := by
  unfold State.completeWrite
  dsimp only
  split <;> simp

@[simp] theorem State.stripWriteComplete_slots (takeFirst : Bool) :
    (s.stripWriteComplete takeFirst).screening.slots = s.screening.slots := by
  unfold State.stripWriteComplete
  (repeat' split) <;> simp

/-! ### Exposures and plant lines -/

@[simp] theorem State.abort_slots (cause : AbortCause) : (s.abort cause).screening.slots = s.screening.slots := by
  unfold State.abort State.bayReturned
  dsimp only
  (repeat' split) <;> simp

@[simp] theorem State.interlockFall_slots (cause : AbortCause) :
    (s.interlockFall cause).screening.slots = s.screening.slots := by
  unfold State.interlockFall
  split <;> simp

@[simp] theorem State.drumIndex_slots : s.drumIndex.screening.slots = s.screening.slots := by
  unfold State.drumIndex State.nextPass
  dsimp only
  (repeat' split) <;> simp

@[simp] theorem State.reportEdge_slots (n : Nat) (level : Bool) :
    (s.reportEdge n level).screening.slots = s.screening.slots := by
  unfold State.reportEdge
  (repeat' split) <;> simp

@[simp] theorem State.takeEdge_slots (n : Nat) : (s.takeEdge n).screening.slots = s.screening.slots := by
  unfold State.takeEdge
  dsimp only
  split <;> simp

@[simp] theorem State.inputEdge_slots (n : Nat) : (s.inputEdge n).screening.slots = s.screening.slots := by
  unfold State.inputEdge
  split <;> simp

@[simp] theorem State.takeDueEdges_slots : s.takeDueEdges.screening.slots = s.screening.slots :=
  s.foldl_slots _ (fun u n => u.inputEdge_slots n) _

/-- A tick takes the edges still due and counts; a count is no part of a slot. -/
@[simp] theorem State.lineTick_slots : s.lineTick.screening.slots = s.screening.slots := by
  unfold State.lineTick
  dsimp only
  exact s.takeDueEdges_slots

@[simp] theorem State.rawLevelChange_slots (n : Nat) (level : Bool) :
    (s.rawLevelChange n level).screening.slots = s.screening.slots := by
  unfold State.rawLevelChange
  dsimp only
  split <;> simp

@[simp] theorem State.takeUndebounced_slots : s.takeUndebounced.screening.slots = s.screening.slots := by
  refine s.foldl_slots _ (fun u n => ?_) _
  split <;> simp

/-! ### Resets and sends -/

@[simp] theorem State.answerPlateWork_slots (approvals : List Nat) (calibration : Option Nat) :
    (s.answerPlateWork approvals calibration).screening.slots = s.screening.slots := by
  refine s.foldl_slots _ (fun u e => ?_) _
  (repeat' split) <;> simp

/-- RESET PLATES stops the Screening Unit and leaves its slots alone (R89). -/
@[simp] theorem State.resetPlates_slots : s.resetPlates.screening.slots = s.screening.slots := by
  have cleared : ∀ u : State, u.clearPlates.screening.slots = u.screening.slots := fun u => rfl
  unfold State.resetPlates
  dsimp only
  (repeat' split) <;> simp [cleared]

@[simp] theorem State.noticeSent_slots : s.noticeSent.screening.slots = s.screening.slots := by
  unfold State.noticeSent State.noticeReported
  (repeat' split) <;> simp

end Sys2Proof.Machine
end

section
/-! CLAIMS SETTLED. The slots that FILLING bays declare keep their contents (R85). -/

namespace Sys2Proof.Proofs

open Sys2Proof.Machine Sys2Proof.Claims

variable {s t u v : State} {addr kind tag : Byte}

/-! ### Slots kept -/

/-- Slots left alone are kept. -/
theorem slotsKept_of_slots (same : t.screening.slots = s.screening.slots) : SlotsKept s t := by
  obtain ⟨screens, curves⟩ := Prod.mk.inj same
  intro n i p p' _ _ _ _
  exact ⟨fun _ => by rw [screens], fun _ => by rw [curves]⟩

/-- With every bay FREE no slot is declared. -/
theorem slotsKept_of_free (free : ∀ n, t.plate? n = none) : SlotsKept s t := by
  intro n i p p' _ _ hp'
  rw [free n] at hp'
  cases hp'

/-- Only the bay tables and the slots count. -/
theorem slotsKept_congr (bays : s.bays = u.bays) (slots : s.screening.slots = u.screening.slots) (bays' : t.bays = v.bays)
    (slots' : t.screening.slots = v.screening.slots) (h : SlotsKept u v) : SlotsKept s t := by
  obtain ⟨screens, curves⟩ := Prod.mk.inj slots
  obtain ⟨screens', curves'⟩ := Prod.mk.inj slots'
  intro n i p p' hp filling hp' filling'
  rw [State.plate?_congr bays] at hp
  rw [State.plate?_congr bays'] at hp'
  rw [screens, curves, screens', curves']
  exact h n i p p' hp filling hp' filling'

theorem fullReset_slotsKept (kind : ResetKind) (straps : BitVec 2) (s : State) : SlotsKept s (s.fullReset kind straps) :=
  slotsKept_of_free (State.plate?_replicate (k := 8) rfl)

/-! ### Owners -/

/-- A slot that some FILLING bay declares is protected, and no other is (R85). -/
theorem protectedSlot_iff (set : Plate → Byte) (slot : Nat) :
    s.protectedSlot set slot = true ↔ ∃ n p, s.plate? n = some p ∧ p.state = .filling ∧ (set p).getLsbD slot = true := by
  simp only [State.protectedSlot, any_bays_iff, Bool.and_eq_true, decide_eq_true_eq]

/-- A LOAD SCREEN that replaces its slot finds it declared by no FILLING bay (R85). -/
theorem loadScreen_slotsKept (body : List Byte) (s : State) : SlotsKept s (s.loadScreen body).1 := by
  unfold State.loadScreen
  split
  · exact slotsKept_of_slots rfl
  · split
    · exact slotsKept_of_slots rfl
    · rename_i free
      intro n i p p' hp filling _ _
      refine ⟨fun declared => ?_, fun _ => rfl⟩
      have other : byteAt body 0 ≠ i := fun here =>
        free ((protectedSlot_iff Plate.screenSet _).2 ⟨n, p, hp, filling, here ▸ declared⟩)
      exact List.getElem?_set_ne other

/-- A LOAD CURVE that replaces its slot finds it declared by no FILLING bay (R85). -/
theorem loadCurve_slotsKept (body : List Byte) (s : State) : SlotsKept s (s.loadCurve body).1 := by
  unfold State.loadCurve
  split
  · exact slotsKept_of_slots rfl
  · split
    · exact slotsKept_of_slots rfl
    · rename_i free
      intro n i p p' hp filling _ _
      refine ⟨fun _ => rfl, fun declared => ?_⟩
      have other : byteAt body 0 ≠ i := fun here =>
        free ((protectedSlot_iff Plate.curveSet _).2 ⟨n, p, hp, filling, here ▸ declared⟩)
      exact List.getElem?_set_ne other

/-- What the owner does keeps the declared slots, for every entry and state. -/
def KeepsSlots (owner : Owner) : Prop := ∀ (slot : Option Nat) (s : State), SlotsKept s (owner slot s).1

/-- An owner that leaves every slot alone. -/
theorem KeepsSlots.of_slots {owner : Owner} (h : ∀ slot s, (owner slot s).1.screening.slots = s.screening.slots) :
    KeepsSlots owner := fun slot s => slotsKept_of_slots (h slot s)

theorem fixedBody_keepsSlots (n : Nat) (body : List Byte) {owner : Owner} (h : KeepsSlots owner) :
    KeepsSlots (fixedBody n body owner) := by
  intro slot s
  unfold fixedBody
  split
  · exact h slot s
  · exact slotsKept_of_slots rfl

theorem plateRequest_keepsSlots (body : List Byte) {rule : Nat → Plate → Owner} (h : ∀ n p, KeepsSlots (rule n p)) :
    KeepsSlots (plateRequest body rule) := by
  intro slot s
  unfold plateRequest
  split
  · exact slotsKept_of_slots rfl
  · exact h _ _ slot s

theorem ownConfigure_keepsSlots (body : List Byte) : KeepsSlots (ownConfigure body) := by
  refine fixedBody_keepsSlots 9 body (.of_slots fun _ s => ?_)
  unfold State.configure
  split
  · rfl
  · rename_i c _
    obtain ⟨bays, link, h, -⟩ := s.configured_frame c
    split
    · rw [done, h]
    · rfl

theorem ownReset_keepsSlots (body : List Byte) : KeepsSlots (ownReset body) := by
  refine fixedBody_keepsSlots 1 body fun slot s => ?_
  unfold resetRule
  split
  · split
    · exact slotsKept_of_slots rfl
    · exact fullReset_slotsKept _ _ s
  · exact slotsKept_of_slots s.resetPlates_slots
  · exact slotsKept_of_slots rfl

/-- The slots that a plate just opened declares are left alone as well (R5). -/
theorem ownOpenPlate_keepsSlots (body : List Byte) : KeepsSlots (ownOpenPlate body) := by
  refine fixedBody_keepsSlots 12 body (.of_slots fun _ s => ?_)
  rcases s.openPlate_cases (openFields body) with ⟨r, h⟩ | ⟨n, -, -, -, h⟩ <;> rw [h]
  simp [State.fillBay]

theorem ownStripBlock_keepsSlots (body : List Byte) : KeepsSlots (ownStripBlock body) := by
  refine .of_slots fun _ s => ?_
  unfold ownStripBlock State.stripBlock
  split
  · rfl
  · rename_i b _
    split
    · show (s.countForeign b).screening.slots = _
      rcases s.countForeign_cases b with h | ⟨n, h⟩ <;> rw [h]
      simp
    · unfold State.placeBlock State.admitBlock
      (repeat' split) <;> rfl

theorem approveRule_keepsSlots (n : Nat) (p : Plate) : KeepsSlots (approveRule n p) := by
  refine .of_slots fun slot s => ?_
  unfold approveRule
  split
  · rfl
  · split
    · rfl
    · split
      · simp [State.holdApproval]
      · exact s.judgeApproval_slots n slot

theorem releaseRule_keepsSlots (n : Nat) (p : Plate) : KeepsSlots (releaseRule n p) := by
  refine .of_slots fun slot s => ?_
  unfold releaseRule
  cases p.state with
  | filling | approving | queued | held => exact s.freeBay_slots n
  | exposing | exposed | inspecting => rfl

theorem priorityRule_keepsSlots (n : Nat) (p : Plate) : KeepsSlots (priorityRule n p) := by
  refine .of_slots fun slot s => ?_
  unfold priorityRule
  split <;> rfl

theorem reexposeRule_keepsSlots (n : Nat) (p : Plate) : KeepsSlots (reexposeRule n p) := by
  refine .of_slots fun slot s => ?_
  unfold reexposeRule
  split
  · rfl
  · split
    · rfl
    · simp [done]

theorem readStripsRule_keepsSlots (first count n : Nat) (p : Plate) : KeepsSlots (readStripsRule first count n p) := by
  refine .of_slots fun slot s => ?_
  unfold readStripsRule
  split <;> rfl

theorem readDefectsRule_keepsSlots (n : Nat) (p : Plate) : KeepsSlots (readDefectsRule n p) := by
  refine .of_slots fun slot s => ?_
  unfold readDefectsRule
  split <;> rfl

theorem ownSetSkew_keepsSlots (body : List Byte) : KeepsSlots (ownSetSkew body) := by
  refine .of_slots fun _ s => ?_
  unfold ownSetSkew State.setSkew
  (repeat' split) <;> rfl

theorem ownStartExposure_keepsSlots (body : List Byte) : KeepsSlots (ownStartExposure body) := by
  refine fixedBody_keepsSlots 0 body (.of_slots fun _ s => ?_)
  unfold State.startExposure
  split
  · rfl
  · split
    · simp
    · rfl

theorem ownAbortExposure_keepsSlots (body : List Byte) : KeepsSlots (ownAbortExposure body) := by
  refine fixedBody_keepsSlots 6 body (.of_slots fun _ s => ?_)
  unfold State.abortExposure
  split
  · rfl
  · split
    · simp [done]
    · rfl

theorem ownCalibrateScanner_keepsSlots (body : List Byte) : KeepsSlots (ownCalibrateScanner body) := by
  refine fixedBody_keepsSlots 1 body (.of_slots fun _ s => ?_)
  unfold calibrateRule
  (repeat' split) <;> rfl

theorem ownSetInspection_keepsSlots (body : List Byte) : KeepsSlots (ownSetInspection body) := by
  refine .of_slots fun _ s => ?_
  unfold ownSetInspection State.setInspection
  split <;> rfl

theorem ownSetLines_keepsSlots (body : List Byte) : KeepsSlots (ownSetLines body) := by
  refine .of_slots fun _ s => ?_
  unfold ownSetLines State.setLines
  split
  · simp [done]
  · rfl

/-- The owner of any request keeps the declared slots: LOAD SCREEN and LOAD CURVE refuse them (R85), a broadcast RESET FULL
leaves no FILLING bay, and no other owner touches a slot. -/
theorem ownerOf_keepsSlots (kind : Byte) (body : List Byte) : KeepsSlots (ownerOf kind body) := by
  have unchanged : ∀ {owner : Owner}, (∀ slot s, (owner slot s).1.screening = s.screening) → KeepsSlots owner :=
    fun h => .of_slots fun slot s => congrArg Screening.slots (h slot s)
  unfold ownerOf
  split
  · exact ownConfigure_keepsSlots body
  · exact fixedBody_keepsSlots 0 body (unchanged fun _ _ => rfl)
  · exact ownReset_keepsSlots body
  · exact ownOpenPlate_keepsSlots body
  · exact ownStripBlock_keepsSlots body
  · exact fixedBody_keepsSlots 6 body (plateRequest_keepsSlots body approveRule_keepsSlots)
  · exact fixedBody_keepsSlots 6 body (plateRequest_keepsSlots body releaseRule_keepsSlots)
  · exact fixedBody_keepsSlots 6 body (plateRequest_keepsSlots body priorityRule_keepsSlots)
  · exact fixedBody_keepsSlots 6 body (plateRequest_keepsSlots body reexposeRule_keepsSlots)
  · exact fixedBody_keepsSlots 6 body (plateRequest_keepsSlots body fun _ _ => unchanged fun _ _ => rfl)
  · exact fixedBody_keepsSlots 10 body (plateRequest_keepsSlots body (readStripsRule_keepsSlots _ _))
  · exact fixedBody_keepsSlots 6 body (plateRequest_keepsSlots body readDefectsRule_keepsSlots)
  · exact fun _ s => loadScreen_slotsKept body s
  · exact fun _ s => loadCurve_slotsKept body s
  · exact ownSetSkew_keepsSlots body
  · exact ownStartExposure_keepsSlots body
  · exact ownAbortExposure_keepsSlots body
  · exact ownCalibrateScanner_keepsSlots body
  · exact ownSetInspection_keepsSlots body
  · exact ownSetLines_keepsSlots body
  · exact fixedBody_keepsSlots 0 body (unchanged fun _ _ => rfl)
  · exact fixedBody_keepsSlots 1 body (unchanged fun _ _ => rfl)
  · exact unchanged fun _ _ => rfl

/-! ### Frames and characters -/

@[simp] theorem deliver_screening (slot : Nat) (x : State × Option Reply) : (deliver slot x).screening = x.1.screening := by
  obtain ⟨t, _ | r⟩ := x
  · rfl
  · exact State.answer_screening t slot r

/-- A request keeps the declared slots: its entry and its answer are no part of a bay or a slot. -/
theorem request_slotsKept (kind tag : Byte) (body : List Byte) (s : State) :
    SlotsKept s (s.request kind tag (ownerOf kind body)) := by
  unfold State.request
  split
  · refine slotsKept_congr ?_ ?_ (deliver_bays _ _) (by rw [deliver_screening]) (ownerOf_keepsSlots kind body _ _)
    · rfl
    · rfl
  · exact slotsKept_of_slots (by rw [State.refuseBusy_frame])

theorem takeFrame_slotsKept (addr kind tag : Byte) (body : List Byte) (s : State) :
    SlotsKept s (s.takeFrame addr kind tag (ownerOf kind body)) := by
  unfold State.takeFrame
  split
  · exact request_slotsKept kind tag body s
  · split
    · exact ownerOf_keepsSlots kind body none s
    · exact slotsKept_of_slots rfl

/-- A frame taken in HUNTING: the receiver is no part of a bay or a slot. -/
theorem hunt_takeFrame_slotsKept (addr kind tag : Byte) (body : List Byte) (s : State) :
    SlotsKept s (s.hunt.takeFrame addr kind tag (ownerOf kind body)) :=
  slotsKept_congr s.hunt_bays.symm (by rw [s.hunt_screening]) rfl rfl (takeFrame_slotsKept addr kind tag body s.hunt)

theorem judgeFrame_slotsKept (addr kind tag : Byte) (body : List Byte) (check : BitVec 16) (s : State) :
    SlotsKept s (s.judgeFrame addr kind tag body check) := by
  unfold State.judgeFrame
  split
  · exact slotsKept_of_slots rfl
  · split
    · exact hunt_takeFrame_slotsKept addr kind tag body s
    · exact slotsKept_of_slots rfl

theorem takeCharacter_slotsKept (c : Byte) (s : State) : SlotsKept s (s.takeCharacter c) := by
  unfold State.takeCharacter
  split
  · split
    · exact slotsKept_of_slots rfl
    · exact slotsKept_of_slots rfl
  · unfold State.joinCharacter
    split
    · exact judgeFrame_slotsKept _ _ _ _ _ s
    · exact slotsKept_of_slots rfl

/-- A frame that comes in HUNTING is the only one of its step. -/
theorem receive_slotsKept {body : List Byte} (hunting : s.link.receiver = .hunting) :
    SlotsKept s (s.receive addr kind tag body (ownerOf kind body)) := by
  simp only [State.receive, hunting, Receiver.admits, if_true]
  split
  · exact slotsKept_of_slots rfl
  · exact hunt_takeFrame_slotsKept addr kind tag body s

theorem endFrame_slotsKept {body : List Byte} (check : BitVec 16) (hunting : s.link.receiver = .hunting) :
    SlotsKept s (s.endFrame addr kind tag body check) := by
  simp only [State.endFrame, hunting, Receiver.admits, if_true]
  exact judgeFrame_slotsKept addr kind tag body check s

/-! ### Steps -/

/-- The end of a send leaves the slots alone, but for a RESET FULL that its answer was waited for (R179). -/
theorem answerSent_slotsKept (s : State) : SlotsKept s s.answerSent := by
  unfold State.answerSent
  split
  · split
    · exact fullReset_slotsKept _ _ s
    · exact slotsKept_of_slots (by simp)
  · exact slotsKept_of_slots rfl

/-- The transmitter's choice, made first, is no part of a bay or a slot. -/
theorem run_slotsKept {f : State → State} (h : SlotsKept s.transmit (f s.transmit)) (ht : run f s = .next t) :
    SlotsKept s t := by
  cases ht
  exact slotsKept_congr s.transmit_bays.symm (by rw [s.transmit_screening]) rfl rfl h

/-- A command of one frame at most keeps the declared slots. -/
theorem exec_slotsKept (c : Instr) (one : s.link.receiver = .hunting ∨ isFrame c = false) (h : exec c s = .next t) :
    SlotsKept s t := by
  have hunting : isFrame c = true → s.transmit.link.receiver = .hunting := fun hf => by
    rcases one with hr | hn
    · simpa using hr
    · rw [hf] at hn; cases hn
  have frame : ∀ addr kind tag body, isFrame c = true →
      run (State.receive addr kind tag body (ownerOf kind body)) s = .next t → SlotsKept s t :=
    fun addr kind tag body hf => run_slotsKept (receive_slotsKept (hunting hf))
  have event : ∀ {f : State → State}, (∀ u : State, (f u).screening.slots = u.screening.slots) →
      run f s = .next t → SlotsKept s t := fun hf => run_slotsKept (slotsKept_of_slots (hf _))
  have still : ∀ {f : State → State}, (∀ u : State, (f u).screening = u.screening) → run f s = .next t → SlotsKept s t :=
    fun hf => event fun u => congrArg Screening.slots (hf u)
  cases c with
  | configure addr tag body => exact frame addr 0x01 tag body rfl h
  | readStatus addr tag body => exact frame addr 0x02 tag body rfl h
  | resetFull addr tag body => exact frame addr 0x03 tag body rfl h
  | resetPlates addr tag body => exact frame addr 0x03 tag body rfl h
  | openPlate addr tag body => exact frame addr 0x04 tag body rfl h
  | stripBlock addr tag body => exact frame addr 0x05 tag body rfl h
  | approvePlate addr tag body => exact frame addr 0x06 tag body rfl h
  | releasePlate addr tag body => exact frame addr 0x07 tag body rfl h
  | priorityPlate addr tag body => exact frame addr 0x08 tag body rfl h
  | reexposePlate addr tag body => exact frame addr 0x09 tag body rfl h
  | readPlate addr tag body => exact frame addr 0x0A tag body rfl h
  | readStrips addr tag body => exact frame addr 0x0B tag body rfl h
  | readDefects addr tag body => exact frame addr 0x0C tag body rfl h
  | loadScreen addr tag body => exact frame addr 0x0D tag body rfl h
  | loadCurve addr tag body => exact frame addr 0x0E tag body rfl h
  | setSkew addr tag body => exact frame addr 0x0F tag body rfl h
  | startExposure addr tag body => exact frame addr 0x10 tag body rfl h
  | abortExposure addr tag body => exact frame addr 0x11 tag body rfl h
  | calibrateScanner addr tag body => exact frame addr 0x12 tag body rfl h
  | setInspection addr tag body => exact frame addr 0x13 tag body rfl h
  | setLines addr tag body => exact frame addr 0x14 tag body rfl h
  | readLines addr tag body => exact frame addr 0x15 tag body rfl h
  | clearLineEvents addr tag body => exact frame addr 0x16 tag body rfl h
  | unknownKind addr kind tag body => exact frame addr kind tag body rfl h
  | ignoredFrame addr kind tag body => exact frame addr kind tag body rfl h
  | frameCheckFailed addr kind tag body check => exact run_slotsKept (endFrame_slotsKept check (hunting rfl)) h
  | startCharacter character => exact run_slotsKept (takeCharacter_slotsKept character _) h
  | answerSent => exact run_slotsKept (answerSent_slotsKept _) h
  | hardwareReset straps => exact run_slotsKept (fullReset_slotsKept _ _ _) h
  | burstComplete grantFirst =>
    change execBurstComplete grantFirst s = .next t at h
    unfold execBurstComplete at h
    split at h
    · split at h
      · exact still (fun u => u.completeBurst_screening grantFirst _ _ _) h
      · cases h
    · exact still (fun _ => rfl) h
  | frameGapTimeout => exact event (fun u => by unfold State.gap; split <;> rfl) h
  | noticeSent => exact event State.noticeSent_slots h
  | lineTick => exact event State.lineTick_slots h
  | rawLevelChange line level => exact event (fun u => u.rawLevelChange_slots line level) h
  | inputEdge line => exact event (fun u => u.inputEdge_slots line) h
  | blockTake => exact event State.blockTake_slots h
  | windowApplied => exact event State.windowApplied_slots h
  | stripWriteComplete takeFirst => exact event (fun u => u.stripWriteComplete_slots takeFirst) h
  | drumIndex => exact event State.drumIndex_slots h
  | decodeEnd => exact still State.decodeEnd_screening h
  | stripWriteStart => exact still State.stripWriteStart_screening h
  | hatchStripComplete => exact still State.hatchStripComplete_screening h
  | passFetchComplete => exact still State.passFetchComplete_screening h
  | passClose => exact still State.passClose_screening h
  | scanLine samples => exact still (fun u => u.scanLine_screening samples) h
  | darkCalibrationDone => exact still State.darkCalibrationDone_screening h
  | whiteCalibrationDone => exact still State.whiteCalibrationDone_screening h
  | expectedLineFull => exact still State.expectedLineFull_screening h
  | dotClockPulse => exact still State.dotClock_screening h
  | diverterPulseEnd => exact still State.diverterPulseEnd_screening h
  | refreshTimer => exact still (fun u => u.onStore_screening Store.refreshTimer) h
  | refreshComplete => exact still (fun u => u.onStore_screening Store.refreshComplete) h

/-- Settles O35: LOAD SCREEN and LOAD CURVE refuse a declared slot, a full reset leaves no FILLING bay to declare one, and
every other change leaves the slots alone. -/
theorem declaredSlotsKeepTheirContents : Obligations.DeclaredSlotsKeepTheirContents := by
  refine ⟨fun s t one h => ?_, takeCharacter_slotsKept⟩
  unfold step at h
  split at h
  · cases h
    exact slotsKept_of_slots rfl
  · rename_i c rest waiting
    have one' := one.imp id fun noFrame => noFrame c (by simp [waiting])
    exact slotsKept_congr (u := { s with pending := rest }) rfl rfl rfl rfl (exec_slotsKept c one' h)

end Sys2Proof.Proofs
end

section
/-! CLAIMS SETTLED. LOAD SCREEN and LOAD CURVE: their form, the slots in use, and the slot replaced whole (R80 to R85). -/

namespace Sys2Proof.Proofs

open Sys2Proof.Machine Sys2Proof.Claims

variable {s : State} {addr kind tag : Byte} {body : List Byte}

/-! ### Forms -/

/-- Every stepping component's magnitude is below T·65,536, one after another (R81). -/
theorem vectorsOk_iff (sc : Screen) : sc.vectorsOk = true ↔ sc.ax.natAbs < sc.side * 65536 ∧
    sc.ay.natAbs < sc.side * 65536 ∧ sc.bx.natAbs < sc.side * 65536 ∧ sc.bY.natAbs < sc.side * 65536 := by
  simp only [Screen.vectorsOk, List.all_cons, List.all_nil, Bool.and_true, Bool.and_eq_true, decide_eq_true_eq]

/-- The form of a LOAD SCREEN and its stepping components, field by field (R80, R81). -/
theorem screenForm_iff : screenFormOk body = true ∧ (screenOf body).vectorsOk = true ↔
    18 ≤ body.length ∧ byteAt body 0 ≤ 7 ∧ 4 ≤ byteAt body 1 ∧ byteAt body 1 ≤ 64 ∧
      body.length = 18 + 2 * (byteAt body 1 * byteAt body 1) ∧
      (s32At body 2).natAbs < byteAt body 1 * 65536 ∧ (s32At body 6).natAbs < byteAt body 1 * 65536 ∧
      (s32At body 10).natAbs < byteAt body 1 * 65536 ∧ (s32At body 14).natAbs < byteAt body 1 * 65536 := by
  rw [vectorsOk_iff, screenFormOk, decide_eq_true_iff]
  simp only [and_assoc]
  exact Iff.rfl

theorem protectedSlot_requested (set : Plate → Byte) (slot : Nat) :
    (requested kind tag s).protectedSlot set slot = s.protectedSlot set slot := by
  unfold State.protectedSlot
  rw [requested_bays]

/-! ### LOAD SCREEN -/

theorem loadScreen_of_badForm (bad : ¬(screenFormOk body = true ∧ (screenOf body).vectorsOk = true)) :
    s.loadScreen body = (s, some (only .badField)) := if_pos (by tauto)

theorem loadScreen_of_inUse (form : screenFormOk body = true ∧ (screenOf body).vectorsOk = true)
    (held : s.protectedSlot Plate.screenSet (byteAt body 0) = true) : s.loadScreen body = (s, some (only .inUse)) :=
  (if_neg (by tauto)).trans (if_pos held)

theorem loadScreen_of_free (form : screenFormOk body = true ∧ (screenOf body).vectorsOk = true)
    (free : ¬ s.protectedSlot Plate.screenSet (byteAt body 0) = true) :
    s.loadScreen body = ({ s with screening := { s.screening with
      screens := s.screening.screens.set (byteAt body 0) (some (screenOf body)) } }, some (only .done)) :=
  (if_neg (by tauto)).trans (if_neg free)

/-! ### LOAD CURVE -/

theorem loadCurve_of_badForm (bad : ¬(body.length = 131 ∧ byteAt body 0 ≤ 3)) :
    s.loadCurve body = (s, some (only .badField)) := if_pos (by omega)

theorem loadCurve_of_inUse (form : body.length = 131 ∧ byteAt body 0 ≤ 3)
    (held : s.protectedSlot Plate.curveSet (byteAt body 0) = true) : s.loadCurve body = (s, some (only .inUse)) :=
  (if_neg (by omega)).trans (if_pos held)

theorem loadCurve_of_free (form : body.length = 131 ∧ byteAt body 0 ≤ 3)
    (free : ¬ s.protectedSlot Plate.curveSet (byteAt body 0) = true) :
    s.loadCurve body = ({ s with screening := { s.screening with
      curves := s.screening.curves.set (byteAt body 0) (curveOf body) } }, some (only .done)) :=
  (if_neg (by omega)).trans (if_neg free)

/-! ### The requests -/

/-- A request that changes the slots and is answered DONE. -/
theorem exec_slotsReplaced (ready : Ready addr s) {owner : Owner} {screening : Screening}
    (effect : owner (some s.link.freeSlot) (requested kind tag s) =
      ({ requested kind tag s with screening }, some (only .done))) :
    run (State.receive addr kind tag body owner) s = .next { answered kind tag (only .done) s with screening } :=
  exec_answered ready effect rfl

/-- Settles O34, by the three outcomes of each load. -/
theorem loadsReplaceUnprotectedSlots : Obligations.LoadsReplaceUnprotectedSlots := by
  intro addr tag body s ready
  dsimp only
  rw [← screenForm_iff, ← protectedSlot_iff Plate.screenSet, ← protectedSlot_iff Plate.curveSet]
  have screenSlot := protectedSlot_requested (kind := 13) (tag := tag) (s := s) Plate.screenSet (byteAt body 0)
  have curveSlot := protectedSlot_requested (kind := 14) (tag := tag) (s := s) Plate.curveSet (byteAt body 0)
  refine ⟨fun bad => ?_, fun form held => ?_, fun form free => ?_, fun bad => ?_, fun form held => ?_, fun form free => ?_⟩
  · exact exec_unchanged ready (loadScreen_of_badForm bad)
  · exact exec_unchanged ready (loadScreen_of_inUse form (screenSlot.trans held))
  · refine (exec_slotsReplaced ready (loadScreen_of_free form (screenSlot ▸ free))).trans ?_
    rw [requested_screening]
    rfl
  · exact exec_unchanged ready (loadCurve_of_badForm bad)
  · exact exec_unchanged ready (loadCurve_of_inUse form (curveSlot.trans held))
  · refine (exec_slotsReplaced ready (loadCurve_of_free form (curveSlot ▸ free))).trans ?_
    rw [requested_screening]
    rfl

end Sys2Proof.Proofs
end

section
/-! CLAIMS SETTLED. The photo dot's arithmetic: samples and densities, tones, tile addresses and the dot (R71 to R79). -/

namespace Sys2Proof.Proofs

open Sys2Proof.Machine

variable {body : List Byte} {curve : List Nat}

/-! ### Samples and densities (R71, R73, R74) -/

theorem byteAt_of_getElem? {i : Nat} {b : Byte} (h : body[i]? = some b) : byteAt body i = b.toNat := by
  rw [byteAt, List.getD_eq_getElem?_getD, h]
  rfl

/-- The value that a code's segment and mantissa expand to, before it is scaled (R73). -/
def segmentValue (segment mantissa : Nat) : Nat := mantissa * 2 ^ segment + 32 * (2 ^ segment - 1)

theorem expandCompanded_eq (segment : Nat) {mantissa : Nat} (h : mantissa ≤ 31) :
    expandCompanded (32 * segment + mantissa) = (segmentValue segment mantissa * 4095 + 4016) / 8032 := by
  have low : (32 * segment + mantissa) % 32 = mantissa := by omega
  have high : (32 * segment + mantissa) / 32 = segment := by omega
  rw [expandCompanded, low, high]
  rfl

/-- The largest code expands to 8,032, the full scale (R73). -/
theorem segmentValue_le {segment mantissa : Nat} (hs : segment ≤ 7) (hm : mantissa ≤ 31) :
    segmentValue segment mantissa ≤ 8032 := by
  have power : 2 ^ segment ≤ 2 ^ 7 := Nat.pow_le_pow_right (by omega) hs
  have product : mantissa * 2 ^ segment ≤ 31 * 2 ^ 7 := Nat.mul_le_mul hm power
  unfold segmentValue
  omega

theorem expandCompanded_le {c : Nat} (h : c ≤ 255) : expandCompanded c ≤ 4095 := by
  have value := segmentValue_le (segment := c / 32) (mantissa := c % 32) (by omega) (by omega)
  have parts : 32 * (c / 32) + c % 32 = c := by omega
  rw [← parts, expandCompanded_eq _ (by omega)]
  omega

/-! ### Tones (R76) -/

/-- The step from a curve's point toward the next, rounded by floor (R76). -/
theorem tone_eq (density : Nat) : tone curve density = (curve.getD (density / 64) 0 : Int) +
    (((curve.getD (density / 64 + 1) 0 : Int) - curve.getD (density / 64) 0) * (density % 64 : Nat) + 32) / 64 := rfl

/-- A step of f 64ths of a difference lies between 0 and the difference. -/
theorem toneStep_between (d : Int) {f : Nat} (hf : f < 64) :
    min 0 d ≤ (d * f + 32) / 64 ∧ (d * f + 32) / 64 ≤ max 0 d := by
  rcases le_total 0 d with rises | falls
  · have low : 0 ≤ d * f := by positivity
    have high : d * f ≤ d * 63 := mul_le_mul_of_nonneg_left (by omega) rises
    omega
  · have low : d * 63 ≤ d * f := mul_le_mul_of_nonpos_left (by omega) falls
    have high : d * f ≤ 0 := mul_nonpos_of_nonpos_of_nonneg falls (by omega)
    omega

theorem tone_between (curve : List Nat) (density : Nat) :
    min (curve.getD (density / 64) 0 : Int) (curve.getD (density / 64 + 1) 0) ≤ tone curve density ∧
    tone curve density ≤ max (curve.getD (density / 64) 0 : Int) (curve.getD (density / 64 + 1) 0) := by
  have step := toneStep_between ((curve.getD (density / 64 + 1) 0 : Int) - curve.getD (density / 64) 0)
    (Nat.mod_lt density (by omega : 64 > 0))
  rw [tone_eq]
  omega

/-- The tone at f 64ths of interval k. -/
theorem tone_of_points {k f p q : Nat} (hf : f < 64) (hp : curve[k]? = some p) (hq : curve[k + 1]? = some q) :
    tone curve (64 * k + f) = p + (((q : Int) - p) * f + 32) / 64 := by
  have interval : (64 * k + f) / 64 = k := by omega
  have offset : (64 * k + f) % 64 = f := by omega
  rw [tone_eq, interval, offset]
  simp [List.getD_eq_getElem?_getD, hp, hq]

/-! ### Tile addresses (R78) -/

/-- The coordinate of a tile address: the cell of `side` in which an exact coordinate lies, by remainder (R78). -/
def tileCell (side : Nat) (e : Int) : Nat := (e % (side * 65536) / 65536).toNat

theorem address_eq (sc : Screen) (x y : Nat) :
    sc.address x y = (tileCell sc.side (x * sc.ax + y * sc.bx), tileCell sc.side (x * sc.ay + y * sc.bY)) := rfl

/-- The remainder of an exact coordinate lies in its cell. -/
theorem tileCell_lies {side : Nat} (h : 1 ≤ side) (e : Int) : 0 ≤ e % (side * 65536) ∧ e % (side * 65536) < side * 65536 ∧
    65536 * (tileCell side e : Int) ≤ e % (side * 65536) ∧ e % (side * 65536) < 65536 * (tileCell side e + 1) := by
  have low : 0 ≤ e % (side * 65536) := Int.emod_nonneg e (by omega)
  have high : e % (side * 65536) < side * 65536 := Int.emod_lt_of_pos e (by omega)
  unfold tileCell
  omega

theorem tileCell_lt {side : Nat} (h : 1 ≤ side) (e : Int) : tileCell side e < side := by
  obtain ⟨-, below, cell, -⟩ := tileCell_lies h e
  omega

/-- An exact coordinate is whole turns of the tile and a remainder that lies in its cell. -/
theorem tileCell_turns {side : Nat} (h : 1 ≤ side) (e : Int) :
    ∃ turns rest : Int, e = turns * (side * 65536) + rest ∧ 0 ≤ rest ∧ rest < side * 65536 ∧
      65536 * tileCell side e ≤ rest ∧ rest < 65536 * (tileCell side e + 1) :=
  ⟨e / (side * 65536), e % (side * 65536), (Int.ediv_mul_add_emod e _).symm, tileCell_lies h e⟩

/-! ### The dot (R79) -/

theorem black_iff {sc : Screen} {t : Int} {x y threshold : Nat}
    (entry : sc.tile[(sc.address x y).2 * sc.side + (sc.address x y).1]? = some threshold) :
    sc.black t x y = true ↔ (threshold : Int) < t := by
  have read : sc.tile.getD ((sc.address x y).2 * sc.side + (sc.address x y).1) 0 = threshold := by
    rw [List.getD_eq_getElem?_getD, entry]
    rfl
  rw [← read]
  exact decide_eq_true_iff

/-- Settles O33, formula by formula. -/
theorem photoArithmeticStaysInRange : Obligations.PhotoArithmeticStaysInRange := by
  refine ⟨fun c => expandCompanded_le, fun v => min_le_right v 4095, tone_between,
    fun sc x y side => ⟨tileCell_lt side _, tileCell_lt side _⟩, fun segment mantissa hs hm => ?_,
    fun v => ⟨min_eq_left, fun above => min_eq_right above.le⟩, fun body win n b lo => ⟨fun form hb => ?_, fun form hb hlo => ?_⟩,
    fun curve k f p q hf hp hq => ?_, fun sc x y side => ⟨tileCell_turns side _, tileCell_turns side _⟩,
    fun sc t x y threshold => black_iff⟩
  · dsimp only
    rw [expandCompanded_eq segment hm]
    unfold segmentValue
    omega
  · rw [sampleDensity, form]
    exact congrArg expandCompanded (byteAt_of_getElem? hb)
  · rw [sampleDensity, form]
    dsimp only
    rw [u16At, byteAt_of_getElem? hb, byteAt_of_getElem? hlo, mul_comm]
  · dsimp only
    rw [tone_of_points hf hp hq]
    omega

end Sys2Proof.Proofs
end

section
/-! SUPPORT. The store's own laws: what a grant takes in each case, what an ask, a stop and a reset leave, and all that a step
does to the store (R101, R104 to R109, R111, R112). -/

namespace Sys2Proof.Machine

variable {st : Store} {a : Asker} {b : Burst}

/-! ### Grants, case by case (R105, R106) -/

theorem Store.grant_refresh_first (idle : st.service = .idle) (full : 8 ≤ st.owed) :
    st.grant = { st with service := .refresh } := by
  simp only [Store.grant, idle]
  rw [if_pos full]

section
variable (idle : st.service = .idle) (few : st.owed < 8)
include idle few

theorem Store.grant_prefetch (asks : st.prefetch = some b) :
    st.grant = { st with service := .burst .prefetch b true, prefetch := none } := by
  simp only [Store.grant, idle, asks]
  rw [if_neg (not_le.2 few)]

theorem Store.grant_inspect (noPrefetch : st.prefetch = none) (asks : st.inspect = some b) :
    st.grant = { st with service := .burst .inspect b true, inspect := none } := by
  simp only [Store.grant, idle, noPrefetch, asks]
  rw [if_neg (not_le.2 few)]

theorem Store.grant_writer {rest : List (Asker × Burst)} (noPrefetch : st.prefetch = none) (noInspect : st.inspect = none)
    (asks : st.writer = (a, b) :: rest) : st.grant = { st with service := .burst a b true, writer := rest } := by
  simp only [Store.grant, idle, noPrefetch, noInspect, asks]
  rw [if_neg (not_le.2 few)]

end

section
variable (idle : st.service = .idle) (noPrefetch : st.prefetch = none) (noInspect : st.inspect = none)
  (noWriter : st.writer = [])
include idle noPrefetch noInspect noWriter

theorem Store.grant_refresh_last (owed : 1 ≤ st.owed) : st.grant = { st with service := .refresh } := by
  simp only [Store.grant, idle, noPrefetch, noInspect, noWriter, owed, if_true, ite_self]

theorem Store.grant_nothing (owed : st.owed = 0) : st.grant = st := by
  simp [Store.grant, idle, noPrefetch, noInspect, noWriter, owed]

end

/-! ### Counts and their timer (R108), and a store that has nothing to do (R106) -/

/-- At most 8 refreshes are owed, and the timer runs exactly below 8 (R108). -/
def Store.Counted (st : Store) : Prop := st.owed ≤ 8 ∧ st.timer = decide (st.owed < 8)

/-- Nothing is asked and nothing owed (R106). -/
def Store.AtRest (st : Store) : Prop := st.prefetch = none ∧ st.inspect = none ∧ st.writer = [] ∧ st.owed = 0

theorem Store.tended_iff : st.Tended ↔ st.Counted ∧ (st.service = .idle → st.AtRest) :=
  and_assoc.symm

/-- What a grant leaves IDLE has nothing to do (R106). -/
theorem Store.atRest_of_grant_idle (idle : st.grant.service = .idle) : st.grant.AtRest := by
  by_cases free : st.service = .idle
  · by_cases full : 8 ≤ st.owed
    · rw [Store.grant_refresh_first free full] at idle; cases idle
    · have few := not_le.1 full
      cases prefetch : st.prefetch with
      | some b => rw [Store.grant_prefetch free few prefetch] at idle; cases idle
      | none =>
        cases inspect : st.inspect with
        | some b => rw [Store.grant_inspect free few prefetch inspect] at idle; cases idle
        | none =>
          cases writer : st.writer with
          | cons e rest => rw [Store.grant_writer free few prefetch inspect writer] at idle; cases idle
          | nil =>
            rcases Nat.eq_zero_or_pos st.owed with nothing | owed
            · rw [Store.grant_nothing free prefetch inspect writer nothing]
              exact ⟨prefetch, inspect, writer, nothing⟩
            · rw [Store.grant_refresh_last free prefetch inspect writer owed] at idle; cases idle
  · rw [Store.grant_serving free] at idle
    exact absurd idle free

/-- After a grant a counted store is tended (R106, R108). -/
theorem Store.Counted.grant (counted : st.Counted) : st.grant.Tended := by
  refine Store.tended_iff.2 ⟨?_, Store.atRest_of_grant_idle⟩
  unfold Store.Counted
  rwa [Store.grant_owed, Store.grant_timer]

/-! ### Bursts that fit (R101, R104) -/

theorem Burst.fits_of_read (read : b.write = none) : b.Fits := by
  intro ws write
  rw [read] at write
  cases write

theorem Burst.fits_of_write {ws : List StoreWord} (write : b.write = some ws) (length : ws.length = 8) : b.Fits := by
  intro ws' write'
  obtain rfl : ws = ws' := Option.some.inj (write.symm.trans write')
  exact length

/-- A grant puts in service only what was asked. -/
theorem Store.Sound.grant (sound : st.Sound) : st.grant.Sound := by
  obtain ⟨memory, prefetch, inspect, writer, service⟩ := sound
  have taken : ∀ c ∈ (none : Option Burst), c.Fits := fun _ h => nomatch h
  have granted : ∀ {x y : Asker} {c c' : Burst} {l l' : Bool}, c.Fits → Service.burst x c l = .burst y c' l' → c'.Fits :=
    fun fits h => by cases h; exact fits
  rcases st.grant_cases with h | ⟨-, ⟨h, -⟩ | ⟨c, hc, h⟩ | ⟨c, hc, h⟩ | ⟨x, c, rest, hw, h⟩⟩ <;> rw [h]
  · exact ⟨memory, prefetch, inspect, writer, service⟩
  · exact ⟨memory, prefetch, inspect, writer, fun _ _ _ h => nomatch h⟩
  · exact ⟨memory, taken, inspect, writer, fun _ _ _ => granted (prefetch c hc)⟩
  · exact ⟨memory, prefetch, taken, writer, fun _ _ _ => granted (inspect c hc)⟩
  · rw [hw] at writer
    exact ⟨memory, prefetch, inspect, fun e he => writer e (List.mem_cons_of_mem _ he),
      fun _ _ _ => granted (writer _ List.mem_cons_self)⟩

/-! ### Asks, stops, resets and ends of service -/

theorem Store.Counted.ask (counted : st.Counted) : (st.ask a b).Tended := by
  rw [Proofs.ask_eq]
  refine Store.Counted.grant ?_
  cases a <;> exact counted

theorem Store.Sound.ask (sound : st.Sound) (fits : b.Fits) : (st.ask a b).Sound := by
  rw [Proofs.ask_eq]
  refine Store.Sound.grant ?_
  obtain ⟨memory, prefetch, inspect, writer, service⟩ := sound
  have asked : ∀ c ∈ some b, c.Fits := fun c h => by cases h; exact fits
  have last : ∀ x : Asker, ∀ e ∈ st.writer ++ [(x, b)], e.2.Fits := fun x e he => by
    rcases List.mem_append.1 he with h | h
    · exact writer e h
    · rw [List.mem_singleton.1 h]; exact fits
  cases a with
  | prefetch => exact ⟨memory, asked, inspect, writer, service⟩
  | inspect => exact ⟨memory, prefetch, asked, writer, service⟩
  | decoder | filler => exact ⟨memory, prefetch, inspect, last _, service⟩

/-- What stops keeps SERVING a store that serves (R109). -/
theorem Store.stop_service_idle (idle : (st.stop a).service = .idle) : st.service = .idle := by
  cases serving : st.service with
  | idle => rfl
  | refresh | burst => simp [Store.stop, serving] at idle

theorem Store.Tended.stop (tended : st.Tended) : (st.stop a).Tended := by
  obtain ⟨counted, rest⟩ := Store.tended_iff.1 tended
  refine Store.tended_iff.2 ⟨counted, fun idle => ?_⟩
  obtain ⟨prefetch, inspect, writer, owed⟩ := rest (Store.stop_service_idle idle)
  simp [Store.AtRest, Store.stop, prefetch, inspect, writer, owed]

theorem Store.Sound.stop (sound : st.Sound) : (st.stop a).Sound := by
  obtain ⟨memory, prefetch, inspect, writer, service⟩ := sound
  have fewer : ∀ {c : Prop} [Decidable c] {o : Option Burst}, (∀ b ∈ o, b.Fits) →
      ∀ b ∈ (if c then none else o), b.Fits := fun fits b hb => by
    split at hb
    · cases hb
    · exact fits b hb
  refine ⟨memory, fewer prefetch, fewer inspect, fun e he => writer e (List.mem_filter.1 he).1, fun x c live h => ?_⟩
  cases serving : st.service with
  | idle | refresh => simp [Store.stop, serving] at h
  | burst y d live' =>
    simp only [Store.stop, serving, Service.burst.injEq] at h
    obtain ⟨-, rfl, -⟩ := h
    exact service y d live' serving

theorem Store.Tended.resetPlates (tended : st.Tended) : st.resetPlates.Tended := by
  obtain ⟨counted, rest⟩ := Store.tended_iff.1 tended
  refine Store.tended_iff.2 ⟨counted, fun idle => ⟨rfl, rfl, rfl, ?_⟩⟩
  cases serving : st.service with
  | idle => exact (rest serving).2.2.2
  | refresh | burst => simp [Store.resetPlates, serving] at idle

theorem Store.Sound.resetPlates (sound : st.Sound) : st.resetPlates.Sound := by
  obtain ⟨memory, -, -, -, service⟩ := sound
  refine ⟨memory, fun _ h => (nomatch h), fun _ h => (nomatch h), fun _ h => (nomatch h), fun x c live h => ?_⟩
  cases serving : st.service with
  | idle | refresh => simp [Store.resetPlates, serving] at h
  | burst y d live' =>
    simp only [Store.resetPlates, serving, Service.burst.injEq] at h
    obtain ⟨-, rfl, -⟩ := h
    exact service y d live' serving

theorem Store.reset_tended (seed : Nat) : (Store.reset seed).Tended := by
  refine ⟨?_, ?_, fun _ => ?_⟩ <;> simp [Store.reset]

theorem Store.reset_sound (seed : Nat) : (Store.reset seed).Sound :=
  ⟨rfl, fun _ h => (nomatch h), fun _ h => (nomatch h), fun _ h => (nomatch h), fun _ _ _ h => (nomatch h)⟩

/-- The owed count rises to at most 8, where the timer stops (R108). -/
theorem Store.Tended.refreshTimer (tended : st.Tended) : st.refreshTimer.Tended := by
  unfold Store.refreshTimer
  split
  · rename_i runs
    exact Store.Counted.grant ⟨runs.2, rfl⟩
  · exact tended

theorem Store.Sound.refreshTimer (sound : st.Sound) : st.refreshTimer.Sound := by
  unfold Store.refreshTimer
  split
  · exact Store.Sound.grant sound
  · exact sound

/-- The owed count falls below 8, where the timer runs (R108). -/
theorem Store.Tended.refreshComplete (tended : st.Tended) : st.refreshComplete.Tended := by
  obtain ⟨most, timer, rest⟩ := tended
  unfold Store.refreshComplete
  split
  · refine Store.Counted.grant ⟨(Nat.sub_le ..).trans most, ?_⟩
    simp only [timer, ← Bool.decide_or, decide_eq_decide]
    omega
  · exact ⟨most, timer, rest⟩

theorem Store.Sound.refreshComplete (sound : st.Sound) : st.refreshComplete.Sound := by
  unfold Store.refreshComplete
  split
  · obtain ⟨memory, prefetch, inspect, writer, -⟩ := sound
    exact Store.Sound.grant ⟨memory, prefetch, inspect, writer, fun _ _ _ h => (nomatch h)⟩
  · exact sound

theorem Store.Counted.afterBurst (counted : st.Counted) : (st.afterBurst b).Counted := by
  unfold Store.afterBurst
  split <;> exact counted

/-- A burst served inside the band store leaves the contents in their canonical form (R101). -/
theorem Store.Sound.afterBurst {live : Bool} (sound : st.Sound) (serving : st.service = .burst a b live)
    (inside : b.addr + 8 ≤ Config.storeWords) : (st.afterBurst b).Sound := by
  obtain ⟨memory, prefetch, inspect, writer, service⟩ := sound
  have fits : b.Fits := service a b live serving
  cases write : b.write with
  | none =>
    rw [Proofs.afterBurst_read write]
    exact ⟨memory, prefetch, inspect, writer, fun _ _ _ h => (nomatch h)⟩
  | some ws =>
    rw [Proofs.afterBurst_write write]
    exact ⟨Memory.wf_writeWords ws memory (by rw [fits ws write]; exact inside), prefetch, inspect, writer,
      fun _ _ _ h => (nomatch h)⟩

/-! ### All that a step does to the store -/

/-- One change of the store: a burst asked that fits, work stopped, a reset, the end of a refresh interval, a refresh
completed, or a burst in service completed inside the band store, with its requester's next ask or without (R104 to R109,
R111, R112). -/
inductive Store.Move (st : Store) : Store → Prop where
  | ask (a : Asker) (b : Burst) (fits : b.Fits) : Move st (st.ask a b)
  | stop (a : Asker) : Move st (st.stop a)
  | plates : Move st st.resetPlates
  | full (seed : Nat) : Move st (Store.reset seed)
  | timer : Move st st.refreshTimer
  | refreshed : Move st st.refreshComplete
  | served (a : Asker) (b : Burst) (live : Bool) (serving : st.service = .burst a b live)
      (inside : b.addr + 8 ≤ Config.storeWords) : Move st (st.afterBurst b).grant
  | servedNext (a : Asker) (b next : Burst) (live : Bool) (serving : st.service = .burst a b live)
      (inside : b.addr + 8 ≤ Config.storeWords) (fits : next.Fits) : Move st ((st.afterBurst b).ask a next)

theorem Store.Move.tended {st' : Store} (move : st.Move st') (tended : st.Tended) : st'.Tended := by
  have counted : st.Counted := (Store.tended_iff.1 tended).1
  cases move with
  | ask a b _ => exact counted.ask
  | stop a => exact tended.stop
  | plates => exact tended.resetPlates
  | full seed => exact Store.reset_tended seed
  | timer => exact tended.refreshTimer
  | refreshed => exact tended.refreshComplete
  | served a b _ _ _ => exact counted.afterBurst.grant
  | servedNext a b next _ _ _ _ => exact counted.afterBurst.ask

theorem Store.Move.sound {st' : Store} (move : st.Move st') (sound : st.Sound) : st'.Sound := by
  cases move with
  | ask a b fits => exact sound.ask fits
  | stop a => exact sound.stop
  | plates => exact sound.resetPlates
  | full seed => exact Store.reset_sound seed
  | timer => exact sound.refreshTimer
  | refreshed => exact sound.refreshComplete
  | served a b _ serving inside => exact (sound.afterBurst serving inside).grant
  | servedNext a b next _ serving inside fits => exact (sound.afterBurst serving inside).ask fits

end Sys2Proof.Machine
end

section
/-! SUPPORT. Every operation's work on the store is a chain of asks that fit, stops and resets, and every step's a chain of
the store's changes (R104 to R109, R111, R112). -/

namespace Sys2Proof.Machine

variable {st : Store} {s : State}

/-- A chain of changes of the store. -/
def Store.Moves : Store → Store → Prop := Relation.ReflTransGen Store.Move

theorem Store.Moves.refl : st.Moves st := Relation.ReflTransGen.refl

theorem Store.Moves.tail {st' st'' : Store} (h : st.Moves st') (move : st'.Move st'') : st.Moves st'' :=
  Relation.ReflTransGen.tail h move

theorem Store.Moves.ask {st' : Store} {a : Asker} {b : Burst} (h : st.Moves st') (fits : b.Fits) : st.Moves (st'.ask a b) :=
  h.tail (.ask a b fits)

theorem Store.Moves.stop {st' : Store} {a : Asker} (h : st.Moves st') : st.Moves (st'.stop a) := h.tail (.stop a)

/-- A block asks a burst that fits. -/
theorem Store.Moves.onAsk {a : Asker} {b : Burst} (h : st.Moves s.store) (fits : b.Fits) :
    st.Moves (s.onStore (Store.ask a b)).store := h.ask fits

/-- The chain ends as well in a state of the same store. -/
theorem Store.Moves.same {t : State} (h : st.Moves s.store) (same : t.store = s.store) : st.Moves t.store := by
  rwa [same]

/-- The plant lines are no part of the store. -/
theorem Store.Moves.lines (h : st.Moves s.store) (l : Lines) : st.Moves ({ s with lines := l } : State).store := h

/-- A condition that every change of the store keeps is kept along a chain of them. -/
theorem Store.Moves.keep {P : Store → Prop} {st' : Store} (kept : ∀ x y : Store, x.Move y → P x → P y) (h : st.Moves st')
    (holds : P st) : P st' := by
  induction h with
  | refl => exact holds
  | tail _ move ih => exact kept _ _ move ih

/-- A chain for every item of a list is one chain. -/
theorem Store.Moves.foldl {α : Type} (f : State → α → State)
    (hf : ∀ (s : State) a, st.Moves s.store → st.Moves (f s a).store) (l : List α) {s : State} (h : st.Moves s.store) :
    st.Moves (l.foldl f s).store := by
  induction l generalizing s with
  | nil => exact h
  | cons a l ih => exact ih (hf s a h)

/-! ### The bursts that the blocks ask (R64, R94, R103, R116, R142) -/

theorem State.passBurst_fits (q k : Nat) : (s.passBurst q k).Fits := Burst.fits_of_read rfl

theorem State.scanBurst_fits (bay y k : Nat) : (s.scanBurst bay y k).Fits := Burst.fits_of_read rfl

theorem State.stripBurst_fits (ctx : StripContext) (lines : List Line) (k : Nat) : (s.stripBurst ctx lines k).Fits :=
  Burst.fits_of_write rfl (by simp)

theorem State.fillBurst_fits (f : FillContext) (k : Nat) : (s.fillBurst f k).Fits := Burst.fits_of_write rfl (by simp)

/-! ### Starts and queueing -/

theorem Store.Moves.beginFetch (h : st.Moves s.store) : st.Moves s.beginFetch.store := by
  rcases s.beginFetch_cases with h' | ⟨-, -, h'⟩ <;> rw [h']
  · exact h
  · exact .onAsk h (State.passBurst_fits _ _)

theorem Store.Moves.takeStart (h : st.Moves s.store) : st.Moves s.takeStart.store := by
  rcases s.takeStart_cases with h' | ⟨n, rest, p, -, -, h'⟩ <;> rw [h']
  · exact h
  · exact .beginFetch h

theorem Store.Moves.autoEvent (h : st.Moves s.store) : st.Moves s.autoEvent.store := by
  rcases s.autoEvent_cases with h' | ⟨-, -, -, h'⟩ <;> rw [h']
  · exact h
  · exact h.takeStart

theorem Store.Moves.becomeQueued {n : Nat} {atHead : Bool} (h : st.Moves s.store) : st.Moves (s.becomeQueued n atHead).store :=
  .autoEvent (h.same (by simp))

/-! ### The decoder and the filler let go -/

theorem Store.Moves.abandonBay {n : Nat} (h : st.Moves s.store) : st.Moves (s.abandonBay n).store := by
  unfold State.abandonBay
  dsimp only
  split
  · exact h.stop
  · exact h

theorem Store.Moves.askFill (h : st.Moves s.store) : st.Moves s.askFill.store := by
  unfold State.askFill
  split
  · exact .onAsk h (State.fillBurst_fits _ _)
  · exact h

theorem Store.Moves.startFill {n : Nat} (h : st.Moves s.store) : st.Moves (s.startFill n).store := by
  unfold State.startFill
  split
  · exact h
  · split
    · exact h
    · exact .askFill h

theorem Store.Moves.handToFiller {n : Nat} (h : st.Moves s.store) : st.Moves (s.handToFiller n).store := by
  unfold State.handToFiller
  split
  · exact h.startFill
  · exact h

theorem Store.Moves.nextFill (h : st.Moves s.store) : st.Moves s.nextFill.store := by
  unfold State.nextFill
  split
  · exact h
  · exact .startFill h

theorem Store.Moves.stopFill {n : Nat} (h : st.Moves s.store) : st.Moves (s.stopFill n).store := by
  unfold State.stopFill
  split
  · exact .nextFill h.stop
  · exact h

theorem Store.Moves.freeBay {n : Nat} (h : st.Moves s.store) : st.Moves (s.freeBay n).store := by
  unfold State.freeBay
  split
  · rename_i p _
    show st.Moves (s.letGo n p).store
    unfold State.letGo
    dsimp only
    split
    · split
      · exact h.abandonBay.same (State.answer?_store ..)
      · exact h.abandonBay
    · exact h.stopFill.same (State.answer?_store ..)
    · exact h
    · exact h
  · exact h

theorem Store.Moves.freeBays {ns : List Nat} (h : st.Moves s.store) : st.Moves (s.freeBays ns).store :=
  .foldl _ (fun _ _ h => h.freeBay) ns h

/-! ### Approvals -/

theorem Store.Moves.judgeApproval {n : Nat} {entry : Option Nat} (h : st.Moves s.store) :
    st.Moves (s.judgeApproval n entry).1.store := by
  rcases s.judgeApproval_cases n entry with ⟨r, h'⟩ | ⟨p, -, h'⟩ | ⟨p, -, -, h'⟩ <;> rw [h']
  · exact h
  · exact h.abandonBay.becomeQueued
  · have abandoned : st.Moves (s.abandonBay n).store := h.abandonBay
    exact .handToFiller (abandoned.same (by simp))

theorem Store.Moves.judgeHeld {n : Nat} (h : st.Moves s.store) : st.Moves (s.judgeHeld n).store := by
  rcases s.judgeHeld_judged n with h' | ⟨p, k, r, -, -, h'⟩ <;> rw [h']
  · exact h
  · exact (Store.Moves.judgeApproval (h.same (State.modPlate_store ..))).same (State.answer?_store ..)

/-! ### The decoder's and the filler's strips -/

theorem Store.Moves.stripWriteStart (h : st.Moves s.store) : st.Moves s.stripWriteStart.store := by
  unfold State.stripWriteStart
  split
  · exact h
  · split
    · exact h
    · split
      · split
        · exact h
        · exact .onAsk h (State.stripBurst_fits _ _ _)
      · exact h

theorem Store.Moves.completeWrite {takeFirst : Bool} {i : Nat} {ctx : StripContext} (h : st.Moves s.store) :
    st.Moves (s.completeWrite takeFirst i ctx).store := by
  unfold State.completeWrite
  dsimp only
  split
  · exact .judgeHeld (h.same (by simp))
  · exact (Store.Moves.judgeHeld (h.same (by simp))).same (State.blockTake_store _)

theorem Store.Moves.stripWriteComplete {takeFirst : Bool} (h : st.Moves s.store) :
    st.Moves (s.stripWriteComplete takeFirst).store := by
  unfold State.stripWriteComplete
  split
  · exact h
  · split
    · split
      · exact h.completeWrite
      · exact h
    · exact h

theorem Store.Moves.completeFill {n : Nat} {p : Plate} (h : st.Moves s.store) : st.Moves (s.completeFill n p).store := by
  have cleared : st.Moves (s.modPlate n fun p => { p with approveEntry := none }).store := h.same (State.modPlate_store ..)
  exact .nextFill (cleared.becomeQueued.same (State.answer?_store ..))

theorem Store.Moves.hatchStripComplete (h : st.Moves s.store) : st.Moves s.hatchStripComplete.store := by
  unfold State.hatchStripComplete
  split
  · rename_i f _
    split
    · have recorded : st.Moves (State.setSource f.bay
          (s.modPlate f.bay (Plate.modStrip f.strip fun _ => { StripRecord.fresh with state := .missing }))).store :=
        h.same (by simp)
      unfold State.completeHatchStrip
      dsimp only
      split
      · exact recorded
      · split
        · exact .askFill recorded
        · exact recorded.completeFill
    · exact h
  · exact h

/-! ### Exposures -/

theorem Store.Moves.becomeIdle (h : st.Moves s.store) : st.Moves s.becomeIdle.store := .autoEvent h

theorem Store.Moves.completeExposure (h : st.Moves s.store) : st.Moves s.completeExposure.store := by
  unfold State.completeExposure
  split
  · exact h
  · have stopped : st.Moves s.stopExposing.store := h.stop
    exact .becomeIdle (stopped.same (by simp))

theorem Store.Moves.abort {cause : AbortCause} (h : st.Moves s.store) : st.Moves (s.abort cause).store := by
  have stopped : st.Moves s.stopExposing.store := h.stop
  unfold State.abort
  dsimp only
  split
  · exact h
  · refine .becomeIdle ?_
    split
    · exact stopped.same (by simp)
    · unfold State.bayReturned
      split
      · exact .freeBay stopped
      · exact .becomeQueued stopped

theorem Store.Moves.interlockFall {cause : AbortCause} (h : st.Moves s.store) : st.Moves (s.interlockFall cause).store := by
  unfold State.interlockFall
  split
  · exact h
  · exact h.abort

theorem Store.Moves.passFetchComplete (h : st.Moves s.store) : st.Moves s.passFetchComplete.store := by
  unfold State.passFetchComplete
  split
  · exact h
  · split
    · split
      · refine .beginFetch ?_
        split <;> exact h
      · exact h
    · exact h

theorem Store.Moves.passClose (h : st.Moves s.store) : st.Moves s.passClose.store := by
  unfold State.passClose State.closePass
  split
  · dsimp only
    split
    · exact .completeExposure h
    · exact .beginFetch h
  · exact h

theorem Store.Moves.nextPass (h : st.Moves s.store) : st.Moves s.nextPass.store := by
  unfold State.nextPass
  split
  · exact h.abort
  · dsimp only
    split
    · split
      · exact h
      · exact h.abort
    · exact h.abort

theorem Store.Moves.drumIndex (h : st.Moves s.store) : st.Moves s.drumIndex.store := by
  unfold State.drumIndex
  dsimp only
  split
  · exact h.passClose.same (State.firstPass_store _)
  · exact h.passClose.nextPass
  · exact h.passClose

/-! ### Scans -/

theorem Store.Moves.beginExpected {y : Nat} (h : st.Moves s.store) : st.Moves (s.beginExpected y).store := by
  unfold State.beginExpected
  split
  · exact .onAsk h (State.scanBurst_fits _ _ _)
  · exact h

theorem Store.Moves.endScan {cause : UncheckedCause} (h : st.Moves s.store) : st.Moves (s.endScan cause).store := by
  unfold State.endScan
  split
  · split
    · exact h
    · refine Store.Moves.stop ?_
      exact h.same (by simp)
  · exact h

theorem Store.Moves.compareIfReady (h : st.Moves s.store) : st.Moves s.compareIfReady.store := by
  unfold State.compareIfReady
  split
  · split
    · split
      · dsimp only
        split
        · exact .beginExpected (h.same (State.compareLine_store ..))
        · exact .endScan (h.same (State.compareLine_store ..))
      · exact h
    · exact h
  · exact h

theorem Store.Moves.markLagged {sc : Scan} (h : st.Moves s.store) : st.Moves (s.markLagged sc).store := h.stop

theorem Store.Moves.receiveLine {sc : Scan} {line : ScanLine} (h : st.Moves s.store) :
    st.Moves (s.receiveLine sc line).store := by
  unfold State.receiveLine
  dsimp only
  split
  · exact h
  · split
    · split
      · exact .endScan h
      · exact h
    · split
      · exact .compareIfReady h
      · split
        · exact h.markLagged.endScan
        · exact h.markLagged

theorem Store.Moves.scanLine {line : ScanLine} (h : st.Moves s.store) : st.Moves (s.scanLine line).store := by
  unfold State.scanLine
  split
  · exact h
  · exact h.same (State.calibrationLine_store ..)
  · exact h.receiveLine

theorem Store.Moves.expectedLineFull (h : st.Moves s.store) : st.Moves s.expectedLineFull.store := by
  unfold State.expectedLineFull
  split
  · split
    · split
      · exact .compareIfReady h
      · exact h
    · exact h
  · exact h

theorem Store.Moves.judgeScanStart (h : st.Moves s.store) : st.Moves s.judgeScanStart.store := by
  unfold State.judgeScanStart
  split
  · refine .autoEvent ?_
    split
    · exact Store.Moves.beginExpected h
    · exact h
  · exact .autoEvent h
  · exact h

theorem Store.Moves.scanStart (h : st.Moves s.store) : st.Moves s.scanStart.store := by
  refine .judgeScanStart ?_
  split
  · exact h
  · exact h.same (State.cutCalibration_store _)
  · exact h.endScan

theorem Store.Moves.plateClear (h : st.Moves s.store) : st.Moves s.plateClear.store := by
  unfold State.plateClear
  split
  · split
    · exact h.endScan
    · exact h
  · exact h

/-! ### Plant lines -/

theorem Store.Moves.reportEdge {n : Nat} {level : Bool} (h : st.Moves s.store) : st.Moves (s.reportEdge n level).store := by
  unfold State.reportEdge
  split
  · exact h.interlockFall
  · exact .interlockFall (h.same (State.clearSpent_store _))
  · exact h.autoEvent
  · exact h.interlockFall
  · exact h.scanStart
  · exact h.plateClear
  · exact h

theorem Store.Moves.takeEdge {n : Nat} (h : st.Moves s.store) : st.Moves (s.takeEdge n).store := by
  unfold State.takeEdge
  dsimp only
  split
  · exact h
  · refine Store.Moves.same ?_ (State.markEdge_store ..)
    exact .reportEdge h

theorem Store.Moves.inputEdge {n : Nat} (h : st.Moves s.store) : st.Moves (s.inputEdge n).store := by
  unfold State.inputEdge
  split
  · exact h.takeEdge
  · exact h

theorem Store.Moves.takeDueEdges (h : st.Moves s.store) : st.Moves s.takeDueEdges.store :=
  .foldl _ (fun _ _ h => h.inputEdge) _ h

theorem Store.Moves.lineTick (h : st.Moves s.store) : st.Moves s.lineTick.store := h.takeDueEdges.lines _

theorem Store.Moves.rawLevelChange {n : Nat} {level : Bool} (h : st.Moves s.store) :
    st.Moves (s.rawLevelChange n level).store := by
  unfold State.rawLevelChange
  dsimp only
  split
  · exact .takeEdge h.inputEdge
  · exact h.inputEdge

theorem Store.Moves.takeUndebounced (h : st.Moves s.store) : st.Moves s.takeUndebounced.store := by
  refine .foldl _ (fun u n h => ?_) _ h
  split
  · exact h.takeEdge
  · exact h

theorem Store.Moves.setLines {body : List Byte} (h : st.Moves s.store) : st.Moves (s.setLines body).1.store := by
  unfold State.setLines
  split
  · dsimp only [done]
    exact .takeUndebounced (h.takeDueEdges.lines (s.takeDueEdges.lines.withSettings body))
  · exact h

/-! ### Resets and sends -/

@[simp] theorem State.answerPlateWork_store (approvals : List Nat) (calibration : Option Nat) (s : State) :
    (s.answerPlateWork approvals calibration).store = s.store := by
  unfold State.answerPlateWork
  generalize s.link.outstanding = es
  induction es generalizing s with
  | nil => rfl
  | cons e es ih =>
    rw [List.foldl_cons, ih]
    split
    · exact State.answer_store ..
    · split
      · exact State.answer_store ..
      · rfl

theorem Store.Moves.fullReset {kind : ResetKind} {straps : BitVec 2} (h : st.Moves s.store) :
    st.Moves (s.fullReset kind straps).store := h.tail (.full _)

theorem Store.Moves.resetPlates (h : st.Moves s.store) : st.Moves s.resetPlates.store := by
  unfold State.resetPlates
  extract_lets u cleared cleared'
  have phase : st.Moves u.store := by
    simp only [u]
    split
    · split
      · exact h.same (State.completePhase_store ..)
      · exact h
    · exact h
  have work : st.Moves cleared.store := by
    have plates : st.Moves u.clearPlates.store := phase.tail .plates
    exact plates.same (State.answerPlateWork_store ..)
  show st.Moves cleared'.store
  simp only [cleared']
  split <;> exact work

theorem Store.Moves.gap (h : st.Moves s.store) : st.Moves s.gap.store := by
  unfold State.gap
  split <;> exact h

theorem Store.Moves.answerSent (h : st.Moves s.store) : st.Moves s.answerSent.store := by
  unfold State.answerSent
  split
  · split
    · exact h.fullReset
    · exact h.same (State.transmit_store _)
  · exact h

theorem Store.Moves.noticeSent (h : st.Moves s.store) : st.Moves s.noticeSent.store := by
  unfold State.noticeSent
  split
  · refine Store.Moves.same ?_ (State.transmit_store _)
    unfold State.noticeReported
    split
    · exact .freeBay h
    · exact h
  · exact h

/-! ### Bursts served -/

/-- From st to st' this requester asks at most a burst, one that fits. -/
abbrev Store.AsksAtMost (a : Asker) (st st' : Store) : Prop := st' = st ∨ ∃ next : Burst, next.Fits ∧ st' = st.ask a next

theorem State.asksAtMost_ite {u v : State} {c : Prop} [Decidable c] {a : Asker} {next : Burst} (same : v.store = u.store)
    (fits : next.Fits) : u.store.AsksAtMost a (if c then v.onStore (Store.ask a next) else v).store := by
  rw [← same]
  split
  · exact .inr ⟨next, fits, rfl⟩
  · exact .inl rfl

/-- Whoever is served asks at most a burst that fits (R64, R94, R116, R142). -/
theorem State.served_asks (a : Asker) (words : List StoreWord) : s.store.AsksAtMost a (s.served a words).store := by
  cases a with
  | prefetch =>
    simp only [State.served, State.servedPrefetch]
    split
    · exact .inl rfl
    · split
      · exact State.asksAtMost_ite rfl (State.passBurst_fits _ _)
      · exact .inl rfl
  | inspect =>
    simp only [State.served, State.servedInspect]
    split
    · split
      · exact State.asksAtMost_ite rfl (State.scanBurst_fits _ _ _)
      · exact .inl rfl
    · exact .inl rfl
  | decoder =>
    simp only [State.served, State.servedDecoder]
    split
    · exact .inl rfl
    · split
      · exact State.asksAtMost_ite rfl (State.stripBurst_fits _ _ _)
      · exact .inl rfl
  | filler =>
    cases on : s.filler.fill with
    | none => exact .inl (by simp only [State.served, State.servedFiller, on])
    | some f =>
      rw [State.served, Proofs.servedFiller_eq on]
      split
      · exact .inr ⟨_, State.fillBurst_fits _ _, rfl⟩
      · exact .inl rfl

/-- A burst in service completes: the next grant, and the requester's next ask beside it (R105 to R107, R109). -/
theorem Store.Moves.completeBurst {g live : Bool} {a : Asker} {b : Burst} (h : st.Moves s.store)
    (serving : s.store.service = .burst a b live) (inside : b.addr + 8 ≤ Config.storeWords) :
    st.Moves (s.completeBurst g a b live).store := by
  have finished : st.Moves (s.store.afterBurst b).grant := h.tail (.served a b live serving inside)
  cases live with
  | false =>
    rw [Proofs.completeBurst_stopped]
    exact finished
  | true =>
    rw [Proofs.completeBurst_live, State.onStore_store]
    rcases State.served_asks (s := Proofs.atReport g b s) a (s.store.burstWords b) with same | ⟨next, fits, asked⟩
    · rw [same]
      cases g
      · exact finished
      · show st.Moves (s.store.afterBurst b).grant.grant
        rwa [Store.grant_grant]
    · rw [asked, Proofs.ask_eq, Store.grant_grant, ← Proofs.ask_eq]
      cases g
      · exact h.tail (.servedNext a b next true serving inside fits)
      · exact finished.ask fits

end Sys2Proof.Machine
end

section
/-! SUPPORT. The owners' work on the store, the frames' and the commands': every step is a chain of the store's changes. -/

namespace Sys2Proof.Machine

variable {st : Store} {s t : State}

/-! ### Owners -/

/-- The owner's work on the store is a chain of its changes, for every entry and state. -/
def Owner.MovesStore (owner : Owner) : Prop :=
  ∀ (st : Store) (slot : Option Nat) (s : State), st.Moves s.store → st.Moves (owner slot s).1.store

/-- An owner that leaves the store alone. -/
theorem Owner.MovesStore.of_same {owner : Owner} (same : ∀ slot s, (owner slot s).1.store = s.store) : owner.MovesStore :=
  fun _ slot s h => h.same (same slot s)

theorem fixedBody_movesStore (n : Nat) (body : List Byte) {owner : Owner} (h : owner.MovesStore) :
    (fixedBody n body owner).MovesStore := by
  intro st slot s moves
  unfold fixedBody
  split
  · exact h st slot s moves
  · exact moves

theorem plateRequest_movesStore (body : List Byte) {rule : Nat → Plate → Owner} (h : ∀ n p, (rule n p).MovesStore) :
    (plateRequest body rule).MovesStore := by
  intro st slot s moves
  unfold plateRequest
  split
  · exact moves
  · exact h _ _ st slot s moves

theorem State.configure_store (body : List Byte) (s : State) : (s.configure body).1.store = s.store := by
  unfold State.configure
  split
  · rfl
  · rename_i c _
    split
    · obtain ⟨bays, link, h, -⟩ := s.configured_frame c
      rw [done, h]
    · rfl

theorem ownReset_movesStore (body : List Byte) : (ownReset body).MovesStore := by
  refine fixedBody_movesStore 1 body fun st slot s h => ?_
  unfold resetRule
  split
  · split
    · exact h
    · exact h.fullReset
  · exact h.resetPlates
  · exact h

theorem ownOpenPlate_movesStore (body : List Byte) : (ownOpenPlate body).MovesStore := by
  refine fixedBody_movesStore 12 body fun st slot s h => ?_
  rcases s.openPlate_cases (openFields body) with ⟨r, h'⟩ | ⟨n, -, -, -, h'⟩ <;> rw [h']
  · exact h
  · exact .freeBays h

theorem ownStripBlock_store (body : List Byte) (slot : Option Nat) (s : State) :
    (ownStripBlock body slot s).1.store = s.store := by
  unfold ownStripBlock State.stripBlock
  split
  · rfl
  · rename_i b _
    split
    · show (s.countForeign b).store = _
      rcases s.countForeign_cases b with h | ⟨n, h⟩ <;> rw [h]
      exact State.modPlate_store ..
    · unfold State.placeBlock State.admitBlock
      (repeat' split) <;> rfl

theorem approveRule_movesStore (n : Nat) (p : Plate) : (approveRule n p).MovesStore := by
  intro st slot s h
  unfold approveRule
  split
  · exact h
  · split
    · exact h
    · split
      · exact h.same (State.modPlate_store ..)
      · exact h.judgeApproval

theorem releaseRule_movesStore (n : Nat) (p : Plate) : (releaseRule n p).MovesStore := by
  intro st slot s h
  unfold releaseRule
  cases p.state with
  | filling | approving | queued | held => exact .freeBay h
  | exposing | exposed | inspecting => exact h

theorem priorityRule_store (n : Nat) (p : Plate) (slot : Option Nat) (s : State) :
    (priorityRule n p slot s).1.store = s.store := by
  unfold priorityRule
  split <;> rfl

theorem reexposeRule_movesStore (n : Nat) (p : Plate) : (reexposeRule n p).MovesStore := by
  intro st slot s h
  unfold reexposeRule
  split
  · exact h
  · split
    · exact h
    · exact .becomeQueued (h.same (State.modPlate_store ..))

theorem readStripsRule_store (first count n : Nat) (p : Plate) (slot : Option Nat) (s : State) :
    (readStripsRule first count n p slot s).1.store = s.store := by
  unfold readStripsRule
  split <;> rfl

theorem readDefectsRule_store (n : Nat) (p : Plate) (slot : Option Nat) (s : State) :
    (readDefectsRule n p slot s).1.store = s.store := by
  unfold readDefectsRule
  split <;> rfl

theorem ownLoadScreen_store (body : List Byte) (slot : Option Nat) (s : State) :
    (ownLoadScreen body slot s).1.store = s.store := by
  unfold ownLoadScreen State.loadScreen
  (repeat' split) <;> rfl

theorem ownLoadCurve_store (body : List Byte) (slot : Option Nat) (s : State) :
    (ownLoadCurve body slot s).1.store = s.store := by
  unfold ownLoadCurve State.loadCurve
  (repeat' split) <;> rfl

theorem ownSetSkew_store (body : List Byte) (slot : Option Nat) (s : State) :
    (ownSetSkew body slot s).1.store = s.store := by
  unfold ownSetSkew State.setSkew
  (repeat' split) <;> rfl

theorem ownStartExposure_movesStore (body : List Byte) : (ownStartExposure body).MovesStore := by
  refine fixedBody_movesStore 0 body fun st slot s h => ?_
  unfold State.startExposure
  split
  · exact h
  · split
    · exact .takeStart h
    · exact h

theorem ownAbortExposure_movesStore (body : List Byte) : (ownAbortExposure body).MovesStore := by
  refine fixedBody_movesStore 6 body fun st slot s h => ?_
  unfold State.abortExposure
  split
  · exact h
  · split
    · exact .abort h
    · exact h

theorem calibrateRule_store (body : List Byte) (slot : Option Nat) (s : State) :
    (calibrateRule body slot s).1.store = s.store := by
  unfold calibrateRule
  (repeat' split) <;> rfl

theorem ownSetInspection_store (body : List Byte) (slot : Option Nat) (s : State) :
    (ownSetInspection body slot s).1.store = s.store := by
  unfold ownSetInspection State.setInspection
  split <;> rfl

/-- The owner of any request works on the store by asks that fit, stops and resets alone (R171). -/
theorem ownerOf_movesStore (kind : Byte) (body : List Byte) : (ownerOf kind body).MovesStore := by
  have plate : ∀ {n : Nat} {rule : Nat → Plate → Owner}, (∀ n p, (rule n p).MovesStore) →
      (fixedBody n body (plateRequest body rule)).MovesStore :=
    fun h => fixedBody_movesStore _ body (plateRequest_movesStore body h)
  have still : ∀ {owner : Owner}, (∀ slot s, (owner slot s).1.store = s.store) → owner.MovesStore := .of_same
  unfold ownerOf
  split
  · exact fixedBody_movesStore 9 body (still fun _ s => s.configure_store body)
  · exact fixedBody_movesStore 0 body (still fun _ _ => rfl)
  · exact ownReset_movesStore body
  · exact ownOpenPlate_movesStore body
  · exact still (ownStripBlock_store body)
  · exact plate approveRule_movesStore
  · exact plate releaseRule_movesStore
  · exact plate fun n p => still (priorityRule_store n p)
  · exact plate reexposeRule_movesStore
  · exact plate fun _ _ => still fun _ _ => rfl
  · exact plate fun n p => still (readStripsRule_store _ _ n p)
  · exact plate fun n p => still (readDefectsRule_store n p)
  · exact still (ownLoadScreen_store body)
  · exact still (ownLoadCurve_store body)
  · exact still (ownSetSkew_store body)
  · exact ownStartExposure_movesStore body
  · exact ownAbortExposure_movesStore body
  · exact fixedBody_movesStore 1 body (still (calibrateRule_store body))
  · exact still (ownSetInspection_store body)
  · exact fun _ _ _ h => h.setLines
  · exact fixedBody_movesStore 0 body (still fun _ _ => rfl)
  · exact fixedBody_movesStore 1 body (still fun _ _ => rfl)
  · exact still fun _ _ => rfl

/-! ### Frames and characters -/

@[simp] theorem deliver_store (slot : Nat) (x : State × Option Reply) : (deliver slot x).store = x.1.store := by
  obtain ⟨t, _ | r⟩ := x
  · rfl
  · exact State.answer_store t slot r

theorem Store.Moves.takeFrame {addr kind tag : Byte} {body : List Byte} (h : st.Moves s.store) :
    st.Moves (s.takeFrame addr kind tag (ownerOf kind body)).store := by
  unfold State.takeFrame State.request
  split
  · split
    · rw [deliver_store]
      exact ownerOf_movesStore kind body _ _ _ h
    · rw [State.refuseBusy_frame]
      exact h
  · split
    · exact ownerOf_movesStore kind body _ none s h
    · exact h

theorem Store.Moves.judgeFrame {addr kind tag : Byte} {body : List Byte} {check : BitVec 16} (h : st.Moves s.store) :
    st.Moves (s.judgeFrame addr kind tag body check).store := by
  unfold State.judgeFrame
  split
  · exact h
  · split
    · exact .takeFrame h
    · exact h

theorem Store.Moves.takeCharacter {c : Byte} (h : st.Moves s.store) : st.Moves (s.takeCharacter c).store := by
  unfold State.takeCharacter
  split
  · split <;> exact h
  · unfold State.joinCharacter
    split
    · exact h.judgeFrame
    · exact h

theorem Store.Moves.takeCharacters {chars : List Byte} (h : st.Moves s.store) : st.Moves (s.takeCharacters chars).store :=
  .foldl _ (fun _ _ h => h.takeCharacter) chars h

theorem Store.Moves.endFrame {addr kind tag : Byte} {body : List Byte} {check : BitVec 16} (h : st.Moves s.store) :
    st.Moves (s.endFrame addr kind tag body check).store := by
  unfold State.endFrame
  dsimp only
  split
  · exact h.judgeFrame
  · exact h.takeCharacters

theorem Store.Moves.receive {addr kind tag : Byte} {body : List Byte} (h : st.Moves s.store) :
    st.Moves (s.receive addr kind tag body (ownerOf kind body)).store := by
  unfold State.receive
  dsimp only
  split
  · split
    · exact h
    · exact .takeFrame h
  · exact h.takeCharacters

/-! ### Steps -/

/-- Every command that goes on is a chain of changes of the store. -/
theorem exec_storeMoves (c : Instr) (h : exec c s = .next t) : s.store.Moves t.store := by
  have event : ∀ {f : State → State}, s.store.Moves (f s.transmit).store → run f s = .next t → s.store.Moves t.store :=
    fun hf h => by cases h; exact hf
  have still : ∀ {f : State → State}, (f s.transmit).store = s.transmit.store → run f s = .next t → s.store.Moves t.store :=
    fun same => event (by rw [same, State.transmit_store]; exact .refl)
  have start : s.store.Moves s.transmit.store := by rw [State.transmit_store]; exact .refl
  have frame : ∀ (addr kind tag : Byte) (body : List Byte),
      run (State.receive addr kind tag body (ownerOf kind body)) s = .next t → s.store.Moves t.store :=
    fun addr kind tag body => event start.receive
  cases c with
  | configure addr tag body | readStatus addr tag body | resetFull addr tag body | resetPlates addr tag body
  | openPlate addr tag body | stripBlock addr tag body | approvePlate addr tag body | releasePlate addr tag body
  | priorityPlate addr tag body | reexposePlate addr tag body | readPlate addr tag body | readStrips addr tag body
  | readDefects addr tag body | loadScreen addr tag body | loadCurve addr tag body | setSkew addr tag body
  | startExposure addr tag body | abortExposure addr tag body | calibrateScanner addr tag body
  | setInspection addr tag body | setLines addr tag body | readLines addr tag body | clearLineEvents addr tag body =>
    exact frame addr _ tag body h
  | unknownKind addr kind tag body | ignoredFrame addr kind tag body => exact frame addr kind tag body h
  | frameCheckFailed addr kind tag body check => exact event start.endFrame h
  | startCharacter character => exact event start.takeCharacter h
  | frameGapTimeout => exact event start.gap h
  | answerSent => exact event start.answerSent h
  | noticeSent => exact event start.noticeSent h
  | hardwareReset straps => exact event start.fullReset h
  | lineTick => exact event start.lineTick h
  | rawLevelChange line level => exact event start.rawLevelChange h
  | inputEdge line => exact event start.inputEdge h
  | refreshTimer => exact event (start.tail .timer) h
  | refreshComplete => exact event (start.tail .refreshed) h
  | burstComplete grantFirst =>
    change execBurstComplete grantFirst s = .next t at h
    unfold execBurstComplete at h
    split at h
    · rename_i serving
      split at h
      · rename_i inside
        exact event (start.completeBurst (by rw [State.transmit_store]; exact serving) inside) h
      · cases h
    · exact event start h
  | stripWriteStart => exact event start.stripWriteStart h
  | stripWriteComplete takeFirst => exact event start.stripWriteComplete h
  | hatchStripComplete => exact event start.hatchStripComplete h
  | passFetchComplete => exact event start.passFetchComplete h
  | drumIndex => exact event start.drumIndex h
  | passClose => exact event start.passClose h
  | scanLine samples => exact event start.scanLine h
  | expectedLineFull => exact event start.expectedLineFull h
  | diverterPulseEnd => exact still (State.diverterPulseEnd_store _) h
  | blockTake => exact still (State.blockTake_store _) h
  | decodeEnd => exact still (State.decodeEnd_store _) h
  | windowApplied => exact still (State.windowApplied_store _) h
  | darkCalibrationDone => exact still (State.darkCalibrationDone_store _) h
  | whiteCalibrationDone => exact still (State.whiteCalibrationDone_store _) h
  | dotClockPulse => exact still (State.dotClock_store _) h

/-- Every step that goes on is a chain of changes of the store. -/
theorem step_storeMoves (h : step s = .next t) : s.store.Moves t.store := by
  unfold step at h
  split at h
  · cases h; exact .refl
  · rename_i c rest _
    exact exec_storeMoves (s := { s with pending := rest }) c h

/-- A condition that every change of the store keeps is kept by every step. -/
theorem kept_of_storeMoves {P : Store → Prop} (kept : ∀ x y : Store, x.Move y → P x → P y) : Kept fun s => P s.store :=
  fun _ _ holds h => (step_storeMoves h).keep kept holds

end Sys2Proof.Machine
end

section
/-! CLAIMS SETTLED. The store stays tended and sound (R101, R104 to R106, R108). -/

namespace Sys2Proof.Proofs

open Sys2Proof.Machine

/-- Settles O58: each change that a step makes to the store leaves it tended and sound. -/
theorem storeStaysTendedAndSound : Obligations.StoreStaysTendedAndSound :=
  ⟨kept_of_storeMoves fun _ _ move => move.tended, kept_of_storeMoves fun _ _ move => move.sound⟩

end Sys2Proof.Proofs
end

section
/-! CLAIMS SETTLED. The arbiter's order and stops, and the refresh count (R105, R106, R108, R109). -/

namespace Sys2Proof.Proofs

open Sys2Proof.Machine Sys2Proof.Claims

variable {s : State} {st : Store}

/-! ### Stops (R109) -/

/-- What is in service when a requester stops: its burst goes on in vain, and anything else goes on as it was (R109). -/
def serviceAfterStop (a : Asker) : Service → Service
  | .burst x b live => .burst x b (live && decide (x ≠ a))
  | other => other

theorem stop_eq (a : Asker) (st : Store) : st.stop a = { st with
    prefetch := if a = .prefetch then none else st.prefetch
    inspect := if a = .inspect then none else st.inspect
    writer := st.writer.filter fun e => decide (e.1 ≠ a)
    service := serviceAfterStop a st.service } := by
  unfold Store.stop serviceAfterStop
  cases st.service <;> rfl

theorem serviceAfterStop_noBurst {a : Asker} {service : Service} (noBurst : ∀ x b live, service ≠ .burst x b live) :
    serviceAfterStop a service = service := by
  cases service with
  | burst x b live => exact absurd rfl (noBurst x b live)
  | idle | refresh => rfl

/-- Settles O38, a clause for each requester in the order of R106, then the stop of one (R109). -/
theorem arbiterKeepsItsOrder : Obligations.ArbiterKeepsItsOrder := by
  refine ⟨fun _ => Store.grant_refresh_first, fun _ _ => Store.grant_prefetch, fun _ _ => Store.grant_inspect,
    fun _ _ _ _ idle few => Store.grant_writer idle few, fun _ => Store.grant_refresh_last, fun _ => Store.grant_nothing,
    fun _ => Store.grant_serving, fun a st => ⟨serviceAfterStop a st.service, stop_eq a st, fun x b live serving => ?_,
    serviceAfterStop_noBurst⟩⟩
  rw [serving]
  rfl

/-! ### Refreshes counted (R108) -/

/-- The end of a refresh interval with the timer running: one more refresh is owed. -/
theorem refreshTimer_counts (runs : st.timer = true) (few : st.owed < 8) :
    st.refreshTimer = Store.grant { st with owed := st.owed + 1, timer := decide (st.owed + 1 < 8) } :=
  if_pos ⟨runs, few⟩

theorem refreshTimer_serving (runs : st.timer = true) (few : st.owed < 8) (serving : st.service ≠ .idle) :
    st.refreshTimer = { st with owed := st.owed + 1, timer := decide (st.owed + 1 < 8) } :=
  (refreshTimer_counts runs few).trans (Store.grant_serving serving)

/-- With nothing asked or owed before, the refresh goes into service at once (R106). -/
theorem refreshTimer_atRest (runs : st.timer = true) (idle : st.service = .idle) (owed : st.owed = 0)
    (prefetch : st.prefetch = none) (inspect : st.inspect = none) (writer : st.writer = []) :
    st.refreshTimer = { st with owed := 1, service := .refresh } := by
  rw [refreshTimer_counts runs (by omega)]
  refine (Store.grant_refresh_last (st := { st with owed := st.owed + 1, timer := decide (st.owed + 1 < 8) })
    idle prefetch inspect writer (Nat.succ_pos st.owed)).trans ?_
  simp [owed, runs]

theorem refreshTimer_stopped (stopped : st.timer = false) : st.refreshTimer = st :=
  if_neg fun h => by rw [stopped] at h; cases h.1

/-- A refresh completed: one fewer is owed, and from 8 the timer runs again. -/
theorem refreshComplete_counts (serving : st.service = .refresh) (most : st.owed ≤ 8) :
    st.refreshComplete = Store.grant { st with
      owed := st.owed - 1, timer := st.timer || decide (st.owed = 8), service := .idle } := by
  have full : (8 ≤ st.owed) = (st.owed = 8) := propext ⟨fun h => le_antisymm most h, fun h => h.ge⟩
  simp only [Store.refreshComplete, serving, full]

theorem refreshComplete_none (other : st.service ≠ .refresh) : st.refreshComplete = st := by
  unfold Store.refreshComplete
  split
  · rename_i serving; exact absurd serving other
  · rfl

theorem exec_refreshTimer (s : State) :
    exec .refreshTimer s = .next { s.transmit with store := s.store.refreshTimer } := by
  show run (State.onStore Store.refreshTimer) s = _
  rw [run_next, State.onStore, State.transmit_store]

theorem exec_refreshComplete (s : State) :
    exec .refreshComplete s = .next { s.transmit with store := s.store.refreshComplete } := by
  show run (State.onStore Store.refreshComplete) s = _
  rw [run_next, State.onStore, State.transmit_store]

theorem transmit_store_eq (s : State) : ({ s.transmit with store := s.store } : State) = s.transmit := by
  rw [← s.transmit_store]

/-- Settles O37: the counts as stated, the grant left out where the store serves and worked out where nothing else asks. -/
theorem refreshesAreCounted : Obligations.RefreshesAreCounted := by
  refine ⟨fun s runs few serving => ?_, fun s runs idle owed prefetch inspect writer => ?_, fun s runs few => ?_,
    fun s stopped => ?_, fun s serving _ most => ?_, fun s other => ?_⟩
  · rw [exec_refreshTimer, refreshTimer_serving runs few serving]
  · rw [exec_refreshTimer, refreshTimer_atRest runs idle owed prefetch inspect writer]
  · rw [exec_refreshTimer, refreshTimer_counts runs few]
  · rw [exec_refreshTimer, refreshTimer_stopped stopped, transmit_store_eq]
  · rw [exec_refreshComplete, refreshComplete_counts serving most]
  · rw [exec_refreshComplete, refreshComplete_none other, transmit_store_eq]

end Sys2Proof.Proofs
end

section
/-! CLAIMS SETTLED. The word of a dot, as a strip write puts it and a pass fetch reads it (R101 to R103). -/

namespace Sys2Proof.Proofs

open Sys2Proof.Machine

/-- Word c of line y lies where the bursts of its range of `rows` lines from a multiple of them on put it: burst k/8 of the
range, at its place k mod 8, for k counted from the range's first word (R102, R103). -/
theorem word_of_range (base rows lineWords y c : Nat) :
    base + y / rows * (rows * lineWords) + 8 * ((y % rows * lineWords + c) / 8) + (y % rows * lineWords + c) % 8 =
      base + y * lineWords + c := by
  have range : y / rows * (rows * lineWords) + y % rows * lineWords = y * lineWords := by
    rw [← mul_assoc, ← add_mul, mul_comm (y / rows), Nat.div_add_mod]
  omega

/-- The dot at x of a line is bit x mod 64 of its word x / 64, and the word after `line` whole lines is that line's. -/
theorem stripWord_dot (lines : List Line) {w x : Nat} (line : Nat) (multiple : w % 64 = 0) (inLine : x < w) :
    (stripWord lines w (line * (w / 64) + x / 64)).getLsbD (x % 64) = (lines.getD line 0).getLsbD x := by
  have word : x / 64 < w / 64 := by omega
  have whole : (line * (w / 64) + x / 64) / (w / 64) = line := by
    rw [mul_comm, Nat.mul_add_div (by omega), Nat.div_eq_of_lt word, add_zero]
  have place : (line * (w / 64) + x / 64) % (w / 64) = x / 64 := by
    rw [mul_comm, Nat.mul_add_mod, Nat.mod_eq_of_lt word]
  rw [stripWord, whole, place, BitVec.getLsbD_extractLsb', Nat.div_add_mod]
  simp [Nat.mod_lt]

/-- Settles O32: the strip of 64 lines and the pass of 32 are ranges of the same rows. -/
theorem passReadsTheDotWritten : Obligations.PassReadsTheDotWritten := by
  intro ctx lines key p line x s _ multiple _ inStrip inLine resident width current
  have written := word_of_range (s.bayBase ctx.bay) 64 (ctx.w / 64) (64 * ctx.strip + line) (x / 64)
  have strip : (64 * ctx.strip + line) / 64 = ctx.strip := by omega
  have lineOfStrip : (64 * ctx.strip + line) % 64 = line := by omega
  have stripWords : 64 * (ctx.w / 64) = ctx.w := by omega
  have passWords : 32 * (ctx.w / 64) = ctx.w / 2 := by omega
  rw [strip, lineOfStrip, stripWords] at written
  refine ⟨written, ?_, stripWord_dot lines line multiple inLine⟩
  rw [passBurst_eq current resident, width, ← passWords]
  exact word_of_range _ 32 _ _ _

end Sys2Proof.Proofs
end

section
/-! CLAIMS SETTLED. CONFIGURE (R110, R174, R177). -/

namespace Sys2Proof.Proofs

open Sys2Proof.Machine Sys2Proof.Claims

variable {addr tag : Byte} {body : List Byte} {s u : State} {c : Settings} {n : Nat}

/-! ### The values that a CONFIGURE body spells (section 10.9) -/

/-- The bay mode of a byte, none where no mode has that many bays. -/
def bayModeOf : Nat → Option BayMode
  | 8 => some .eight
  | 4 => some .four
  | _ => none

/-- The resolution of a byte, none where it is no R. -/
def resolutionOf : Nat → Option Resolution
  | 8 => some .r8
  | 16 => some .r16
  | _ => none

/-- The exposure mode of a code byte. -/
def exposureModeOf : Nat → Option ExposureMode
  | 0 => some .manual
  | 1 => some .auto
  | _ => none

/-- The on/off setting of a byte. -/
def switchOf : Nat → Option Bool
  | 0 => some false
  | 1 => some true
  | _ => none

theorem bayModeOf_eq_some_iff {m : BayMode} : bayModeOf n = some m ↔ m.count = n := by
  constructor
  · unfold bayModeOf
    split
    · rintro ⟨⟩; rfl
    · rintro ⟨⟩; rfl
    · rintro ⟨⟩
  · rintro rfl
    cases m <;> rfl

theorem resolutionOf_eq_some_iff {r : Resolution} : resolutionOf n = some r ↔ r.side = n := by
  constructor
  · unfold resolutionOf
    split
    · rintro ⟨⟩; rfl
    · rintro ⟨⟩; rfl
    · rintro ⟨⟩
  · rintro rfl
    cases r <;> rfl

theorem exposureModeOf_eq_some_iff {e : ExposureMode} : exposureModeOf n = some e ↔ e.code = n := by
  constructor
  · unfold exposureModeOf
    split
    · rintro ⟨⟩; rfl
    · rintro ⟨⟩; rfl
    · rintro ⟨⟩
  · rintro rfl
    cases e <;> rfl

theorem switchOf_eq_some_iff {b : Bool} : switchOf n = some b ↔ b.toNat = n := by
  constructor
  · unfold switchOf
    split
    · rintro ⟨⟩; rfl
    · rintro ⟨⟩; rfl
    · rintro ⟨⟩
  · rintro rfl
    cases b <;> rfl

/-- The settings of a body whose four chosen values are these. -/
def spelled (body : List Byte) (m : BayMode) (r : Resolution) (e : ExposureMode) (b : Bool) : Settings :=
  { bayMode := m, zoneCode := BitVec.ofNat 16 (u16At body 1), zoneMask := BitVec.ofNat 16 (u16At body 3), resolution := r,
    mode := e, pulseSteps := max (byteAt body 7) 1, autoRelease := b }

/-- CONFIGURE's settings are spelled by four values, each with an allowed code (R177). -/
theorem configureFields_eq (body : List Byte) : configureFields body =
    (bayModeOf (byteAt body 0)).bind fun m => (resolutionOf (byteAt body 5)).bind fun r =>
      (exposureModeOf (byteAt body 6)).bind fun e => (switchOf (byteAt body 8)).map (spelled body m r e) := by
  show (match bayModeOf (byteAt body 0), resolutionOf (byteAt body 5), exposureModeOf (byteAt body 6), byteAt body 8 with
    | some m, some r, some e, 0 => some (spelled body m r e false)
    | some m, some r, some e, 1 => some (spelled body m r e true)
    | _, _, _, _ => none) = _
  cases bayModeOf (byteAt body 0) with
  | none => rfl
  | some m =>
    cases resolutionOf (byteAt body 5) with
    | none => rfl
    | some r =>
      cases exposureModeOf (byteAt body 6) with
      | none => rfl
      | some e =>
        generalize byteAt body 8 = n
        rcases n with _ | _ | n <;> rfl

/-- Every value of the body is one that R177 allows. -/
abbrev AllowedSettings (body : List Byte) : Prop :=
  (byteAt body 0 = 8 ∨ byteAt body 0 = 4) ∧ (byteAt body 5 = 8 ∨ byteAt body 5 = 16) ∧ byteAt body 6 ≤ 1 ∧ byteAt body 8 ≤ 1

theorem configureFields_allowed (allowed : AllowedSettings body) :
    ∃ m r e b, m.count = byteAt body 0 ∧ r.side = byteAt body 5 ∧ e.code = byteAt body 6 ∧ b.toNat = byteAt body 8 ∧
      configureFields body = some (spelled body m r e b) := by
  obtain ⟨mode, side, exposure, release⟩ := allowed
  obtain ⟨m, hm⟩ : ∃ m : BayMode, m.count = byteAt body 0 := by
    rcases mode with h | h <;> rw [h]
    · exact ⟨.eight, rfl⟩
    · exact ⟨.four, rfl⟩
  obtain ⟨r, hr⟩ : ∃ r : Resolution, r.side = byteAt body 5 := by
    rcases side with h | h <;> rw [h]
    · exact ⟨.r8, rfl⟩
    · exact ⟨.r16, rfl⟩
  obtain ⟨e, he⟩ : ∃ e : ExposureMode, e.code = byteAt body 6 := by
    rcases Nat.le_one_iff_eq_zero_or_eq_one.1 exposure with h | h <;> rw [h]
    · exact ⟨.manual, rfl⟩
    · exact ⟨.auto, rfl⟩
  obtain ⟨b, hb⟩ : ∃ b : Bool, b.toNat = byteAt body 8 := by
    rcases Nat.le_one_iff_eq_zero_or_eq_one.1 release with h | h <;> rw [h]
    · exact ⟨false, rfl⟩
    · exact ⟨true, rfl⟩
  refine ⟨m, r, e, b, hm, hr, he, hb, ?_⟩
  rw [configureFields_eq, bayModeOf_eq_some_iff.2 hm, resolutionOf_eq_some_iff.2 hr, exposureModeOf_eq_some_iff.2 he,
    switchOf_eq_some_iff.2 hb]
  rfl

theorem configureFields_notAllowed (bad : ¬ AllowedSettings body) : configureFields body = none := by
  refine Option.eq_none_iff_forall_ne_some.2 fun c spells => bad ?_
  simp only [configureFields_eq, Option.bind_eq_some_iff, Option.map_eq_some_iff, bayModeOf_eq_some_iff,
    resolutionOf_eq_some_iff, exposureModeOf_eq_some_iff, switchOf_eq_some_iff] at spells
  obtain ⟨m, hm, r, hr, e, he, b, hb, -⟩ := spells
  rw [AllowedSettings, ← hm, ← hr, ← he, ← hb]
  exact ⟨by cases m <;> simp [BayMode.count], by cases r <;> simp [Resolution.side],
    by cases e <;> simp [ExposureMode.code], Bool.toNat_le b⟩

/-! ### The settings replaced -/

theorem u16At_toNat (body : List Byte) (i : Nat) : (BitVec.ofNat 16 (u16At body i)).toNat = u16At body i := by
  have high := byteAt_lt body i
  have low := byteAt_lt body (i + 1)
  rw [BitVec.toNat_ofNat, Nat.mod_eq_of_lt]
  unfold u16At
  omega

theorem configurable_iff : u.configurable = true ↔
    (∀ o ∈ u.bays, o = none) ∧ u.exposure.state = .idle ∧ u.inspection.work = .idle := by
  simp [State.configurable, and_assoc]

/-- The bay table after a change of settings: a change of bay mode remakes it (R110, R177). -/
def remadeBays (c : Settings) (old : BayMode) (bays : List (Option Plate)) : List (Option Plate) :=
  if c.bayMode = old then bays else List.replicate c.bayMode.count none

/-- The pending set after a change of settings: a change to 4 bays takes sources 4..7 out of it (R174). -/
def keptSources (c : Settings) (old : BayMode) (sources : BitVec 12) : BitVec 12 :=
  if c.bayMode = .four ∧ old = .eight then sources &&& 0xF0F else sources

theorem configured_eq (c : Settings) (u : State) : u.configured c = { u with
    settings := c
    bays := remadeBays c u.settings.bayMode u.bays
    link := { u.link with sources := keptSources c u.settings.bayMode u.link.sources } } := by
  unfold State.configured remadeBays keptSources
  generalize u.settings.bayMode = old
  split
  · rename_i same
    have stays : ¬ (c.bayMode = .four ∧ old = .eight) := by
      rintro ⟨new, rfl⟩
      rw [same] at new
      cases new
    rw [if_neg stays]
  · rename_i other
    split
    · rename_i new
      have eight : old = .eight := by
        cases old with
        | eight => rfl
        | four => exact absurd new other
      rw [if_pos ⟨new, eight⟩]
    · rename_i new
      rw [if_neg (by rw [new]; rintro ⟨⟨⟩, -⟩)]

theorem keptSources_getLsbD (c : Settings) (old : BayMode) (sources : BitVec 12) (lt : n < 12) :
    (keptSources c old sources).getLsbD n =
      (sources.getLsbD n && !(decide (c.bayMode = .four ∧ old = .eight ∧ 4 ≤ n ∧ n ≤ 7))) := by
  have kept : ∀ n < 12, (0xF0F#12).getLsbD n = !decide (4 ≤ n ∧ n ≤ 7) := by decide
  unfold keptSources
  split
  · rename_i toFour
    obtain ⟨new, old⟩ := toFour
    rw [BitVec.getLsbD_and]
    refine congrArg _ ((kept n lt).trans ?_)
    simp [new, old]
  · rename_i other
    rw [decide_eq_false fun h => other ⟨h.1, h.2.1⟩, Bool.not_false, Bool.and_true]

/-! ### CONFIGURE -/

theorem exec_configure (ready : Ready addr s) (length : body.length = 9) {t : State} {r : Reply}
    (effect : (requested 1 tag s).configure body = (t, some r))
    (table : t.link.outstanding = (requested 1 tag s).link.outstanding) :
    exec (.configure addr tag body) s =
      .next { t with link := { t.link with answers := t.link.answers ++ [answerTo 1 tag r s] } } := by
  show run (State.receive addr 1 tag body (ownConfigure body)) s = _
  refine exec_answered ready ?_ table
  rw [ownConfigure, fixedBody_of_length length]
  exact effect

/-- A CONFIGURE of allowed values with the line at rest: DONE, with the settings, the bay table and the pending set replaced. -/
theorem exec_configured (ready : Ready addr s) (length : body.length = 9) (spells : configureFields body = some c)
    (rest : (∀ o ∈ s.bays, o = none) ∧ s.exposure.state = .idle ∧ s.inspection.work = .idle) :
    exec (.configure addr tag body) s = .next { answered 1 tag (only .done) s with
      settings := c
      bays := remadeBays c s.settings.bayMode s.bays
      link := { (answered 1 tag (only .done) s).link with
        sources := keptSources c s.settings.bayMode s.transmit.link.sources } } := by
  have taken : (requested 1 tag s).configurable = true := configurable_iff.2 (by simpa using rest)
  have effect : (requested 1 tag s).configure body = done ((requested 1 tag s).configured c) := by
    simp only [State.configure, spells]
    exact if_pos taken
  rw [configured_eq, requested_settings, requested_bays] at effect
  exact exec_configure ready length effect rfl

/-- Settles O12: a body spells settings exactly when its values are allowed, and then the line at rest decides. -/
theorem configureReplacesSettings : Obligations.ConfigureReplacesSettings := by
  intro addr tag body s ready length allowed atRest
  refine ⟨fun bad => ?_, fun ok busy => ?_, fun ok rest => ?_⟩
  · exact exec_configure ready length (by rw [State.configure, configureFields_notAllowed bad]; rfl) rfl
  · obtain ⟨m, r, e, b, -, -, -, -, spells⟩ := configureFields_allowed ok
    have refused : ¬ (requested 1 tag s).configurable = true := fun h => busy (by simpa using configurable_iff.1 h)
    refine exec_configure ready length ?_ rfl
    simp only [State.configure, spells]
    exact if_neg refused
  · obtain ⟨m, r, e, b, hm, hr, he, hb, spells⟩ := configureFields_allowed ok
    have replaced := exec_configured (tag := tag) ready length spells rest
    refine ⟨_, replaced, hm, u16At_toNat body 1, u16At_toNat body 3, hr, ?_, ?_, ?_, rfl,
      fun n lt => keptSources_getLsbD _ _ _ lt, rfl⟩
    · rw [← he]
      cases e <;> simp [spelled, ExposureMode.code]
    · show max (byteAt body 7) 1 = _
      split <;> omega
    · rw [← hb]
      cases b <;> simp [spelled]

end Sys2Proof.Proofs
end

section
/-! SUPPORT. Lit emitters (R114, R125, R128, R130): what the light depends on, and how starts, the ends of exposures, the passes,
the plant lines, the scans and the other work on bays keep it interlocked. -/

namespace Sys2Proof.Machine

variable {s t : State} {n : Nat}

/-! ### What the light depends on -/

/-- All that the condition on the light speaks of: the exposure state, the current bay, the open pass, the emitters and the
debounced levels. -/
def State.lightView (s : State) : ExposureState × Option (Nat × PlateKey) × Bool × BitVec 32 × List Bool :=
  (s.exposure.state, s.exposure.current, s.exposure.passOpen, s.exposure.emitters,
    s.lines.inputs.map InputLine.debounced)

/-- The debounced level of a line depends on the view alone. -/
theorem State.asserted_of_lightView (same : t.lightView = s.lightView) (n : Nat) : t.asserted n = s.asserted n := by
  have levels : t.lines.inputs.map InputLine.debounced = s.lines.inputs.map InputLine.debounced :=
    congrArg (fun v => v.2.2.2.2) same
  exact Proofs.asserted_congr levels n

/-- A change of nothing that the light depends on. -/
theorem State.LightInterlocked.same (h : s.LightInterlocked) (same : t.lightView = s.lightView) : t.LightInterlocked := by
  have level := State.asserted_of_lightView same
  simp only [State.lightView, Prod.mk.injEq] at same
  obtain ⟨state, current, passOpen, emitters, -⟩ := same
  unfold State.LightInterlocked at h ⊢
  rw [state, current, passOpen, emitters, level, level, level]
  exact h

/-- With the emitters dark only the current bay is left to see to. -/
theorem State.lightInterlocked_of_dark (dark : s.exposure.emitters = 0)
    (current : s.exposure.state ≠ .idle → s.exposure.current ≠ none) : s.LightInterlocked :=
  ⟨current, fun lit => absurd dark lit⟩

/-- Outside WRITING the emitters are dark. -/
theorem State.LightInterlocked.dark (h : s.LightInterlocked) (off : s.exposure.state ≠ .writing) : s.exposure.emitters = 0 := by
  by_contra lit
  exact off (h.2 lit).1

/-- With no pass open the emitters are dark. -/
theorem State.LightInterlocked.dark_of_closed (h : s.LightInterlocked) (closed : s.exposure.passOpen = false) :
    s.exposure.emitters = 0 := by
  by_contra lit
  rw [(h.2 lit).2.1] at closed
  cases closed

/-- A condition kept by the treatment of each item is kept over a list. -/
theorem State.LightInterlocked.foldl {α : Type} {f : State → α → State}
    (kept : ∀ (s : State) a, s.LightInterlocked → (f s a).LightInterlocked) (l : List α) (h : s.LightInterlocked) :
    (l.foldl f s).LightInterlocked := by
  induction l generalizing s with
  | nil => exact h
  | cons a l ih => exact ih (kept s a h)

/-! ### Starts and queueing (R11, R13, R118, R120) -/

theorem State.beginFetch_lightView (s : State) : s.beginFetch.lightView = s.lightView := by
  rcases s.beginFetch_cases with h | ⟨-, -, h⟩ <;> rw [h]
  rfl

/-- A start is taken in IDLE, where the emitters are dark, and makes a bay the current one. -/
theorem State.LightInterlocked.takeStart (h : s.LightInterlocked) (idle : s.exposure.state = .idle) :
    s.takeStart.LightInterlocked := by
  have dark : s.exposure.emitters = 0 := h.dark (by simp [idle])
  rcases s.takeStart_cases with same | ⟨n, rest, p, -, -, started⟩
  · rwa [same]
  · rw [started]
    refine State.LightInterlocked.same ?_ (State.beginFetch_lightView _)
    exact State.lightInterlocked_of_dark dark fun _ => by simp

theorem State.LightInterlocked.autoEvent (h : s.LightInterlocked) : s.autoEvent.LightInterlocked := by
  rcases s.autoEvent_cases with same | ⟨-, -, allowed, started⟩
  · rwa [same]
  · rw [started]
    exact h.takeStart (State.startRefusal_none allowed).1

theorem State.LightInterlocked.becomeQueued {atHead : Bool} (h : s.LightInterlocked) :
    (s.becomeQueued n atHead).LightInterlocked :=
  .autoEvent (h.same (by simp [State.lightView]))

/-! ### Approvals (R9, R66) -/

theorem State.LightInterlocked.judgeApproval {entry : Option Nat} (h : s.LightInterlocked) :
    (s.judgeApproval n entry).1.LightInterlocked := by
  rcases s.judgeApproval_cases n entry with ⟨r, same⟩ | ⟨p, -, queued⟩ | ⟨p, -, -, filled⟩
  · rwa [same]
  · rw [queued]
    exact .becomeQueued (h.same rfl)
  · rw [filled]
    exact h.same (by simp [State.lightView])

theorem State.LightInterlocked.judgeHeld (h : s.LightInterlocked) : (s.judgeHeld n).LightInterlocked := by
  rcases s.judgeHeld_judged n with same | ⟨p, k, r, -, -, judged⟩
  · rwa [same]
  · rw [judged]
    have cleared : (s.modPlate n fun p => { p with approvalHeld := false, approveEntry := none }).LightInterlocked :=
      h.same (by simp [State.lightView])
    have approved := cleared.judgeApproval (n := n) (entry := p.approveEntry)
    exact approved.same (by simp [State.lightView])

/-! ### The decoder and the filler (R65, R94, R95) -/

theorem State.LightInterlocked.completeWrite {takeFirst : Bool} {i : Nat} {ctx : StripContext} (h : s.LightInterlocked) :
    (s.completeWrite takeFirst i ctx).LightInterlocked := by
  unfold State.completeWrite
  dsimp only
  split
  · exact .judgeHeld (h.same (by simp [State.lightView]))
  · refine State.LightInterlocked.same (.judgeHeld ?_) (by rw [State.lightView, State.blockTake_exposure, State.blockTake_lines]; rfl)
    exact h.same (by simp [State.lightView])

theorem State.LightInterlocked.stripWriteComplete {takeFirst : Bool} (h : s.LightInterlocked) :
    (s.stripWriteComplete takeFirst).LightInterlocked := by
  unfold State.stripWriteComplete
  split
  · exact h
  · split
    · split
      · exact h.completeWrite
      · exact h
    · exact h

theorem State.LightInterlocked.completeFill {p : Plate} (h : s.LightInterlocked) : (s.completeFill n p).LightInterlocked := by
  have unheld : (s.modPlate n fun p => { p with approveEntry := none }).LightInterlocked := h.same (by simp [State.lightView])
  have queued := unheld.becomeQueued (n := n) (atHead := p.replate)
  exact queued.same (by simp [State.completeFill, State.lightView])

theorem State.LightInterlocked.hatchStripComplete (h : s.LightInterlocked) : s.hatchStripComplete.LightInterlocked := by
  unfold State.hatchStripComplete
  split
  · split
    · unfold State.completeHatchStrip
      dsimp only
      split
      · exact h.same (by simp [State.lightView])
      · split
        · exact h.same (by simp [State.lightView])
        · exact .completeFill (h.same (by simp [State.lightView]))
    · exact h
  · exact h

/-! ### The ends of an exposure (R14 to R16, R127 to R130) -/

/-- An exposure that has ended dark leaves an IDLE controller with no current bay. -/
theorem State.becomeIdle_lightInterlocked (dark : s.exposure.emitters = 0) : s.becomeIdle.LightInterlocked :=
  .autoEvent (State.lightInterlocked_of_dark dark fun busy => absurd rfl busy)

@[simp] theorem State.beginFetch_emitters (s : State) : s.beginFetch.exposure.emitters = s.exposure.emitters :=
  congrArg (fun v => v.2.2.2.1) s.beginFetch_lightView

@[simp] theorem State.autoEvent_emitters (s : State) : s.autoEvent.exposure.emitters = s.exposure.emitters := by
  rcases s.autoEvent_cases with h | ⟨-, -, -, h⟩ <;> rw [h]
  rcases s.takeStart_cases with h | ⟨n, rest, p, -, -, h⟩ <;> rw [h]
  exact State.beginFetch_emitters _

@[simp] theorem State.bayReturned_emitters (s : State) (n : Nat) (key : PlateKey) :
    (s.bayReturned n key).exposure.emitters = s.exposure.emitters := by
  unfold State.bayReturned State.becomeQueued
  split <;> simp

theorem State.LightInterlocked.completeExposure (h : s.LightInterlocked) : s.completeExposure.LightInterlocked := by
  unfold State.completeExposure
  split
  · exact h
  · exact State.becomeIdle_lightInterlocked (by rw [State.bayCompleted_exposure]; rfl)

/-- An exposure with a current bay ends dark, whatever the interlock lines have come to. -/
theorem State.abort_lightInterlocked (cause : AbortCause) (on : s.exposure.current ≠ none) :
    (s.abort cause).LightInterlocked := by
  obtain ⟨⟨n, key⟩, current⟩ := Option.ne_none_iff_exists'.1 on
  unfold State.abort
  simp only [current]
  refine State.becomeIdle_lightInterlocked ?_
  split
  · rw [State.baySpoiled_exposure]; rfl
  · rw [State.bayReturned_emitters]; rfl

theorem State.LightInterlocked.abort {cause : AbortCause} (h : s.LightInterlocked) : (s.abort cause).LightInterlocked := by
  cases current : s.exposure.current with
  | none =>
    unfold State.abort
    simp only [current]
    exact h
  | some bay => exact State.abort_lightInterlocked cause (by simp [current])

/-- The fall of an interlock line leaves the emitters dark: the exposure is aborted, or the controller is IDLE (R128). -/
theorem State.interlockFall_lightInterlocked (cause : AbortCause) (current : s.exposure.state ≠ .idle → s.exposure.current ≠ none)
    (dark : s.exposure.state = .idle → s.exposure.emitters = 0) : (s.interlockFall cause).LightInterlocked := by
  unfold State.interlockFall
  split
  · rename_i idle
    exact State.lightInterlocked_of_dark (dark idle) current
  · rename_i busy
    exact State.abort_lightInterlocked cause (current busy)

/-! ### Passes (R116, R117, R124 to R126) -/

theorem State.LightInterlocked.passFetchComplete (h : s.LightInterlocked) : s.passFetchComplete.LightInterlocked := by
  unfold State.passFetchComplete
  split
  · exact h
  · rename_i q _
    split
    · rename_i q' words _
      split
      · refine State.LightInterlocked.same ?_ (State.beginFetch_lightView _)
        split
        · rename_i loading
          have loading : s.exposure.state = .loading := loading
          have dark : s.exposure.emitters = 0 := h.dark (by simp [loading])
          exact State.lightInterlocked_of_dark dark fun _ => h.1 (by simp [loading])
        · exact h.same rfl
      · exact h
    · exact h

theorem State.LightInterlocked.passClose (h : s.LightInterlocked) : s.passClose.LightInterlocked := by
  unfold State.passClose State.closePass
  split
  · have closed : (s.onExposure Proofs.closedPass).LightInterlocked := State.lightInterlocked_of_dark rfl h.1
    dsimp only
    split
    · exact closed.completeExposure
    · exact closed.same (State.beginFetch_lightView _)
  · exact h

/-- A pass that begins over dark emitters leaves them dark until its first dot clock. -/
theorem State.LightInterlocked.openPass {p : Nat} {words : List StoreWord} (h : s.LightInterlocked)
    (dark : s.exposure.emitters = 0) (busy : s.exposure.state ≠ .idle) :
    (s.onExposure (Exposure.openPass p words)).LightInterlocked :=
  State.lightInterlocked_of_dark dark fun _ => h.1 busy

theorem State.LightInterlocked.nextPass (h : s.LightInterlocked) (writing : s.exposure.state = .writing) :
    s.nextPass.LightInterlocked := by
  unfold State.nextPass
  split
  · exact h.abort
  · rename_i closed
    dsimp only
    split
    · split
      · exact h.openPass (h.dark_of_closed (by simpa using closed)) (by simp [writing])
      · exact h.abort
    · exact h.abort

theorem State.LightInterlocked.firstPass (h : s.LightInterlocked) (waiting : s.exposure.state = .waiting) :
    s.firstPass.LightInterlocked := by
  unfold State.firstPass
  split
  · exact (h.openPass (h.dark (by simp [waiting])) (by simp [waiting])).same rfl
  · exact h

theorem State.LightInterlocked.drumIndex (h : s.LightInterlocked) : s.drumIndex.LightInterlocked := by
  unfold State.drumIndex
  dsimp only
  split
  · rename_i waiting
    exact h.passClose.firstPass waiting
  · rename_i writing
    exact h.passClose.nextPass writing
  · exact h.passClose

/-- An emitter lit at a position finds the interlocks asserted (R114). -/
theorem State.interlocked_of_emission {x : Nat} (lit : s.emission x ≠ 0) : s.interlocked = true := by
  by_contra off
  have unlit : ∀ k, s.lit k x = false := fun k => by simp [State.lit, off]
  refine lit (BitVec.eq_of_getLsbD_eq fun i _ => ?_)
  simp [State.emission, BitVec.getLsbD_ofNat, testBit_dotBits, unlit]

theorem State.LightInterlocked.dotClock (h : s.LightInterlocked) : s.dotClock.LightInterlocked := by
  unfold State.dotClock
  split
  · rename_i on
    obtain ⟨writing, isOpen, -⟩ := on
    exact ⟨h.1, fun lit => ⟨writing, isOpen, Proofs.interlocked_iff.1 (State.interlocked_of_emission lit)⟩⟩
  · exact h

/-! ### Scans (R18, R140, R150 to R155) -/

@[simp] theorem State.endScan_inputs (s : State) (cause : UncheckedCause) : (s.endScan cause).lines.inputs = s.lines.inputs := by
  unfold State.endScan
  split
  · split
    · rfl
    · simp
  · rfl

@[simp] theorem State.compareIfReady_inputs (s : State) : s.compareIfReady.lines.inputs = s.lines.inputs := by
  unfold State.compareIfReady
  dsimp only
  (repeat' split) <;> simp

@[simp] theorem State.scanLine_inputs (s : State) (line : ScanLine) : (s.scanLine line).lines.inputs = s.lines.inputs := by
  unfold State.scanLine State.receiveLine
  dsimp only
  (repeat' split) <;> simp

@[simp] theorem State.expectedLineFull_inputs (s : State) : s.expectedLineFull.lines.inputs = s.lines.inputs := by
  unfold State.expectedLineFull
  (repeat' split) <;> simp

theorem State.LightInterlocked.judgeScanStart (h : s.LightInterlocked) : s.judgeScanStart.LightInterlocked := by
  unfold State.judgeScanStart
  split
  · refine .autoEvent ?_
    split
    · exact h.same (by simp [State.lightView])
    · exact h.same rfl
  · exact .autoEvent (h.same rfl)
  · exact h.same rfl

theorem State.LightInterlocked.scanStart (h : s.LightInterlocked) : s.scanStart.LightInterlocked := by
  refine .judgeScanStart ?_
  split
  · exact h
  · exact h.same (by simp [State.lightView])
  · exact h.same (by simp [State.lightView])

theorem State.LightInterlocked.plateClear (h : s.LightInterlocked) : s.plateClear.LightInterlocked := by
  unfold State.plateClear
  split
  · split
    · exact h.same (by simp [State.lightView])
    · exact h
  · exact h

/-! ### The plant lines (R161 to R163) -/

/-- A line record put in its place leaves a line asserted that was so, if the record is. -/
theorem State.asserted_setInput {l : InputLine} {m : Nat} (on : s.asserted m = true) (kept : m = n → l.debounced = true) :
    (s.setInput n l).asserted m = true := by
  unfold State.asserted State.input at on ⊢
  rw [List.getD_eq_getElem?_getD] at on ⊢
  show (((s.lines.inputs.set n l)[m]?).getD _).debounced = true
  rw [List.getElem?_set]
  split
  · rename_i here
    split
    · exact kept here.symm
    · rename_i out
      rwa [← here, List.getElem?_eq_none (by omega)] at on
  · exact on

/-- A line record put in its place that lets no interlock line fall. -/
theorem State.LightInterlocked.setInput {l : InputLine} (h : s.LightInterlocked)
    (kept : n < 3 → (s.input n).debounced = true → l.debounced = true) : (s.setInput n l).LightInterlocked := by
  refine ⟨h.1, fun lit => ?_⟩
  obtain ⟨writing, isOpen, door, plate, head⟩ := h.2 lit
  refine ⟨writing, isOpen, ?_, ?_, ?_⟩
  · exact State.asserted_setInput door fun here => kept (by omega) (here ▸ door)
  · exact State.asserted_setInput plate fun here => kept (by omega) (here ▸ plate)
  · exact State.asserted_setInput head fun here => kept (by omega) (here ▸ head)

theorem State.clearSpent_lightView (s : State) : s.clearSpent.lightView = s.lightView := by
  unfold State.clearSpent
  split <;> rfl

theorem State.LightInterlocked.interlockFall {cause : AbortCause} (h : s.LightInterlocked) :
    (s.interlockFall cause).LightInterlocked :=
  State.interlockFall_lightInterlocked cause h.1 fun idle => h.dark (by simp [idle])

theorem State.LightInterlocked.reportEdge {level : Bool} (h : s.LightInterlocked) : (s.reportEdge n level).LightInterlocked := by
  unfold State.reportEdge
  split
  · exact h.interlockFall
  · exact .interlockFall (h.same s.clearSpent_lightView)
  · exact h.autoEvent
  · exact h.interlockFall
  · exact h.scanStart
  · exact h.plateClear
  · exact h

/-- The fall of L0, L1 or L2 is reported to the Exposure Controller, which leaves the emitters dark (R121, R128). -/
theorem State.reportEdge_fall_lightInterlocked (interlock : n < 3) (current : s.exposure.state ≠ .idle → s.exposure.current ≠ none)
    (dark : s.exposure.state = .idle → s.exposure.emitters = 0) : (s.reportEdge n false).LightInterlocked := by
  obtain rfl | rfl | rfl : n = 0 ∨ n = 1 ∨ n = 2 := by omega
  · exact State.interlockFall_lightInterlocked _ current dark
  · have same := s.clearSpent_lightView
    simp only [State.lightView, Prod.mk.injEq] at same
    obtain ⟨state, bay, -, emitters, -⟩ := same
    refine State.interlockFall_lightInterlocked _ ?_ ?_
    · rwa [state, bay]
    · rwa [state, emitters]
  · exact State.interlockFall_lightInterlocked _ current dark

theorem State.LightInterlocked.markEdge {level : Bool} (h : s.LightInterlocked) : (s.markEdge n level).LightInterlocked := by
  unfold State.markEdge
  dsimp only
  split
  · have marked : (s.setInput n ((s.input n).mark level)).LightInterlocked := h.setInput fun _ on => on
    split
    · exact marked
    · exact marked.same rfl
  · exact h

theorem State.LightInterlocked.takeEdge (h : s.LightInterlocked) : (s.takeEdge n).LightInterlocked := by
  unfold State.takeEdge
  dsimp only
  split
  · exact h.setInput fun _ on => on
  · refine State.LightInterlocked.markEdge ?_
    by_cases fall : n < 3 ∧ (s.input n).raw = false
    · obtain ⟨interlock, low⟩ := fall
      rw [low]
      exact State.reportEdge_fall_lightInterlocked interlock h.1 fun idle => h.dark (by simp [show s.exposure.state = .idle from idle])
    · exact .reportEdge (h.setInput fun interlock _ => by simpa [interlock] using fall)

theorem State.LightInterlocked.inputEdge (h : s.LightInterlocked) : (s.inputEdge n).LightInterlocked := by
  unfold State.inputEdge
  split
  · exact h.takeEdge
  · exact h

theorem State.LightInterlocked.takeDueEdges (h : s.LightInterlocked) : s.takeDueEdges.LightInterlocked :=
  .foldl (fun _ _ h => h.inputEdge) _ h

theorem State.LightInterlocked.lineTick (h : s.LightInterlocked) : s.lineTick.LightInterlocked := by
  have level : InputLine.debounced ∘ InputLine.tick = InputLine.debounced := funext fun l => by
    show l.tick.debounced = l.debounced
    unfold InputLine.tick
    (repeat' split) <;> rfl
  exact h.takeDueEdges.same (by simp [State.lineTick, State.lightView, level])

theorem State.LightInterlocked.rawLevelChange {level : Bool} (h : s.LightInterlocked) :
    (s.rawLevelChange n level).LightInterlocked := by
  have changed : ((s.inputEdge n).setInput n { (s.inputEdge n).input n with raw := level }).LightInterlocked :=
    h.inputEdge.setInput fun _ on => on
  unfold State.rawLevelChange
  dsimp only
  split
  · exact changed.takeEdge
  · exact changed

theorem State.LightInterlocked.takeUndebounced (h : s.LightInterlocked) : s.takeUndebounced.LightInterlocked := by
  refine .foldl (fun u n h => ?_) _ h
  split
  · exact h.takeEdge
  · exact h

/-- New settings leave the debounced levels (R165). -/
theorem Lines.withSettings_debounced (body : List Byte) (l : Lines) :
    (l.withSettings body).inputs.map InputLine.debounced = l.inputs.map InputLine.debounced := by
  refine List.ext_getElem? fun i => ?_
  simp only [Lines.withSettings, List.getElem?_map, List.getElem?_zipIdx, Option.map_map]
  rfl

theorem State.LightInterlocked.setLines {body : List Byte} (h : s.LightInterlocked) : (s.setLines body).1.LightInterlocked := by
  unfold State.setLines
  split
  · dsimp only [done]
    have replaced : ({ s.takeDueEdges with lines := s.takeDueEdges.lines.withSettings body } : State).LightInterlocked :=
      h.takeDueEdges.same (by simp [State.lightView, Lines.withSettings_debounced])
    exact replaced.takeUndebounced
  · exact h

theorem State.clearEvents_lightView (s : State) (set : Byte) : (s.clearEvents set).lightView = s.lightView := by
  have levels : (s.clearEvents set).lines.inputs.map InputLine.debounced = s.lines.inputs.map InputLine.debounced := by
    refine List.ext_getElem? fun i => ?_
    simp only [State.clearEvents, List.getElem?_map, List.getElem?_zipIdx, Option.map_map]
    refine congrArg (fun f => Option.map f s.lines.inputs[i]?) (funext fun l => ?_)
    simp only [Function.comp]
    split <;> rfl
  unfold State.lightView
  rw [levels]
  rfl

end Sys2Proof.Machine
end

section
/-! SUPPORT. Resets, sends, bursts and the owners of requests keep the light interlocked (R107, R170 to R181). -/

namespace Sys2Proof.Machine

variable {s t : State} {addr kind tag : Byte} {body : List Byte}

/-! ### Resets and sends -/

theorem State.fullReset_lightInterlocked (kind : ResetKind) (straps : BitVec 2) (s : State) :
    (s.fullReset kind straps).LightInterlocked := State.lightInterlocked_of_dark rfl fun busy => absurd rfl busy

@[simp] theorem State.answerPlateWork_exposure (approvals : List Nat) (calibration : Option Nat) (s : State) :
    (s.answerPlateWork approvals calibration).exposure = s.exposure := by
  unfold State.answerPlateWork
  generalize s.link.outstanding = es
  induction es generalizing s with
  | nil => rfl
  | cons e es ih =>
    rw [List.foldl_cons, ih]
    (repeat' split) <;> simp

/-- RESET PLATES leaves the emitters dark and the Exposure Controller IDLE (R134). -/
theorem State.resetPlates_lightInterlocked (s : State) : s.resetPlates.LightInterlocked := by
  unfold State.resetPlates
  extract_lets u cleared cleared'
  have off : cleared'.exposure = u.exposure.resetPlates := by
    simp only [cleared', cleared]
    split <;> simp [State.clearPlates]
  refine State.lightInterlocked_of_dark (congrArg Exposure.emitters off) fun busy => absurd ?_ busy
  exact congrArg Exposure.state off

theorem State.LightInterlocked.gap (h : s.LightInterlocked) : s.gap.LightInterlocked := by
  unfold State.gap
  split <;> exact h.same rfl

theorem State.LightInterlocked.answerSent (h : s.LightInterlocked) : s.answerSent.LightInterlocked := by
  unfold State.answerSent
  split
  · split
    · exact State.fullReset_lightInterlocked _ _ s
    · exact h.same (by simp [State.lightView])
  · exact h

theorem State.LightInterlocked.noticeSent (h : s.LightInterlocked) : s.noticeSent.LightInterlocked := by
  unfold State.noticeSent State.noticeReported
  split
  · split
    · exact h.same (by simp [State.lightView])
    · exact h.same (by simp [State.lightView])
  · exact h

/-! ### Bursts served (R107, R116) -/

theorem State.servedPrefetch_lightView (s : State) (words : List StoreWord) :
    (s.servedPrefetch words).lightView = s.lightView := by
  unfold State.servedPrefetch
  split
  · rfl
  · split
    · dsimp only
      split <;> rfl
    · rfl

theorem State.served_lightView (s : State) (asker : Asker) (words : List StoreWord) :
    (s.served asker words).lightView = s.lightView := by
  cases asker with
  | prefetch => exact s.servedPrefetch_lightView words
  | inspect => simp [State.served, State.lightView]
  | decoder => simp [State.served, State.lightView]
  | filler => simp [State.served, State.lightView]

theorem State.completeBurst_lightView (s : State) (grantFirst : Bool) (asker : Asker) (b : Burst) (live : Bool) :
    (s.completeBurst grantFirst asker b live).lightView = s.lightView := by
  unfold State.completeBurst
  cases live with
  | true => exact (State.served_lightView _ asker _).trans (by cases grantFirst <;> rfl)
  | false => cases grantFirst <;> rfl

/-! ### Owners -/

/-- What the owner does keeps the light interlocked, for every entry and state. -/
def Owner.KeepsLight (owner : Owner) : Prop :=
  ∀ (slot : Option Nat) (s : State), s.LightInterlocked → (owner slot s).1.LightInterlocked

/-- An owner of work that the light does not depend on. -/
theorem Owner.KeepsLight.of_same {owner : Owner} (same : ∀ slot s, (owner slot s).1.lightView = s.lightView) :
    owner.KeepsLight := fun slot s h => h.same (same slot s)

theorem fixedBody_keepsLight (n : Nat) (body : List Byte) {owner : Owner} (kept : owner.KeepsLight) :
    (fixedBody n body owner).KeepsLight := by
  intro slot s h
  unfold fixedBody
  split
  · exact kept slot s h
  · exact h

theorem plateRequest_keepsLight (body : List Byte) {rule : Nat → Plate → Owner} (kept : ∀ n p, (rule n p).KeepsLight) :
    (plateRequest body rule).KeepsLight := by
  intro slot s h
  unfold plateRequest
  split
  · exact h
  · exact kept _ _ slot s h

theorem State.configure_lightView (body : List Byte) (s : State) : (s.configure body).1.lightView = s.lightView := by
  unfold State.configure
  split
  · rfl
  · rename_i c _
    split
    · obtain ⟨bays, link, configured, -⟩ := s.configured_frame c
      rw [done, configured]
      rfl
    · rfl

theorem ownReset_keepsLight (body : List Byte) : (ownReset body).KeepsLight := by
  refine fixedBody_keepsLight 1 body fun slot s h => ?_
  unfold resetRule
  split
  · split
    · exact h.same rfl
    · exact s.fullReset_lightInterlocked _ _
  · exact s.resetPlates_lightInterlocked
  · exact h

theorem State.openPlate_lightView (s : State) (f : OpenFields) : (s.openPlate f).1.lightView = s.lightView := by
  rcases s.openPlate_cases f with ⟨r, h⟩ | ⟨n, -, -, -, h⟩ <;> rw [h]
  simp [State.fillBay, State.lightView]

theorem ownStripBlock_lightView (body : List Byte) (slot : Option Nat) (s : State) :
    (ownStripBlock body slot s).1.lightView = s.lightView := by
  unfold ownStripBlock State.stripBlock
  split
  · rfl
  · rename_i b _
    split
    · show (s.countForeign b).lightView = s.lightView
      rcases s.countForeign_cases b with h | ⟨n, h⟩ <;> rw [h]
      simp [State.lightView]
    · unfold State.placeBlock State.admitBlock
      (repeat' split) <;> rfl

theorem approveRule_keepsLight (n : Nat) (p : Plate) : (approveRule n p).KeepsLight := by
  intro slot s h
  unfold approveRule
  split
  · exact h
  · split
    · exact h
    · split
      · exact h.same (by simp [State.holdApproval, State.lightView])
      · exact h.judgeApproval

theorem releaseRule_lightView (n : Nat) (p : Plate) (slot : Option Nat) (s : State) :
    (releaseRule n p slot s).1.lightView = s.lightView := by
  unfold releaseRule
  split <;> simp [done, refuse, State.lightView]

theorem priorityRule_lightView (n : Nat) (p : Plate) (slot : Option Nat) (s : State) :
    (priorityRule n p slot s).1.lightView = s.lightView := by
  unfold priorityRule
  split <;> rfl

theorem reexposeRule_keepsLight (n : Nat) (p : Plate) : (reexposeRule n p).KeepsLight := by
  intro slot s h
  unfold reexposeRule
  split
  · exact h
  · split
    · exact h
    · exact .becomeQueued (h.same (by simp [State.lightView]))

theorem readStripsRule_lightView (first count n : Nat) (p : Plate) (slot : Option Nat) (s : State) :
    (readStripsRule first count n p slot s).1.lightView = s.lightView := by
  unfold readStripsRule
  split <;> rfl

theorem readDefectsRule_lightView (n : Nat) (p : Plate) (slot : Option Nat) (s : State) :
    (readDefectsRule n p slot s).1.lightView = s.lightView := by
  unfold readDefectsRule
  split <;> rfl

theorem State.loadScreen_lightView (body : List Byte) (s : State) : (s.loadScreen body).1.lightView = s.lightView := by
  unfold State.loadScreen
  (repeat' split) <;> rfl

theorem State.loadCurve_lightView (body : List Byte) (s : State) : (s.loadCurve body).1.lightView = s.lightView := by
  unfold State.loadCurve
  (repeat' split) <;> rfl

theorem State.setSkew_lightView (body : List Byte) (s : State) : (s.setSkew body).1.lightView = s.lightView := by
  unfold State.setSkew
  (repeat' split) <;> rfl

theorem ownStartExposure_keepsLight (body : List Byte) : (ownStartExposure body).KeepsLight := by
  refine fixedBody_keepsLight 0 body fun slot s h => ?_
  unfold State.startExposure
  split
  · exact h
  · rename_i allowed
    split
    · have released : (s.onExposure fun e => { e with autoHold := false }).LightInterlocked := h.same rfl
      exact released.takeStart (State.startRefusal_none allowed).1
    · exact h

theorem ownAbortExposure_keepsLight (body : List Byte) : (ownAbortExposure body).KeepsLight := by
  refine fixedBody_keepsLight 6 body fun slot s h => ?_
  unfold State.abortExposure
  split
  · exact h
  · split
    · exact .abort (h.same rfl)
    · exact h

theorem calibrateRule_lightView (body : List Byte) (slot : Option Nat) (s : State) :
    (calibrateRule body slot s).1.lightView = s.lightView := by
  unfold calibrateRule
  (repeat' split) <;> rfl

theorem State.setInspection_lightView (body : List Byte) (s : State) : (s.setInspection body).1.lightView = s.lightView := by
  unfold State.setInspection
  split <;> rfl

/-- The owner of any request keeps the light interlocked (R171). -/
theorem ownerOf_keepsLight (kind : Byte) (body : List Byte) : (ownerOf kind body).KeepsLight := by
  have plate : ∀ {n : Nat} {rule : Nat → Plate → Owner}, (∀ n p, (rule n p).KeepsLight) →
      (fixedBody n body (plateRequest body rule)).KeepsLight :=
    fun kept => fixedBody_keepsLight _ body (plateRequest_keepsLight body kept)
  have still : ∀ {owner : Owner}, (∀ slot s, (owner slot s).1.lightView = s.lightView) → owner.KeepsLight := .of_same
  unfold ownerOf
  split
  · exact fixedBody_keepsLight 9 body (still fun _ s => s.configure_lightView body)
  · exact fixedBody_keepsLight 0 body (still fun _ _ => rfl)
  · exact ownReset_keepsLight body
  · exact fixedBody_keepsLight 12 body (still fun _ s => s.openPlate_lightView _)
  · exact still (ownStripBlock_lightView body)
  · exact plate approveRule_keepsLight
  · exact plate fun n p => still (releaseRule_lightView n p)
  · exact plate fun n p => still (priorityRule_lightView n p)
  · exact plate reexposeRule_keepsLight
  · exact plate fun _ _ => still fun _ _ => rfl
  · exact plate fun n p => still (readStripsRule_lightView _ _ n p)
  · exact plate fun n p => still (readDefectsRule_lightView n p)
  · exact still fun _ s => s.loadScreen_lightView body
  · exact still fun _ s => s.loadCurve_lightView body
  · exact still fun _ s => s.setSkew_lightView body
  · exact ownStartExposure_keepsLight body
  · exact ownAbortExposure_keepsLight body
  · exact fixedBody_keepsLight 1 body (still (calibrateRule_lightView body))
  · exact still fun _ s => s.setInspection_lightView body
  · exact fun _ _ h => h.setLines
  · exact fixedBody_keepsLight 0 body (still fun _ _ => rfl)
  · exact fixedBody_keepsLight 1 body (still fun _ s => s.clearEvents_lightView _)
  · exact still fun _ _ => rfl

/-! ### Frames and characters -/

theorem deliver_lightView (slot : Nat) (x : State × Option Reply) : (deliver slot x).lightView = x.1.lightView := by
  obtain ⟨t, _ | r⟩ := x
  · rfl
  · simp [deliver, State.lightView]

theorem State.LightInterlocked.takeFrame (h : s.LightInterlocked) :
    (s.takeFrame addr kind tag (ownerOf kind body)).LightInterlocked := by
  unfold State.takeFrame State.request
  split
  · split
    · refine State.LightInterlocked.same ?_ (deliver_lightView _ _)
      exact ownerOf_keepsLight kind body _ _ (h.same rfl)
    · rw [State.refuseBusy_frame]
      exact h.same rfl
  · split
    · exact ownerOf_keepsLight kind body none s h
    · exact h

theorem State.LightInterlocked.judgeFrame {check : BitVec 16} (h : s.LightInterlocked) :
    (s.judgeFrame addr kind tag body check).LightInterlocked := by
  have hunting : s.hunt.LightInterlocked := h.same rfl
  unfold State.judgeFrame
  split
  · exact hunting
  · split
    · exact hunting.takeFrame
    · exact hunting.same rfl

theorem State.LightInterlocked.takeCharacter {c : Byte} (h : s.LightInterlocked) : (s.takeCharacter c).LightInterlocked := by
  unfold State.takeCharacter
  split
  · split <;> exact h.same rfl
  · unfold State.joinCharacter
    split
    · exact h.judgeFrame
    · exact h.same rfl

theorem State.LightInterlocked.takeCharacters {chars : List Byte} (h : s.LightInterlocked) :
    (s.takeCharacters chars).LightInterlocked := .foldl (fun _ _ h => h.takeCharacter) chars h

theorem State.LightInterlocked.endFrame {check : BitVec 16} (h : s.LightInterlocked) :
    (s.endFrame addr kind tag body check).LightInterlocked := by
  unfold State.endFrame
  dsimp only
  split
  · exact h.judgeFrame
  · exact h.takeCharacters

theorem State.LightInterlocked.receive (h : s.LightInterlocked) :
    (s.receive addr kind tag body (ownerOf kind body)).LightInterlocked := by
  have hunting : s.hunt.LightInterlocked := h.same rfl
  unfold State.receive
  dsimp only
  split
  · split
    · exact hunting
    · exact hunting.takeFrame
  · exact h.takeCharacters

/-! ### Steps -/

/-- Every command that goes on keeps the light interlocked. -/
theorem State.LightInterlocked.exec (c : Instr) (h : s.LightInterlocked) (next : exec c s = .next t) : t.LightInterlocked := by
  have start : s.transmit.LightInterlocked := h.same (by simp [State.lightView])
  have event : ∀ {f : State → State}, (f s.transmit).LightInterlocked → run f s = .next t → t.LightInterlocked :=
    fun kept next => by cases next; exact kept
  have still : ∀ {f : State → State}, (f s.transmit).lightView = s.transmit.lightView → run f s = .next t →
      t.LightInterlocked := fun same => event (start.same same)
  have frame : ∀ (addr kind tag : Byte) (body : List Byte),
      run (State.receive addr kind tag body (ownerOf kind body)) s = .next t → t.LightInterlocked :=
    fun addr kind tag body => event start.receive
  cases c with
  | configure addr tag body | readStatus addr tag body | resetFull addr tag body | resetPlates addr tag body
  | openPlate addr tag body | stripBlock addr tag body | approvePlate addr tag body | releasePlate addr tag body
  | priorityPlate addr tag body | reexposePlate addr tag body | readPlate addr tag body | readStrips addr tag body
  | readDefects addr tag body | loadScreen addr tag body | loadCurve addr tag body | setSkew addr tag body
  | startExposure addr tag body | abortExposure addr tag body | calibrateScanner addr tag body
  | setInspection addr tag body | setLines addr tag body | readLines addr tag body | clearLineEvents addr tag body =>
    exact frame addr _ tag body next
  | unknownKind addr kind tag body | ignoredFrame addr kind tag body => exact frame addr kind tag body next
  | frameCheckFailed addr kind tag body check => exact event start.endFrame next
  | startCharacter character => exact event start.takeCharacter next
  | frameGapTimeout => exact event start.gap next
  | answerSent => exact event start.answerSent next
  | noticeSent => exact event start.noticeSent next
  | hardwareReset straps => exact event (State.fullReset_lightInterlocked _ straps _) next
  | lineTick => exact event start.lineTick next
  | rawLevelChange line level => exact event start.rawLevelChange next
  | inputEdge line => exact event start.inputEdge next
  | drumIndex => exact event start.drumIndex next
  | dotClockPulse => exact event start.dotClock next
  | passClose => exact event start.passClose next
  | passFetchComplete => exact event start.passFetchComplete next
  | stripWriteComplete takeFirst => exact event start.stripWriteComplete next
  | hatchStripComplete => exact event start.hatchStripComplete next
  | burstComplete grantFirst =>
    change execBurstComplete grantFirst s = .next t at next
    unfold execBurstComplete at next
    split at next
    · split at next
      · exact still (State.completeBurst_lightView _ grantFirst _ _ _) next
      · cases next
    · exact event start next
  | diverterPulseEnd | refreshTimer | refreshComplete => exact still rfl next
  | blockTake => exact still (by simp [State.lightView]) next
  | decodeEnd => exact still (by simp [State.lightView]) next
  | windowApplied => exact still (by simp [State.lightView]) next
  | stripWriteStart => exact still (by simp [State.lightView]) next
  | scanLine samples => exact still (by simp [State.lightView]) next
  | expectedLineFull => exact still (by simp [State.lightView]) next
  | darkCalibrationDone => exact still (by simp [State.lightView]) next
  | whiteCalibrationDone => exact still (by simp [State.lightView]) next

end Sys2Proof.Machine
end

section
/-! CLAIMS SETTLED. The light stays interlocked (R114, R125, R128, R130). -/

namespace Sys2Proof.Proofs

open Sys2Proof.Machine

/-- Settles O57: whatever ends an exposure or lets an interlock line fall leaves the emitters dark, a pass begins dark, and a dot
clock lights emitters only with the interlocks asserted. -/
theorem lightStaysInterlocked : Obligations.LightStaysInterlocked := by
  intro s t h next
  unfold step at next
  split at next
  · cases next
    exact h
  · rename_i c rest _
    have taken : ({ s with pending := rest } : State).LightInterlocked := h.same rfl
    exact taken.exec c next

end Sys2Proof.Proofs
end

section
/-! CLAIMS SETTLED. SET SKEW (R132), the pass fetches (R116, R117, R123) and the dot clock (R113, R114, R125). -/

namespace Sys2Proof.Proofs

open Sys2Proof.Machine Sys2Proof.Claims

variable {s u : State} {addr kind tag : Byte} {body : List Byte} {n q q' : Nat} {key : PlateKey} {p : Plate}
  {words : List StoreWord}

/-! ### SET SKEW -/

/-- A frame that is not for this unit changes nothing (R170). -/
theorem exec_notAddressed (hunting : s.link.receiver = .hunting) (elsewhere : addr ≠ s.link.addrByte)
    (barred : ¬ (addr = 0x0F ∧ broadcastKind kind = true)) (owner : Owner) :
    run (State.receive addr kind tag body owner) s = .next s.transmit := by
  have ignored : s.transmit.hunt.takeFrame addr kind tag owner = s.transmit.hunt := by
    unfold State.takeFrame
    rw [if_neg (by rw [hunt_transmit hunting, State.transmit_addrByte]; exact elsewhere), if_neg barred]
  rw [run_next]
  unfold State.receive
  rw [ignored, hunt_transmit hunting]
  simp [hunting, Receiver.admits]

/-- Settles O41, by the two refusals in order, the skews replaced, and the broadcast that SET SKEW may not be. -/
theorem setSkewReplacesSkews : Obligations.SetSkewReplacesSkews := by
  refine ⟨fun addr tag body s ready => ⟨fun wrong => ?_, fun length busy => ?_, fun length idle => ?_⟩,
    fun tag body s hunting => ?_⟩
  · exact exec_unchanged (owner := ownSetSkew body) ready (if_pos wrong)
  · refine exec_unchanged (owner := ownSetSkew body) ready ?_
    exact (if_neg (not_not.2 length)).trans (if_pos (by rwa [requested_exposure]))
  · have replaced : ownSetSkew body (some s.link.freeSlot) (requested 15 tag s) =
        done (((requested 15 tag s).onExposure fun e => { e with skews := skewsOf body }).setSource sourceExposure) :=
      (if_neg (not_not.2 length)).trans (if_neg (by rw [requested_exposure]; exact not_not.2 idle))
    refine (exec_answered (kind := 15) (owner := ownSetSkew body) ready replaced rfl).trans ?_
    simp only [State.onExposure, requested_exposure]
    rfl
  · exact exec_notAddressed (kind := 15) hunting (addrByte_ne _) (by decide) (ownSetSkew body)

/-! ### Pass fetches -/

theorem exposureWidth_eq (current : u.exposure.current = some (n, key)) (resident : u.plate? n = some p) :
    u.exposureWidth = p.w := by
  simp [State.exposureWidth, current, resident]

/-- A pass fetched whole: its buffer FULL, and no fetch under way (R116). -/
def fetchedPass (place q : Nat) (words : List StoreWord) (e : Exposure) : Exposure :=
  { e with prefetchPass := none, buffers := e.buffers.set place (.full q words) }

/-- Before the last burst of the pass nothing happens (R116). -/
theorem passFetchComplete_early (fetch : u.exposure.prefetchPass = some q)
    (buffer : u.exposure.buffers[q % 2]? = some (.fetching q' words)) (short : words.length < u.exposureWidth / 2) :
    u.passFetchComplete = u := by
  unfold State.passFetchComplete
  simp [fetch, List.getD_eq_getElem?_getD, buffer]
  omega

/-- The last burst of a pass's fetch ends it: outside LOADING the next fetch may begin at once (R116, R117). -/
theorem passFetchComplete_next (fetch : u.exposure.prefetchPass = some q)
    (buffer : u.exposure.buffers[q % 2]? = some (.fetching q' words)) (whole : u.exposureWidth / 2 ≤ words.length)
    (state : u.exposure.state ≠ .loading) : u.passFetchComplete = (u.onExposure (fetchedPass (q % 2) q' words)).beginFetch := by
  unfold State.passFetchComplete
  simp only [fetch, List.getD_eq_getElem?_getD, buffer, Option.getD_some]
  rw [if_pos whole]
  exact congrArg State.beginFetch (if_neg state)

/-- The last burst of the first pass's fetch ends LOADING, and the exposure source is set (R123). -/
theorem passFetchComplete_loading (fetch : u.exposure.prefetchPass = some q)
    (buffer : u.exposure.buffers[q % 2]? = some (.fetching q' words)) (whole : u.exposureWidth / 2 ≤ words.length)
    (state : u.exposure.state = .loading) :
    u.passFetchComplete = (State.setSource sourceExposure
      (u.onExposure fun e => { fetchedPass (q % 2) q' words e with state := .waiting })).beginFetch := by
  unfold State.passFetchComplete
  simp only [fetch, List.getD_eq_getElem?_getD, buffer, Option.getD_some]
  rw [if_pos whole]
  exact congrArg State.beginFetch (if_pos state)

/-- Where the next pass's buffer is not EMPTY its fetch does not begin (R116). -/
theorem beginFetch_occupied {other : PassBuffer}
    (buffer : u.exposure.buffers[u.exposure.nextFetch % 2]? = some other) (occupied : other ≠ .empty) : u.beginFetch = u := by
  unfold State.beginFetch
  refine if_neg ?_
  rintro ⟨-, -, isEmpty⟩
  rw [List.getD_eq_getElem?_getD, buffer] at isEmpty
  cases other with
  | empty => exact occupied rfl
  | fetching | full | emitting => cases isEmpty

/-- Settles O42, by the end of the fetch in LOADING and outside it, and the fetch that begins after it or does not. -/
theorem passFetchCompletesToWaiting : Obligations.PassFetchCompletesToWaiting := by
  refine ⟨fun n key p words s loading current resident fetch next passes buffers whole => ?_,
    fun n q key p words other s state current resident fetch next whole buffer neighbour => ?_,
    fun n q q' key p words s current resident fetch buffer short => ?_⟩
  all_goals
    have width : s.transmit.exposureWidth = p.w := exposureWidth_eq (by simpa using current) ((transmit_plate? n).trans resident)
  · refine congrArg Host.Outcome.next ((passFetchComplete_loading (q := 0) (q' := 0) (words := words) (by simpa)
      (by simp [buffers]) (by rwa [width]) (by simpa)).trans ?_)
    rw [beginFetch_begins (n := n) (key := key) (p := p)]
    · simp [State.onExposure, fetchedPass, buffers, next, State.bayBase, sourceExposure]
    · simpa [State.onExposure, fetchedPass] using current
    · exact (transmit_plate? n).trans resident
    · rfl
    · simp [State.onExposure, fetchedPass, next]; omega
    · simp [State.onExposure, fetchedPass, next, buffers]
  · have ended : s.transmit.passFetchComplete = (s.transmit.onExposure (fetchedPass (q % 2) q words)).beginFetch :=
      passFetchComplete_next (by simpa) (by simpa) (by rwa [width]) (by simpa)
    have apart : q % 2 ≠ (q + 1) % 2 := by omega
    have place : (s.transmit.onExposure (fetchedPass (q % 2) q words)).exposure.buffers[(q + 1) % 2]? = some other := by
      simp [State.onExposure, fetchedPass, List.getElem?_set_ne apart, neighbour]
    refine ⟨fun begins => ?_, fun rests => ?_⟩
    · obtain ⟨left, rfl⟩ := begins
      refine congrArg Host.Outcome.next (ended.trans ?_)
      rw [beginFetch_begins (n := n) (key := key) (p := p)]
      · simp [State.onExposure, fetchedPass, next, State.bayBase]
      · simpa [State.onExposure, fetchedPass] using current
      · exact (transmit_plate? n).trans resident
      · rfl
      · simpa [State.onExposure, fetchedPass, next] using left
      · have following : (s.transmit.onExposure (fetchedPass (q % 2) q words)).exposure.nextFetch = q + 1 := by
          simpa [State.onExposure, fetchedPass] using next
        rw [following, List.getD_eq_getElem?_getD, place]
        rfl
    · refine congrArg Host.Outcome.next (ended.trans ?_)
      have following : (s.transmit.onExposure (fetchedPass (q % 2) q words)).exposure.nextFetch = q + 1 := by
        simpa [State.onExposure, fetchedPass] using next
      have still : (s.transmit.onExposure (fetchedPass (q % 2) q words)).beginFetch =
          s.transmit.onExposure (fetchedPass (q % 2) q words) := by
        rcases rests with last | occupied
        · refine beginFetch_rest (.inl ?_)
          rw [following]
          simpa [State.onExposure, fetchedPass] using last
        · exact beginFetch_occupied (by rw [following]; exact place) occupied
      rw [still]
      simp [State.onExposure, fetchedPass]
  · exact congrArg Host.Outcome.next (passFetchComplete_early (by simpa) (by simpa) (by rwa [width]))

/-! ### The dot clock -/

/-- Emitter k of a position is lit as R114 says. -/
theorem emission_getLsbD {k x : Nat} (lt : k < 32) : (u.emission x).getLsbD k = u.lit k x := by
  rw [State.emission, BitVec.getLsbD_ofNat, testBit_dotBits]
  simp [lt]

/-- What lights an emitter over an open pass (R114). -/
theorem lit_iff {k x : Nat} (current : u.exposure.current = some (n, key)) (resident : u.plate? n = some p)
    (buffer : u.exposure.buffers[u.exposure.passCounter % 2]? = some (.emitting q words)) :
    u.lit k x = true ↔ u.asserted 0 = true ∧ u.asserted 1 = true ∧ u.asserted 2 = true ∧ u.exposure.skews.getD k 0 ≤ x ∧
      x - u.exposure.skews.getD k 0 < p.w ∧
      (words.getD (k * (p.w / 64) + (x - u.exposure.skews.getD k 0) / 64) 0).getLsbD
        ((x - u.exposure.skews.getD k 0) % 64) = true := by
  have emitting : u.exposure.passWords = words := by
    simp [Exposure.passWords, List.getD_eq_getElem?_getD, buffer]
  simp only [State.lit, emitting, exposureWidth_eq current resident, passDot, Bool.and_eq_true, decide_eq_true_eq,
    interlocked_iff, and_assoc]

/-- Settles O44, by the emitters of the position that a dot clock shows, and the pulses that it ignores. -/
theorem dotClockEmitsPosition : Obligations.DotClockEmitsPosition := by
  refine ⟨fun n q key p words s writing isOpen left current resident buffer => ?_, fun s off => ?_⟩
  · have shown : s.transmit.dotClock = { s.transmit with exposure := { s.exposure with
        emitters := s.transmit.emission s.exposure.position, position := s.exposure.position + 1 } } := by
      unfold State.dotClock
      rw [if_pos (by simpa using ⟨writing, isOpen, left⟩)]
      simp [State.onExposure]
    have same : s.transmit.emission = s.emission := by rw [s.transmit_frame]; rfl
    refine ⟨_, congrArg Host.Outcome.next shown, fun k lt => ?_⟩
    rw [same, emission_getLsbD lt]
    exact lit_iff current resident buffer
  · refine congrArg Host.Outcome.next (if_neg ?_)
    rw [State.transmit_exposure]
    rintro ⟨writing, isOpen, left⟩
    rcases off with off | closed | all
    · exact off writing
    · rw [closed] at isOpen; cases isOpen
    · omega

end Sys2Proof.Proofs
end

section
/-! SUPPORT. The bodies of the exposure, inspection, line and link notices as section 10.9 lays them out (R131, R156, R162,
R176). -/

namespace Sys2Proof.Proofs

open Sys2Proof.Machine Sys2Proof.Claims

variable {s : State} {d : List Byte} {i : Nat}

@[simp] theorem lastCalibrationBytes_length (c : Option LastCalibration) : (lastCalibrationBytes c).length = 4 := by
  cases c <;> rfl
@[simp] theorem lastScanBytes_length (o : LastScan) : o.bytes.length = 9 := by cases o <;> rfl

theorem calibrationOutcome_code (o : CalibrationOutcome) :
    [CalibrationOutcome.done, CalibrationOutcome.failed, CalibrationOutcome.aborted][o.code % 256]? = some o := by
  cases o <;> rfl
theorem uncheckedCause_code (c : UncheckedCause) :
    [UncheckedCause.none, UncheckedCause.lagged, UncheckedCause.earlyClear, UncheckedCause.overlap][c.code % 256]? = some c := by
  cases c <;> rfl
theorem resetKind_code (k : ResetKind) :
    [ResetKind.hardware, ResetKind.full, ResetKind.plates][k.code % 256]? = some k := by cases k <;> rfl

theorem calibrationReads_of {c : Option LastCalibration} (field : FieldAt d i (lastCalibrationBytes c)) :
    CalibrationReads c d i := by
  cases c with
  | none =>
    simp only [lastCalibrationBytes, fieldAt_append, List.length_append, be8_length, Nat.reduceAdd, and_assoc] at field
    obtain ⟨phase, outcome, weak⟩ := field
    exact ⟨fun _ => ⟨byteAt_be8 phase, byteAt_be8 outcome, u16At_be16 weak⟩, fun x h => by cases h⟩
  | some x =>
    simp only [lastCalibrationBytes, fieldAt_append, List.length_append, be8_length, Nat.reduceAdd, and_assoc] at field
    obtain ⟨phase, outcome, weak⟩ := field
    refine ⟨fun h => (by cases h), fun y h => ?_⟩
    cases h
    refine ⟨?_, ?_, u16At_be16 weak⟩
    · rw [byteAt_be8 phase]
      cases x.phase <;> rfl
    · rw [byteAt_be8 outcome, calibrationOutcome_code]

theorem scanOutcomeReads_of {o : LastScan} (field : FieldAt d i o.bytes) : ScanOutcomeReads o d i := by
  refine ⟨?_, fun v cause n k => ?_, fun k => ?_, ?_⟩ <;> rintro rfl <;>
    simp only [LastScan.bytes, fieldAt_append, List.length_append, be8_length, Nat.reduceAdd, and_assoc] at field
  · obtain ⟨kind, verdict, cause, bay⟩ := field
    exact ⟨byteAt_be8 kind, byteAt_be8 verdict, byteAt_be8 cause, bayKeyReads_of bay⟩
  · obtain ⟨kind, verdict, causeCode, bay⟩ := field
    refine ⟨byteAt_be8 kind, ?_, ?_, bayKeyReads_of bay⟩
    · rw [byteAt_be8 verdict, verdict_code]
    · rw [byteAt_be8 causeCode, uncheckedCause_code]
  · obtain ⟨kind, verdict, cause, bay, key⟩ := field
    exact ⟨byteAt_be8 kind, byteAt_be8 verdict, byteAt_be8 cause, byteAt_be8 bay, keyReads_of key⟩
  · obtain ⟨kind, verdict, cause, bay⟩ := field
    exact ⟨byteAt_be8 kind, byteAt_be8 verdict, byteAt_be8 cause, bayKeyReads_of bay⟩

theorem exposureNoticeReads (layout : d = s.noticeBody 8) : ExposureNoticeReads s d := by
  have body : s.noticeBody 8 = be8 8 ++ s.exposureReport := rfl
  rw [body] at layout
  have length := congrArg List.length layout
  have whole := fieldAt_of_eq layout
  simp only [State.exposureReport, fieldAt_append, List.length_append, be8_length, be16_length, beFlag_length, beBayKey_length,
    lastBytes_length, Nat.reduceAdd, and_assoc] at length whole
  obtain ⟨source, state, current, pass, mode, spent, autoHold, last⟩ := whole
  refine ⟨length, byteAt_be8 source, ?_, bayKeyReads_of current, u16At_be16 pass, ?_, byteAt_beFlag spent,
    byteAt_beFlag autoHold, lastReads_of last⟩
  · rw [byteAt_be8 state, exposureState_code]
  · rw [byteAt_be8 mode, mode_code]

/-- The fields of the inspection notice that a scan in progress fills (R156). -/
def scanBytes (s : State) : List Byte :=
  match s.scan? with
  | some sc => beBayKey (some (sc.bay, sc.key)) ++ be16 sc.received ++ beFlag sc.lagged ++ be8 sc.openDefects.length
  | none => beBayKey none ++ be16 0 ++ be8 0 ++ be8 0

@[simp] theorem scanBytes_length (s : State) : (scanBytes s).length = 10 := by
  unfold scanBytes
  cases s.scan? <;> rfl

/-- The inspection notice's report, its scan fields named (R156). -/
theorem inspectionReport_eq (s : State) : s.inspectionReport = be8 s.inspection.work.code ++ scanBytes s
    ++ be16 s.freeRecords ++ lastCalibrationBytes s.inspection.lastCalibration ++ s.inspection.lastScan.bytes
    ++ be16 s.inspection.unexpectedCount ++ be16 s.inspection.abortedCount := by
  unfold State.inspectionReport scanBytes
  cases s.scan? <;> rfl

theorem scanBytes_scanning {sc : Scan} (on : s.inspection.work = .scanning sc) (field : FieldAt d i (scanBytes s)) :
    BayKeyReads (some (sc.bay, sc.key)) d i ∧ u16At d (i + 6) = sc.received % 65536 ∧
      byteAt d (i + 8) = flagCode sc.lagged ∧ byteAt d (i + 9) = sc.openDefects.length % 256 := by
  simp only [scanBytes, State.scan?, on, fieldAt_append, List.length_append, beBayKey_length, be16_length, beFlag_length,
    Nat.reduceAdd, and_assoc] at field
  obtain ⟨bay, received, lagged, opens⟩ := field
  exact ⟨bayKeyReads_of bay, u16At_be16 received, byteAt_beFlag lagged, byteAt_be8 opens⟩

theorem scanBytes_off (off : ∀ sc, s.inspection.work ≠ .scanning sc) (field : FieldAt d i (scanBytes s)) :
    BayKeyReads none d i ∧ u16At d (i + 6) = 0 ∧ byteAt d (i + 8) = 0 ∧ byteAt d (i + 9) = 0 := by
  have none : s.scan? = none := by
    unfold State.scan?
    split
    · rename_i sc on
      exact absurd on (off sc)
    · rfl
  simp only [scanBytes, none, fieldAt_append, List.length_append, beBayKey_length, be16_length, be8_length, Nat.reduceAdd,
    and_assoc] at field
  obtain ⟨bay, received, lagged, opens⟩ := field
  exact ⟨bayKeyReads_of bay, u16At_be16 received, byteAt_be8 lagged, byteAt_be8 opens⟩

theorem inspectionNoticeReads (layout : d = s.noticeBody 9) : InspectionNoticeReads s d := by
  have body : s.noticeBody 9 = be8 9 ++ s.inspectionReport := rfl
  rw [body, inspectionReport_eq] at layout
  have length := congrArg List.length layout
  have whole := fieldAt_of_eq layout
  simp only [fieldAt_append, List.length_append, be8_length, be16_length, scanBytes_length, lastCalibrationBytes_length,
    lastScanBytes_length, Nat.reduceAdd, and_assoc] at length whole
  obtain ⟨source, work, scan, free, calibration, outcome, unexpected, aborted⟩ := whole
  refine ⟨length, byteAt_be8 source, ?_, fun sc on => scanBytes_scanning on scan, fun off => scanBytes_off off scan, ?_,
    calibrationReads_of calibration, scanOutcomeReads_of outcome, u16At_be16 unexpected, u16At_be16 aborted⟩
  · rw [byteAt_be8 work]
    cases s.inspection.work <;> rfl
  · rw [u16At_be16 free]
    exact Nat.mod_eq_of_lt (freeRecords_lt s)

theorem linesNoticeReads (eight : s.lines.inputs.length = 8) (layout : d = s.noticeBody 10) : LinesNoticeReads s d := by
  have body : s.noticeBody 10 = be8 10 ++ s.linesReport := rfl
  rw [body] at layout
  have length := congrArg List.length layout
  have whole := fieldAt_of_eq layout
  simp only [State.linesReport, Lines.outputSettingBytes, State.outputLevelByte, fieldAt_append, List.length_append, be8_length,
    beSet_length, Nat.reduceAdd, and_assoc] at length whole
  obtain ⟨source, reported, flags, o0, o1, o2, o3, levels⟩ := whole
  refine ⟨length, byteAt_be8 source, fun n l here => ?_, ?_, ?_, ?_, ?_, fun n lt => ?_⟩
  · have lt : n < 8 := eight ▸ (List.getElem?_eq_some_iff.1 here).1
    exact ⟨testBit_beSet reported (by simp [here, InputLine.reported]) lt, testBit_beSet flags (by simp [here]) lt⟩
  · rw [byteAt_be8 o0, output_code]
  · rw [byteAt_be8 o1, output_code]
  · rw [byteAt_be8 o2, output_code]
  · rw [byteAt_be8 o3, output_code]
  · exact testBit_beSet levels (by simp [List.getElem?_range lt]) (by omega)

theorem linkNoticeReads (layout : d = s.noticeBody 11) : LinkNoticeReads s d := by
  have body : s.noticeBody 11 = be8 11 ++ s.linkReport := rfl
  rw [body] at layout
  have length := congrArg List.length layout
  have whole := fieldAt_of_eq layout
  simp only [State.linkReport, fieldAt_append, List.length_append, be8_length, beFlag_length, linkCountBytes_length,
    Nat.reduceAdd, and_assoc] at length whole
  obtain ⟨source, kind, ready, unitAddr, counters⟩ := whole
  refine ⟨length, byteAt_be8 source, ?_, byteAt_beFlag ready, byteAt_be8_of_lt (by omega) unitAddr, countersRead_of counters⟩
  rw [byteAt_be8 kind, resetKind_code]

end Sys2Proof.Proofs
end

section
/-! CLAIMS SETTLED. The transmitter's choice and the frames it sends (R131, R156, R162, R173 to R176). -/

namespace Sys2Proof.Proofs

open Sys2Proof.Machine Sys2Proof.Claims

variable {s : State} {l : Link} {n : Nat}

/-! ### Frames being sent -/

theorem status_code (st : Status) : statuses[(BitVec.ofNat 8 st.code).toNat]? = some st := by cases st <;> rfl

theorem noticeKind_eq (lt : n < 12) : noticeKind n = BitVec.ofNat 8 (if n < 8 then 0x41 else 0x3A + n) := by
  interval_cases n <;> rfl

/-! ### The choice -/

/-- The first pending source after the pointer, d places on (R174). -/
theorem nextSource_eq {d : Nat} (lt : d < 12) (pending : l.sources.getLsbD ((l.pointer + 1 + d) % 12) = true)
    (first : ∀ e, e < d → l.sources.getLsbD ((l.pointer + 1 + e) % 12) = false) :
    l.nextSource = some ((l.pointer + 1 + d) % 12) := by
  have found : ((List.range 12).find? fun k => l.sources.getLsbD ((l.pointer + 1 + k) % 12)) = some d :=
    List.find?_range_eq_some.2 ⟨pending, List.mem_range.2 lt, fun e before => by rw [first e before]; rfl⟩
  rw [Link.nextSource, List.find?_map]
  exact congrArg (Option.map _) found

theorem nextSource_eq_none (quiet : l.sources = 0) : l.nextSource = none := by
  rw [Link.nextSource, List.find?_eq_none]
  intro k _
  simp [quiet]

/-- The link source goes first after a reset, and else the first pending one after the pointer (R174, R176). -/
theorem chooseSource_eq
    (chosen : l.ready = true ∧ l.sources.getLsbD 11 = true ∧ n = 11 ∨
      ¬ (l.ready = true ∧ l.sources.getLsbD 11 = true) ∧
      ∃ d, d < 12 ∧ n = (l.pointer + 1 + d) % 12 ∧ l.sources.getLsbD n = true ∧
        ∀ e, e < d → l.sources.getLsbD ((l.pointer + 1 + e) % 12) = false) : l.chooseSource = some n := by
  unfold Link.chooseSource
  rcases chosen with ⟨ready, pending, rfl⟩ | ⟨other, d, lt, rfl, pending, first⟩
  · exact if_pos (Bool.and_eq_true_iff.2 ⟨ready, pending⟩)
  · exact (if_neg (mt Bool.and_eq_true_iff.1 other)).trans (nextSource_eq lt pending first)

theorem transmit_answer {a : Answer} {rest : List Answer} (idle : s.link.tx = .idle) (queue : s.link.answers = a :: rest) :
    s.transmit = { s with link := { s.link with tx := .answer a, answers := rest } } := by
  unfold State.transmit
  simp only [idle, queue]

theorem transmit_notice (idle : s.link.tx = .idle) (queue : s.link.answers = []) (waits : s.link.fullReset = none)
    (chosen : s.link.chooseSource = some n) : s.transmit = s.beginNotice n := by
  unfold State.transmit
  simp [idle, queue, waits, chosen]

theorem transmit_nothing (queue : s.link.answers = []) (quiet : s.link.chooseSource = none) : s.transmit = s := by
  rcases s.transmit_cases with same | ⟨a, rest, -, waiting, -⟩ | ⟨n, -, -, -, chosen, -⟩
  · exact same
  · rw [queue] at waiting; cases waiting
  · rw [quiet] at chosen; cases chosen

/-- Settles O10, by the layout of the notices, the frame of each state of the transmitter, and the three outcomes of its
choice. -/
theorem transmitterChoosesNextFrame : Obligations.TransmitterChoosesNextFrame := by
  refine ⟨fun s => ⟨exposureNoticeReads rfl, inspectionNoticeReads rfl, fun eight => linesNoticeReads eight rfl,
    linkNoticeReads rfl⟩, fun s => ⟨fun idle => ?_, fun a sending => ?_, fun n body due lt sending => ?_⟩,
    fun s idle => ⟨fun a rest queue => transmit_answer idle queue, fun n queue waits chosen => ?_, fun queue quiet => ?_⟩⟩
  · simp only [State.wire, idle]
  · refine ⟨BitVec.ofNat 8 a.reply.status.code, status_code _, ?_⟩
    simp only [State.wire, sending]
    rfl
  · simp only [State.wire, sending, noticeKind_eq lt]
    rfl
  · exact transmit_notice idle queue waits (chooseSource_eq chosen)
  · refine transmit_nothing queue ?_
    rw [Link.chooseSource, nextSource_eq_none quiet, quiet]
    simp

end Sys2Proof.Proofs
end

section
/-! SUPPORT. Edges that new settings let through, as the claims speak of them (R161 to R163, R165). -/

namespace Sys2Proof.Proofs

open Sys2Proof.Machine Sys2Proof.Claims

variable {s u v : State} {l : InputLine} {body : List Byte} {k m n : Nat}

/-! ### What an edge does -/

/-- An edge's report changes no line record. -/
@[simp] theorem reportEdge_inputs (n : Nat) (level : Bool) (u : State) : (u.reportEdge n level).lines.inputs = u.lines.inputs := by
  have start : u.scanStart.lines.inputs = u.lines.inputs := by
    unfold State.scanStart
    rw [judgeScanStart_inputs]
    split <;> simp
  unfold State.reportEdge State.plateClear
  (repeat' split) <;> simp [start]

/-- An edge changes no line record but its own. -/
theorem takeEdge_other (other : n ≠ m) (u : State) : (u.takeEdge m).lines.inputs[n]? = u.lines.inputs[n]? := by
  unfold State.takeEdge State.markEdge
  dsimp only
  (repeat' split) <;> simp [State.setInput, List.getElem?_set_ne (Ne.symm other)]

/-- L5 to L7 are reported to no block (R163). -/
theorem reportEdge_unheard (high : 5 ≤ n) (level : Bool) (u : State) : u.reportEdge n level = u := by
  obtain ⟨k, rfl⟩ := Nat.exists_eq_add_of_le' high
  rfl

/-- An edge of a line whose levels differ, its record as it moves and then marked (R161, R162). -/
theorem takeEdge_differ (here : u.lines.inputs[n]? = some l) (differ : l.raw ≠ l.debounced) :
    u.takeEdge n = edgeMarked n l ((u.setInput n (movedLine l)).reportEdge n l.raw) := by
  have at_ : ((u.setInput n (movedLine l)).reportEdge n l.raw).lines.inputs[n]? = some (movedLine l) := by
    rw [reportEdge_inputs]
    exact List.getElem?_set_self (List.getElem?_eq_some_iff.1 here).1
  unfold State.takeEdge
  simp only [input_of_get here]
  rw [if_neg differ, ← markEdge_eq at_]
  rfl

/-- A line at its debounced level, with no edge due, makes none. -/
theorem takeEdge_level (here : u.lines.inputs[n]? = some l) (level : l.raw = l.debounced) (notDue : l.edgeDue = false) :
    u.takeEdge n = u := by
  obtain ⟨lt, is⟩ := List.getElem?_eq_some_iff.1 here
  have same : ({ l with edgeDue := false } : InputLine) = l := by rw [← notDue]
  unfold State.takeEdge
  simp only [input_of_get here]
  rw [if_pos level, same, State.setInput, ← is, List.set_getElem_self]

theorem takeEdge_unheard (high : 5 ≤ n) (here : u.lines.inputs[n]? = some l) (differ : l.raw ≠ l.debounced) :
    u.takeEdge n = edgeMarked n l u := by
  rw [takeEdge_differ here differ, reportEdge_unheard high, edgeMarked_setInput]

/-- With no edge due there is none to take. -/
theorem takeDueEdges_none (notDue : ∀ l ∈ u.lines.inputs, l.edgeDue = false) : u.takeDueEdges = u := by
  have rests : ∀ n, u.inputEdge n = u := fun n => by
    refine if_neg ?_
    unfold State.input
    rw [List.getD_eq_getElem?_getD]
    cases here : u.lines.inputs[n]? with
    | none => simp [InputLine.reset]
    | some l => simp [notDue l (List.mem_of_getElem? here)]
  unfold State.takeDueEdges
  generalize List.range 8 = ns
  induction ns with
  | nil => rfl
  | cons n ns ih => rw [List.foldl_cons, rests, ih]

/-! ### Lines of debounce 0 -/

/-- A line without debounce whose levels differ: its edge is at once (R161). -/
def passes (l : InputLine) : Bool := decide (l.debounce = 0 ∧ l.raw ≠ l.debounced)

/-- One line's turn, when new settings let edges through (R165). -/
def takeTurn (v : State) (n : Nat) : State := if (v.input n).debounce = 0 then v.takeEdge n else v

theorem takeUndebounced_eq (u : State) : u.takeUndebounced = (List.range 8).foldl takeTurn u := rfl

theorem foldl_range_succ (u : State) (k : Nat) :
    (List.range (k + 1)).foldl takeTurn u = takeTurn ((List.range k).foldl takeTurn u) k := by
  rw [List.range_succ, List.foldl_append]
  rfl

theorem takeTurn_passes (here : v.lines.inputs[n]? = some l) (through : passes l = true) : takeTurn v n = v.takeEdge n := by
  obtain ⟨bare, -⟩ := of_decide_eq_true through
  exact if_pos (by rw [input_of_get here]; exact bare)

theorem takeTurn_rests (here : v.lines.inputs[n]? = some l) (notDue : l.edgeDue = false) (stopped : passes l = false) :
    takeTurn v n = v := by
  unfold takeTurn
  rw [input_of_get here]
  split
  · rename_i bare
    have level : l.raw = l.debounced := by simpa [passes, bare] using stopped
    exact takeEdge_level here level notDue
  · rfl

/-- One line alone passes, of any kind: the others' turns come to nothing before its edge and after it. -/
theorem takeTurns_one (notDue : ∀ l ∈ u.lines.inputs, l.edgeDue = false) (here : u.lines.inputs[m]? = some l)
    (through : passes l = true) (alone : ∀ n l, u.lines.inputs[n]? = some l → n ≠ m → passes l = false)
    (fits : k ≤ u.lines.inputs.length) :
    (List.range k).foldl takeTurn u = if m < k then u.takeEdge m else u := by
  induction k with
  | zero => rfl
  | succ k ih =>
    have line : u.lines.inputs[k]? = some u.lines.inputs[k] := List.getElem?_eq_getElem (by omega)
    have idle : k ≠ m → takeTurn (if m < k then u.takeEdge m else u) k = if m < k then u.takeEdge m else u := fun other => by
      refine takeTurn_rests ?_ (notDue _ (List.mem_of_getElem? line)) (alone k _ line other)
      split
      · rw [takeEdge_other other, line]
      · exact line
    rw [foldl_range_succ, ih (by omega)]
    rcases Nat.lt_trichotomy k m with before | rfl | after
    · rw [idle (by omega), if_neg (by omega), if_neg (by omega)]
    · rw [if_neg (Nat.lt_irrefl k), if_pos (Nat.lt_succ_self k), takeTurn_passes here through]
    · rw [idle (by omega), if_pos after, if_pos (by omega)]

/-! ### Lines reported to no block -/

/-- The line's edge passes and is noticed (R162, R165). -/
def noticed (l : InputLine) : Bool := passes l && edgeHits l && !l.masked

/-- u when the edges of its first k lines that pass have been taken, none of them reported to a block (R162). -/
def edgesTaken (k : Nat) (u : State) : State :=
  { u with
    lines := { u.lines with
      inputs := u.lines.inputs.mapIdx fun n l => if n < k ∧ passes l = true then afterEdge l else l }
    link := { u.link with
      sources := if u.lines.inputs.zipIdx.any fun x => decide (x.2 < k) && noticed x.1 then u.link.sources ||| (1#12 <<< 10)
        else u.link.sources } }

theorem edgesTaken_get (k : Nat) (here : u.lines.inputs[n]? = some l) :
    (edgesTaken k u).lines.inputs[n]? = some (if n < k ∧ passes l = true then afterEdge l else l) := by
  simp [edgesTaken, here]

/-- A notice among the first k + 1 lines is one of the first k, or of line k. -/
theorem any_noticed_succ (here : u.lines.inputs[k]? = some l) :
    (u.lines.inputs.zipIdx.any fun x => decide (x.2 < k + 1) && noticed x.1) =
      ((u.lines.inputs.zipIdx.any fun x => decide (x.2 < k) && noticed x.1) || noticed l) := by
  rw [Bool.eq_iff_iff]
  simp only [Bool.or_eq_true, List.any_eq_true, Bool.and_eq_true, decide_eq_true_eq, List.mem_zipIdx_iff_getElem?]
  constructor
  · rintro ⟨⟨x, n⟩, at_, lt, hit⟩
    rcases Nat.lt_succ_iff_lt_or_eq.1 lt with lt | rfl
    · exact .inl ⟨(x, n), at_, lt, hit⟩
    · rw [here] at at_
      cases at_
      exact .inr hit
  · rintro (⟨⟨x, n⟩, at_, lt, hit⟩ | hit)
    · exact ⟨(x, n), at_, Nat.lt_succ_of_lt lt, hit⟩
    · exact ⟨(l, k), here, Nat.lt_succ_self k, hit⟩

theorem edgesTaken_zero (u : State) : edgesTaken 0 u = u := by
  have inputs : (u.lines.inputs.mapIdx fun n l => if n < 0 ∧ passes l = true then afterEdge l else l) = u.lines.inputs :=
    List.ext_getElem? fun n => by simp
  unfold edgesTaken
  rw [inputs]
  simp

/-- The turn of a line that does not pass adds no edge. -/
theorem edgesTaken_rests (here : u.lines.inputs[k]? = some l) (stopped : passes l = false) :
    edgesTaken (k + 1) u = edgesTaken k u := by
  have inputs : (u.lines.inputs.mapIdx fun n l => if n < k + 1 ∧ passes l = true then afterEdge l else l) =
      u.lines.inputs.mapIdx fun n l => if n < k ∧ passes l = true then afterEdge l else l := by
    refine List.ext_getElem? fun n => ?_
    rw [List.getElem?_mapIdx, List.getElem?_mapIdx]
    by_cases eq : n = k
    · subst eq
      simp [here, stopped]
    · have lt : n < k + 1 ↔ n < k := by omega
      simp only [lt]
  have quiet : noticed l = false := by simp [noticed, stopped]
  unfold edgesTaken
  rw [inputs, any_noticed_succ here, quiet, Bool.or_false]

/-- The turn of a line that passes adds its edge. -/
theorem edgesTaken_passes (here : u.lines.inputs[k]? = some l) (through : passes l = true) :
    edgesTaken (k + 1) u = edgeMarked k l (edgesTaken k u) := by
  have inputs : (u.lines.inputs.mapIdx fun n l => if n < k + 1 ∧ passes l = true then afterEdge l else l) =
      (u.lines.inputs.mapIdx fun n l => if n < k ∧ passes l = true then afterEdge l else l).set k (afterEdge l) := by
    refine List.ext_getElem? fun n => ?_
    rw [List.getElem?_set, List.getElem?_mapIdx, List.getElem?_mapIdx]
    by_cases eq : k = n
    · subst eq
      obtain ⟨lt, is⟩ := List.getElem?_eq_some_iff.1 here
      simp [is, through, lt]
    · have lt : n < k + 1 ↔ n < k := by omega
      simp only [lt, if_neg eq]
  have noticed_eq : noticed l = (edgeHits l && !l.masked) := by rw [noticed, through]; rfl
  unfold edgesTaken edgeMarked
  rw [inputs, any_noticed_succ here, noticed_eq]
  by_cases before : (u.lines.inputs.zipIdx.any fun x => decide (x.2 < k) && noticed x.1) = true
  · simp [before, BitVec.or_assoc]
  · simp [before]

/-- Where every line that passes is one reported to no block, the turns take those edges and nothing more. -/
theorem takeTurns_unheard (notDue : ∀ l ∈ u.lines.inputs, l.edgeDue = false)
    (high : ∀ n l, u.lines.inputs[n]? = some l → passes l = true → 5 ≤ n) (fits : k ≤ u.lines.inputs.length) :
    (List.range k).foldl takeTurn u = edgesTaken k u := by
  induction k with
  | zero => exact (edgesTaken_zero u).symm
  | succ k ih =>
    have line : u.lines.inputs[k]? = some u.lines.inputs[k] := List.getElem?_eq_getElem (by omega)
    have here : (edgesTaken k u).lines.inputs[k]? = some u.lines.inputs[k] := by
      rw [edgesTaken_get k line, if_neg (by simp)]
    rw [foldl_range_succ, ih (by omega)]
    cases through : passes u.lines.inputs[k] with
    | true =>
      obtain ⟨-, differ⟩ := of_decide_eq_true through
      rw [takeTurn_passes here through, takeEdge_unheard (high k _ line through) here differ, edgesTaken_passes line through]
    | false =>
      rw [takeTurn_rests here (notDue _ (List.mem_of_getElem? line)) through, edgesTaken_rests line through]

end Sys2Proof.Proofs
end

section
/-! SUPPORT. SET LINES' body and the new settings (R165). -/

namespace Sys2Proof.Proofs

open Sys2Proof.Machine Sys2Proof.Claims

variable {s u v : State} {l : InputLine} {body : List Byte} {c k m n : Nat} {addr kind tag : Byte}

/-! ### The body's fields -/

theorem edgeOf_isSome : (edgeOf c).isSome = true ↔ c ≤ 2 := by
  match c with
  | 0 | 1 | 2 => decide
  | c + 3 => simp [edgeOf]

theorem outputOf_isSome : (outputOf c).isSome = true ↔ c ≤ 2 := by
  match c with
  | 0 | 1 | 2 => decide
  | c + 3 => simp [outputOf]

theorem edgeOf_getD (code : c ≤ 2) (old : EdgeSetting) :
    (edgeOf c).getD old = if c = 0 then .rising else if c = 1 then .falling else .both := by
  match c with
  | 0 | 1 | 2 => rfl

/-- The output setting of an allowed code (section 10.9). -/
def outputCoded (c : Nat) : OutputSetting := if c = 0 then .low else if c = 1 then .high else .auto

theorem outputOf_getD (code : c ≤ 2) (old : OutputSetting) : (outputOf c).getD old = outputCoded c := by
  match c with
  | 0 | 1 | 2 => rfl

theorem linesFieldsOk_iff : linesFieldsOk body = true ↔
    body.length = 35 ∧ (∀ n, n < 8 → byteAt body (4 * n + 1) ≤ 2 ∧ byteAt body (4 * n + 2) ≤ 1 ∧
      byteAt body (4 * n + 3) ≤ 1) ∧ byteAt body 32 ≤ 2 ∧ byteAt body 33 ≤ 2 ∧ byteAt body 34 ≤ 2 := by
  simp only [linesFieldsOk, lineFieldsOk, Bool.and_eq_true, decide_eq_true_eq, List.all_eq_true, List.mem_range, edgeOf_isSome,
    outputOf_isSome, and_assoc]

/-! ### The settings replaced -/

/-- A line within the body takes the settings that its four bytes name. -/
theorem InputLine.withSettings_eq (ok : linesFieldsOk body = true) (within : n < 8) (l : InputLine) :
    l.withSettings body n = withSetting body n l := by
  obtain ⟨-, fields, -⟩ := linesFieldsOk_iff.1 ok
  obtain ⟨edge, -, -⟩ := fields n within
  rw [InputLine.withSettings, withSetting, edgeOf_getD edge]

/-- The lines under the new settings, with these input records. -/
def resetLines (body : List Byte) (inputs : List InputLine) (old : Lines) : Lines :=
  { old with
    inputs := inputs, o1 := outputCoded (byteAt body 32), o2 := outputCoded (byteAt body 33), o3 := outputCoded (byteAt body 34) }

theorem Lines.withSettings_eq (ok : linesFieldsOk body = true) {old : Lines} (eight : old.inputs.length = 8) :
    old.withSettings body = resetLines body (old.inputs.mapIdx (withSetting body)) old := by
  obtain ⟨-, -, o1, o2, o3⟩ := linesFieldsOk_iff.1 ok
  have inputs : (old.inputs.zipIdx.map fun p => p.1.withSettings body p.2) = old.inputs.mapIdx (withSetting body) := by
    refine List.ext_getElem (by simp) fun n lt _ => ?_
    rw [List.length_map, List.length_zipIdx, eight] at lt
    simp [InputLine.withSettings_eq ok lt]
  rw [Lines.withSettings, inputs, outputOf_getD o1, outputOf_getD o2, outputOf_getD o3]
  rfl

/-- The line passes under its new settings exactly when they let its edge through. -/
theorem passes_withSetting (body : List Byte) (n : Nat) (l : InputLine) : passes (withSetting body n l) = letsThrough body n l := by
  have bare : min (byteAt body (4 * n)) 15 = 0 ↔ byteAt body (4 * n) = 0 := by omega
  simp only [passes, letsThrough, withSetting, bare]

/-! ### The edges taken -/

theorem any_zipIdx_mapIdx {α β : Type} (f : Nat → α → β) (p : β × Nat → Bool) (as : List α) :
    (as.mapIdx f).zipIdx.any p = as.zipIdx.any fun x => p (f x.2 x.1, x.2) := by
  rw [Bool.eq_iff_iff, List.any_eq_true, List.any_eq_true]
  simp only [Prod.exists, List.mem_zipIdx_iff_getElem?, List.getElem?_mapIdx, Option.map_eq_some_iff]
  constructor
  · rintro ⟨_, n, ⟨a, at_, rfl⟩, hit⟩
    exact ⟨a, n, at_, hit⟩
  · rintro ⟨a, n, at_, hit⟩
    exact ⟨_, n, ⟨a, at_, rfl⟩, hit⟩

/-- Under new settings, the edges of lines reported to no block are all that is taken. -/
theorem takeUndebounced_unheard (eight : u.lines.inputs.length = 8) (notDue : ∀ l ∈ u.lines.inputs, l.edgeDue = false)
    (high : ∀ n l, u.lines.inputs[n]? = some l → passes l = true → 5 ≤ n) :
    u.takeUndebounced = edgesTaken 8 u :=
  (takeUndebounced_eq u).trans (takeTurns_unheard notDue high eight.ge)

/-- The INPUT_EDGE of the one line marked as due is that line's edge. -/
theorem inputEdge_due (notDue : ∀ l ∈ u.lines.inputs, l.edgeDue = false) (here : u.lines.inputs[n]? = some l)
    (differ : l.raw ≠ l.debounced) :
    State.inputEdge n { u with lines := { u.lines with
      inputs := u.lines.inputs.mapIdx fun k l => { l with edgeDue := decide (k = n) } } } = u.takeEdge n := by
  generalize hx : ({ u with lines := { u.lines with
      inputs := u.lines.inputs.mapIdx fun k l => { l with edgeDue := decide (k = n) } } } : State) = x
  have at_ : x.lines.inputs[n]? = some { l with edgeDue := true } := by simp [← hx, here]
  have moved : x.setInput n (movedLine l) = u.setInput n (movedLine l) := by
    have inputs : x.lines.inputs.set n (movedLine l) = u.lines.inputs.set n (movedLine l) := by
      refine List.ext_getElem? fun k => ?_
      by_cases eq : n = k
      · simp [← hx, eq, List.getElem?_set]
      · rw [List.getElem?_set_ne eq, List.getElem?_set_ne eq, ← hx]
        cases old : u.lines.inputs[k]? with
        | none => simp [old]
        | some o =>
          have rest := notDue o (List.mem_of_getElem? old)
          simp [old, Ne.symm eq, ← rest]
    unfold State.setInput
    rw [inputs, ← hx]
  have due : x.inputEdge n = x.takeEdge n := if_pos (by rw [input_of_get at_])
  rw [due, takeEdge_differ at_ differ, takeEdge_differ here differ, ← moved]
  rfl

/-! ### The transmitter while a request is handled -/

/-- The transmitter that has just chosen has nothing more to choose when a request takes its entry (R174). -/
theorem transmit_settled_entry {entries : List Entry} (same : u.link = { s.transmit.link with outstanding := entries }) :
    u.transmit = u := by
  have settled : s.transmit.transmit = s.transmit := transmit_settled rfl
  rcases u.transmit_cases with rests | ⟨a, rest, idle, queue, -⟩ | ⟨src, idle, -, waits, chosen, -⟩
  · exact rests
  · rw [same] at idle queue
    have waits : s.transmit.link.answers = a :: rest := queue
    exact absurd (by rw [settled]; exact idle) (transmit_chooses (s := s.transmit) idle (.inl (by simp [waits])))
  · rw [same] at idle waits chosen
    have choice : s.transmit.link.chooseSource = some src := chosen
    exact absurd (by rw [settled]; exact idle) (transmit_chooses (s := s.transmit) idle (.inr ⟨waits, by simp [choice]⟩))

end Sys2Proof.Proofs
end

section
/-! CLAIMS SETTLED. SET LINES, CLEAR LINE EVENTS, the diverter pulse and the outputs (R164 to R167). -/

namespace Sys2Proof.Proofs

open Sys2Proof.Machine Sys2Proof.Claims

variable {s u v : State} {l : InputLine} {body : List Byte} {m n : Nat} {addr tag : Byte}

/-! ### SET LINES -/

/-- The state whose settings a SET LINES body has replaced, before any edge is taken. -/
def relined (body : List Byte) (u : State) : State :=
  { u with lines := resetLines body (u.lines.inputs.mapIdx (withSetting body)) u.lines }

/-- A line of the new settings is one of the old with its settings replaced. -/
theorem relined_get : (relined body u).lines.inputs[n]? = (u.lines.inputs[n]?).map (withSetting body n) := by
  simp [relined, resetLines]

theorem relined_length : (relined body u).lines.inputs.length = u.lines.inputs.length := by
  simp [relined, resetLines]

theorem relined_notDue (notDue : ∀ l ∈ u.lines.inputs, l.edgeDue = false) :
    ∀ l ∈ (relined body u).lines.inputs, l.edgeDue = false := fun l mem => by
  obtain ⟨n, at_⟩ := List.getElem?_of_mem mem
  rw [relined_get, Option.map_eq_some_iff] at at_
  obtain ⟨old, here, rfl⟩ := at_
  exact notDue old (List.mem_of_getElem? here)

/-- A body that passes replaces every setting and then takes the edges that these let through (R165). -/
theorem setLines_relines (ok : linesFieldsOk body = true) (eight : u.lines.inputs.length = 8)
    (notDue : ∀ l ∈ u.lines.inputs, l.edgeDue = false) : u.setLines body = done (relined body u).takeUndebounced := by
  unfold State.setLines
  rw [if_pos ok]
  simp only [takeDueEdges_none notDue, Lines.withSettings_eq ok eight]
  rfl

/-- The records under the new settings, the edges that these let through taken (R161, R165). -/
def letThrough (body : List Byte) (inputs : List InputLine) : List InputLine :=
  inputs.mapIdx fun n l => if letsThrough body n l then afterEdge (withSetting body n l) else withSetting body n l

/-- An edge let through is one that the line notice tells of (R162). -/
def letsNotice (body : List Byte) (inputs : List InputLine) : Bool :=
  inputs.zipIdx.any fun x =>
    letsThrough body x.2 x.1 && edgeHits (withSetting body x.2 x.1) && !(withSetting body x.2 x.1).masked

/-- The lines let through, once all of them are reported to no block. -/
theorem edgesTaken_relined (eight : u.lines.inputs.length = 8) : edgesTaken 8 (relined body u) = { u with
    lines := resetLines body (letThrough body u.lines.inputs) u.lines
    link := { u.link with sources :=
      (if letsNotice body u.lines.inputs then u.link.sources ||| (1#12 <<< 10) else u.link.sources) } } := by
  have inputs : ((u.lines.inputs.mapIdx (withSetting body)).mapIdx fun n l =>
      if n < 8 ∧ passes l = true then afterEdge l else l) = letThrough body u.lines.inputs := by
    unfold letThrough
    refine List.ext_getElem (by simp) fun n lt _ => ?_
    have within : n < 8 := by simpa [eight] using lt
    simp [within, passes_withSetting]
  have notices : ((u.lines.inputs.mapIdx (withSetting body)).zipIdx.any fun x => decide (x.2 < 8) && noticed x.1) =
      letsNotice body u.lines.inputs := by
    unfold letsNotice
    rw [any_zipIdx_mapIdx, Bool.eq_iff_iff, List.any_eq_true, List.any_eq_true]
    refine exists_congr fun x => and_congr_right fun mem => ?_
    have within : x.2 < 8 := eight ▸ (List.mem_zipIdx' mem).1
    simp [within, noticed, passes_withSetting]
  unfold edgesTaken relined resetLines
  simp only [inputs, notices]

/-- The edges of lines reported to no block, all taken at once. -/
theorem exec_setLines_unheard (ready : Ready addr s) (ok : linesFieldsOk body = true) (eight : s.lines.inputs.length = 8)
    (notDue : ∀ l ∈ s.lines.inputs, l.edgeDue = false)
    (high : ∀ n l, s.lines.inputs[n]? = some l → letsThrough body n l = true → 5 ≤ n) :
    exec (.setLines addr tag body) s = .next { answered 20 tag (only .done) s with
      lines := resetLines body (letThrough body s.lines.inputs) s.lines
      link := { (answered 20 tag (only .done) s).link with sources :=
        (if letsNotice body s.lines.inputs then s.transmit.link.sources ||| (1#12 <<< 10) else s.transmit.link.sources) } } := by
  have lines : (requested 20 tag s).lines = s.lines := requested_lines
  have unheard : ∀ n l, (relined body (requested 20 tag s)).lines.inputs[n]? = some l → passes l = true → 5 ≤ n := by
    intro n l at_ through
    rw [relined_get, lines, Option.map_eq_some_iff] at at_
    obtain ⟨old, here, rfl⟩ := at_
    exact high n old here (by rwa [passes_withSetting] at through)
  have eight' : (requested 20 tag s).lines.inputs.length = 8 := lines ▸ eight
  have effect : ownSetLines body (some s.link.freeSlot) (requested 20 tag s) = _ :=
    setLines_relines ok eight' (lines ▸ notDue)
  rw [takeUndebounced_unheard (relined_length.trans eight') (relined_notDue (lines ▸ notDue)) unheard,
    edgesTaken_relined eight', lines] at effect
  exact exec_answered (kind := 20) (owner := ownSetLines body) ready effect rfl

/-- One line let through, of any kind: its INPUT_EDGE under the new settings, and then the DONE. -/
theorem exec_setLines_one (ready : Ready addr s) (ok : linesFieldsOk body = true) (eight : s.lines.inputs.length = 8)
    (notDue : ∀ l ∈ s.lines.inputs, l.edgeDue = false) (m : Fin 8)
    (one : ∀ n l, s.lines.inputs[n]? = some l → (letsThrough body n l = true ↔ n = m.val))
    (edge : exec (.inputEdge m) { requested 20 tag s with lines := resetLines body (s.lines.inputs.mapIdx fun n l =>
      { withSetting body n l with edgeDue := decide (n = m.val) }) s.lines } = .next v) :
    exec (.setLines addr tag body) s = .next { v with link := { v.link with
      answers := v.link.answers ++ [answerTo 20 tag (only .done) s] } } := by
  generalize hu : requested 20 tag s = u at edge
  have lines : u.lines = s.lines := hu ▸ requested_lines
  have notDue' : ∀ l ∈ (relined body u).lines.inputs, l.edgeDue = false := relined_notDue (lines ▸ notDue)
  have eight' : u.lines.inputs.length = 8 := lines ▸ eight
  have length : (relined body u).lines.inputs.length = 8 := relined_length.trans eight'
  have through : ∀ n l, (relined body u).lines.inputs[n]? = some l → (passes l = true ↔ n = m.val) := by
    intro n l at_
    rw [relined_get, lines, Option.map_eq_some_iff] at at_
    obtain ⟨old, here, rfl⟩ := at_
    rw [passes_withSetting]
    exact one n old here
  obtain ⟨l, here⟩ : ∃ l, (relined body u).lines.inputs[m.val]? = some l :=
    ⟨_, List.getElem?_eq_getElem (by rw [length]; exact m.isLt)⟩
  have passing : passes l = true := (through m l here).2 rfl
  obtain ⟨-, differ⟩ := of_decide_eq_true passing
  have taken : (relined body u).takeUndebounced = (relined body u).takeEdge m := by
    rw [takeUndebounced_eq]
    refine (takeTurns_one (k := 8) notDue' here passing (fun n l at_ other => ?_) length.ge).trans (if_pos m.isLt)
    exact Bool.eq_false_iff.2 fun pass => other ((through n l at_).1 pass)
  have marked : (relined body u).takeEdge m = v := by
    rw [← inputEdge_due notDue' here differ]
    have same : ({ relined body u with lines := { (relined body u).lines with
        inputs := (relined body u).lines.inputs.mapIdx fun k l => { l with edgeDue := decide (k = m.val) } } } : State) =
        { u with lines := resetLines body (s.lines.inputs.mapIdx fun n l =>
          { withSetting body n l with edgeDue := decide (n = m.val) }) s.lines } := by
      simp only [relined, resetLines, lines, List.mapIdx_mapIdx]
      rfl
    rw [same]
    refine Host.Outcome.next.inj (Eq.trans ?_ edge)
    show _ = Host.Outcome.next (State.inputEdge m.val (State.transmit _))
    rw [transmit_settled_entry (s := s) (by rw [← hu]; rfl)]
  have effect : ownSetLines body (some s.link.freeSlot) (requested 20 tag s) = (v, some (only .done)) := by
    rw [hu, ← marked, ← taken]
    exact setLines_relines ok eight' (lines ▸ notDue)
  refine exec_answered (kind := 20) (owner := ownSetLines body) ready effect ?_
  rw [← marked, hu]
  exact congrArg Prod.fst (State.takeEdge_tables (s := relined body u) m.val)

/-! ### CLEAR LINE EVENTS -/

/-- A line's flag is cleared when the set names it (R164). -/
theorem clearEvents_get (set : Byte) (here : u.lines.inputs[n]? = some l) :
    (u.clearEvents set).lines.inputs[n]? = some { l with flag := l.flag && !(set.getLsbD n) } := by
  cases named : set.getLsbD n <;> simp [State.clearEvents, here, named]

/-! ### The outputs -/

/-- An output's source rules in AUTO alone (R166). -/
theorem outputSetting_level (o : OutputSetting) (source : Bool) :
    (o = .low → o.level source = false) ∧ (o = .high → o.level source = true) ∧ (o = .auto → o.level source = source) :=
  ⟨fun h => by rw [h]; rfl, fun h => by rw [h]; rfl, fun h => by rw [h]; rfl⟩

/-- The diverter's pulse of one kind is on (R167). -/
theorem pulse_any_iff (pulse : Option Pulse) (reject : Bool) :
    (pulse.any fun p => p.reject == reject) = true ↔ ∃ ms, pulse = some { reject := reject, timeLeft := ms } := by
  rcases pulse with - | ⟨r, ms⟩ <;> simp

/-- A plate HELD that asks for the operator (R166). -/
theorem attention_iff : s.attention = true ↔ ∃ n p, s.plate? n = some p ∧ p.state = .held ∧
    (p.verdict = .reject ∨ p.verdict = .unchecked ∨ ∃ c q, p.outcome = .aborted c q) := by
  unfold State.attention
  rw [any_bays_iff]
  refine exists_congr fun n => exists_congr fun p => and_congr_right fun _ => ?_
  cases outcome : p.outcome <;> simp

/-- Settles O54, by the edges that new settings let through (several of lines reported to no block, or one of any line), the
flags cleared line by line, and the outputs by setting or source. -/
theorem lineSettingsEventsAndOutputs : Obligations.LineSettingsEventsAndOutputs := by
  refine ⟨fun addr tag body s ready => ⟨fun bad => ?_, fun ok eight notDue => ⟨fun high => ?_, fun m v one edge => ?_⟩⟩,
    fun addr tag b s ready => ?_, fun s => ?_, fun s => ?_⟩
  · exact exec_unchanged (owner := ownSetLines body) ready (if_neg fun ok => bad (linesFieldsOk_iff.1 ok))
  · exact exec_setLines_unheard ready (linesFieldsOk_iff.2 ok) eight notDue high
  · exact exec_setLines_one ready (linesFieldsOk_iff.2 ok) eight notDue m one edge
  · have effect : ownClearLineEvents [b] (some s.link.freeSlot) (requested 22 tag s) = done ((requested 22 tag s).clearEvents b) := by
      rw [ownClearLineEvents, fixedBody_of_length (body := [b]) (n := 1) rfl]
      rfl
    refine ⟨(s.clearEvents b).lines.inputs, ?_, by simp [State.clearEvents], fun n l here => clearEvents_get b here⟩
    refine (exec_answered (kind := 22) (owner := ownClearLineEvents [b]) ready effect rfl).trans ?_
    simp only [State.clearEvents, requested_lines]
    rfl
  · show Host.Outcome.next s.transmit.diverterPulseEnd = _
    rw [State.diverterPulseEnd, State.transmit_lines]
  · obtain ⟨low1, high1, auto1⟩ := outputSetting_level s.lines.o1 (s.lines.pulse.any fun p => p.reject)
    obtain ⟨low2, high2, auto2⟩ := outputSetting_level s.lines.o2 (s.lines.pulse.any fun p => !p.reject)
    obtain ⟨low3, high3, auto3⟩ := outputSetting_level s.lines.o3 s.attention
    have rejects := pulse_any_iff s.lines.pulse true
    have accepts := pulse_any_iff s.lines.pulse false
    simp only [beq_true, beq_false] at rejects accepts
    exact ⟨decide_eq_true_iff, low1, high1, fun auto => (Bool.eq_iff_iff.1 (auto1 auto)).trans rejects, low2, high2,
      fun auto => (Bool.eq_iff_iff.1 (auto2 auto)).trans accepts, low3, high3,
      fun auto => (Bool.eq_iff_iff.1 (auto3 auto)).trans attention_iff⟩

end Sys2Proof.Proofs
end

section
/-! CLAIMS SETTLED. Resets of the link, requests that the Link Controller answers itself, frames it ignores, and requests that
it refuses LINK BUSY (R170 to R172, R179, R180). -/

namespace Sys2Proof.Proofs

open Sys2Proof.Machine Sys2Proof.Claims

variable {addr kind tag : Byte} {body : List Byte} {check : BitVec 16} {s : State}

/-! ### Frames judged -/

theorem exec_frameCheckFailed (addr kind tag : Byte) (body : List Byte) (check : BitVec 16) (s : State) :
    exec (.frameCheckFailed addr kind tag body check) s = .next (s.transmit.endFrame addr kind tag body check) := rfl

/-- A frame of any kind is a complete frame whose check agrees (R169). -/
theorem exec_frameOf_eq_frameCheckFailed (agrees : check = crc16 ([addr, kind, tag] ++ be16 body.length ++ body)) :
    exec (frameOf kind addr tag body) s = exec (.frameCheckFailed addr kind tag body check) s := by
  obtain rfl : check = frameCheck addr kind tag body := agrees
  rw [exec_frameOf, exec_frameCheckFailed, run_next, State.endFrame, State.judgeFrame, if_pos (c := _ = frameCheck ..) rfl]
  rfl

/-- HUNTING, a complete frame is judged. -/
theorem exec_judged (hunting : s.link.receiver = .hunting) :
    exec (.frameCheckFailed addr kind tag body check) s = .next (s.transmit.judgeFrame addr kind tag body check) := by
  rw [exec_frameCheckFailed, State.endFrame, s.transmit_receiver, hunting]
  rfl

/-- While a RESET FULL waits, a complete frame is discarded, its check agreeing or not (R179). -/
theorem exec_discarded (hunting : s.link.receiver = .hunting) (waits : s.link.fullReset.isSome = true) :
    exec (.frameCheckFailed addr kind tag body check) s = .next s.transmit := by
  rw [exec_judged hunting, State.judgeFrame, if_pos (by rwa [State.transmit_fullReset]), hunt_transmit hunting]

/-! ### Resets -/

/-- Settles O2, by the link's values after a full reset, which both ways share. -/
theorem fullResetLeavesLink : Obligations.FullResetLeavesLink :=
  ⟨fun straps s => ⟨_, rfl, fullReset_link .hardware straps s.transmit⟩,
    fun _ _ s sending slot waits => ⟨_, exec_answerSent_reset sending slot waits, fullReset_link .full s.link.straps s⟩⟩

/-- While a RESET FULL waits, the transmitter begins no notice (R179). -/
theorem transmit_waits (waits : s.link.fullReset.isSome = true) (queue : s.link.answers = []) : s.transmit = s := by
  rcases s.transmit_cases with same | ⟨_, _, -, waiting, -⟩ | ⟨_, -, -, free, -, -⟩
  · exact same
  · rw [queue] at waiting; cases waiting
  · rw [free] at waits; cases waits

/-- Settles O4: the request is answered and marked, and the mark stands before the check in the judging of a frame and before
the sources in the transmitter's choice. -/
theorem resetFullWaitsForItsAnswer : Obligations.ResetFullWaitsForItsAnswer := by
  refine ⟨fun addr tag s ready => ?_, fun kind addr tag body s hunting waits => ?_,
    fun _ _ _ _ _ _ hunting waits => exec_discarded hunting waits, fun _ waits queue => transmit_waits waits queue⟩
  · exact exec_answered (kind := 3) (owner := ownReset [0]) ready rfl rfl
  · rw [exec_frameOf_eq_frameCheckFailed rfl]
    exact exec_discarded hunting waits

/-! ### Malformed requests -/

theorem ownerOf_unknown (unknown : kind.toNat < 1 ∨ 22 < kind.toNat) : ownerOf kind body = ownUnknown := by
  unfold ownerOf
  split
  case h_23 => rfl
  all_goals omega

/-- A kind with a fixed body length belongs to an owner that asks for that length (R171). -/
theorem ownerOf_fixedLength {n : Nat} (fixed : fixedLength kind = some n) :
    ∃ owner, ownerOf kind body = fixedBody n body owner := by
  unfold fixedLength at fixed
  unfold ownerOf
  split at fixed <;> rename_i h <;> cases fixed
  all_goals
    simp only [h]
    exact ⟨_, rfl⟩

/-- A RESET whose byte is neither 00h nor 01h is refused (R179). -/
theorem ownReset_badField {b : Byte} (other : 1 < b.toNat) (slot : Option Nat) (u : State) :
    ownReset [b] slot u = refuse .badField u := by
  rw [ownReset, fixedBody_of_length (body := [b]) (n := 1) rfl]
  unfold resetRule
  rw [show byteAt [b] 0 = b.toNat from rfl]
  split
  · omega
  · omega
  · rfl

/-- Settles O6, by the owner of each kind. -/
theorem malformedRequestsAnswerBadField : Obligations.MalformedRequestsAnswerBadField := by
  refine ⟨fun kind addr tag body s ready unknown => ?_, fun kind addr tag body n s ready fixed wrong => ?_,
    fun addr tag b s ready other => ?_⟩
  · refine exec_unchanged (owner := ownerOf kind body) ready ?_
    rw [ownerOf_unknown unknown]
    rfl
  · obtain ⟨owner, eq⟩ := ownerOf_fixedLength (body := body) fixed
    rw [exec_frameOf, eq]
    exact exec_unchanged ready (if_neg wrong)
  · have refused := exec_unchanged (kind := 3) (tag := tag) (body := [b]) ready
      (ownReset_badField other (some s.link.freeSlot) (requested 3 tag s))
    exact ⟨refused, refused⟩

/-! ### Ignored frames -/

theorem broadcastKind_iff (kind : Byte) : broadcastKind kind = true ↔
    kind.toNat = 5 ∨ kind.toNat = 13 ∨ kind.toNat = 14 ∨ kind.toNat = 19 ∨ kind.toNat = 3 := by
  simp [broadcastKind, ← BitVec.toNat_inj]

/-- Settles O7, by the address byte. -/
theorem ignoredFramesChangeNothing : Obligations.IgnoredFramesChangeNothing := by
  intro kind addr tag body s hunting elsewhere barred
  have ignored := exec_notAddressed (tag := tag) (body := body) hunting elsewhere
    (by rwa [broadcastKind_iff]) (ownerOf kind body)
  exact ⟨ignored, (exec_frameOf ..).trans ignored⟩

/-! ### Requests refused LINK BUSY -/

/-- A request that finds 16 entries reaches no owner (R172). -/
theorem exec_refuseBusy (hunting : s.link.receiver = .hunting) (waits : s.link.fullReset = none)
    (here : addr = s.link.addrByte) (full : s.link.outstanding.length = 16) :
    exec (frameOf kind addr tag body) s = .next (s.transmit.refuseBusy kind tag) := by
  rw [exec_frameOf, run_next, State.receive_addressed _ _ _ _ _ _ (s.transmit_receiver.trans hunting)
    (s.transmit_fullReset.trans waits) (here.trans s.transmit_addrByte.symm), hunt_transmit hunting,
    State.request_full _ _ _ _ (by rw [State.transmit_outstanding, full]; exact le_rfl)]

theorem transmit_linkBusy (s : State) : s.transmit.link.linkBusy = s.link.linkBusy := by
  obtain ⟨-, -, -, -, -, -, -, -, linkBusy, -⟩ := s.transmit_link
  exact linkBusy

theorem transmit_dropped (s : State) : s.transmit.link.dropped = s.link.dropped := by
  obtain ⟨-, -, -, -, -, -, -, -, -, dropped, -⟩ := s.transmit_link
  exact dropped

/-- Settles O8, by the room on the busy list; a LINK BUSY answer is no RESET FULL's, having no entry. -/
theorem fullTableRefusesLinkBusy : Obligations.FullTableRefusesLinkBusy := by
  refine ⟨fun kind addr tag body s hunting waits here full => ⟨fun room => ?_, fun crowded => ?_⟩,
    fun a s sending slot => ?_⟩
  · rw [exec_refuseBusy hunting waits here full, State.refuseBusy, if_pos (by rwa [State.transmit_busy]), State.transmit_busy,
      transmit_linkBusy, kindOfAnswer_eq]
    rfl
  · rw [exec_refuseBusy hunting waits here full, State.refuseBusy,
      if_neg (by rw [State.transmit_busy, crowded]; exact lt_irrefl 4), transmit_dropped]
    rfl
  · show run State.answerSent s = _
    rw [run_next, s.transmit_sending (by simp [sending])]
    unfold State.answerSent
    simp [sending, slot, Link.answered]

end Sys2Proof.Proofs
end

section
/-! CLAIMS SETTLED. The receiver: the characters of a frame in the assembler, and frames and gaps discarded (R169). -/

namespace Sys2Proof.Proofs

open Sys2Proof.Machine Sys2Proof.Claims

variable {addr kind tag c : Byte} {body chars : List Byte} {check : BitVec 16} {k : Nat} {s : State}

/-! ### A frame's characters after the start character -/

/-- The characters of a frame between its start character and its end, the check it carries among them (section 10.9). -/
def lineChars (addr kind tag : Byte) (body : List Byte) (check : BitVec 16) : List Byte :=
  [addr, kind, tag] ++ be16 body.length ++ body ++ be16 check.toNat

/-- A frame that the receiver admits is judged, and one that it does not is taken character by character. -/
theorem endFrame_eq (addr kind tag : Byte) (body : List Byte) (check : BitVec 16) (s : State) :
    s.endFrame addr kind tag body check = if s.link.receiver.admits (lineChars addr kind tag body check) then
      s.judgeFrame addr kind tag body check else s.takeCharacters (0xA5 :: lineChars addr kind tag body check) := rfl

theorem admits_receiving (receiving : s.link.receiver = .receiving chars) (frame : List Byte) :
    s.link.receiver.admits frame = true ↔ chars <+: frame := by
  rw [receiving]
  exact List.isPrefixOf_iff_prefix

theorem lineChars_length (addr kind tag : Byte) (body : List Byte) (check : BitVec 16) :
    (lineChars addr kind tag body check).length = 5 + body.length + 2 := by
  simp [lineChars, be16]
  omega

/-- The assembler's third field is the body length, where it fits its 16 bits. -/
theorem u16At_lineChars (fits : body.length ≤ 65535) : u16At (lineChars addr kind tag body check) 3 = body.length := by
  have field : FieldAt (lineChars addr kind tag body check) 3 (be16 body.length) :=
    ⟨body ++ be16 check.toNat, by simp [lineChars]⟩
  rw [u16At_be16 field]
  omega

theorem u16At_lineChars_check :
    BitVec.ofNat 16 (u16At (lineChars addr kind tag body check) (5 + body.length)) = check := by
  have field : FieldAt (lineChars addr kind tag body check) (5 + body.length) (be16 check.toNat) :=
    ⟨[], by rw [lineChars, List.append_nil, List.drop_left' (by simp [be16]; omega)]⟩
  rw [u16At_be16 field, Nat.mod_eq_of_lt check.isLt, BitVec.ofNat_toNat, BitVec.setWidth_eq]

theorem u16At_take {i : Nat} (within : i + 1 < k) (chars : List Byte) : u16At (chars.take k) i = u16At chars i := by
  simp [u16At, byteAt, List.getD_eq_getElem?_getD, within, Nat.lt_of_succ_lt within]

/-- No proper part of a frame is complete, and the whole is (R169). -/
theorem assemblerComplete_take (fits : body.length ≤ 65535) (le : k ≤ (lineChars addr kind tag body check).length) :
    assemblerComplete ((lineChars addr kind tag body check).take k) = true ↔
      k = (lineChars addr kind tag body check).length := by
  rw [assemblerComplete, decide_eq_true_iff, List.length_take, min_eq_left le, lineChars_length]
  by_cases short : k < 5
  · omega
  · rw [u16At_take (by omega), u16At_lineChars fits]
    omega

/-- The assembler holding a whole frame has that frame judged. -/
theorem judgeAssembler_lineChars (fits : body.length ≤ 65535) (s : State) :
    s.judgeAssembler (lineChars addr kind tag body check) = s.judgeFrame addr kind tag body check := by
  have rest : ((lineChars addr kind tag body check).drop 5).take body.length = body := by simp [lineChars, be16]
  rw [State.judgeAssembler]
  rw [u16At_lineChars fits, u16At_lineChars_check, rest]
  rfl

/-! ### Characters taken -/

/-- The character that makes the assembler a whole frame has it judged. -/
theorem joinCharacter_completes (fits : body.length ≤ 65535) (whole : chars ++ [c] = lineChars addr kind tag body check)
    (s : State) : s.joinCharacter chars c = s.judgeFrame addr kind tag body check := by
  have complete := (assemblerComplete_take (addr := addr) (kind := kind) (tag := tag) (check := check) fits le_rfl).2 rfl
  rw [List.take_length] at complete
  rw [State.joinCharacter, whole, if_pos complete, judgeAssembler_lineChars fits]

theorem takeCharacter_start (hunting : s.link.receiver = .hunting) :
    s.takeCharacter 0xA5 = { s with link := { s.link with receiver := .receiving [] } } := by
  rw [State.takeCharacter, hunting]
  rfl

/-- HUNTING, the characters of a frame taken one after another have it judged (R169). -/
theorem takeCharacters_frame (fits : body.length ≤ 65535) (hunting : s.link.receiver = .hunting) :
    s.takeCharacters (0xA5 :: lineChars addr kind tag body check) = s.judgeFrame addr kind tag body check := by
  obtain ⟨init, last, parts⟩ : ∃ init last, lineChars addr kind tag body check = init ++ [last] :=
    ⟨[addr, kind, tag] ++ be16 body.length ++ body ++ [BitVec.ofNat 8 (check.toNat / 256)], BitVec.ofNat 8 check.toNat,
      by simp [lineChars, be16]⟩
  have length : (lineChars addr kind tag body check).length = init.length + 1 := by rw [parts]; simp
  have incomplete : ∀ k, ([] : List Byte).length < k → k ≤ ([] : List Byte).length + init.length →
      assemblerComplete (([] ++ init).take k) = false := fun k _ le => by
    have within : k ≤ init.length := by simpa using le
    have part : ([] ++ init).take k = (lineChars addr kind tag body check).take k := by
      rw [parts, List.nil_append, List.take_append_of_le_length within]
    rw [part, Bool.eq_false_iff, ne_eq, assemblerComplete_take fits (by omega)]
    omega
  rw [State.takeCharacters_cons, takeCharacter_start hunting, parts, State.takeCharacters_append,
    State.takeCharacters_partial init [] _ rfl incomplete, State.takeCharacters_cons, State.takeCharacters_nil,
    State.takeCharacter_receiving last init _ rfl, joinCharacter_completes fits parts.symm]
  rfl

/-- The transmitter's choice does not look at the receiver. -/
theorem transmit_hunt (s : State) : s.hunt.transmit = s.transmit.hunt := by
  by_cases idle : s.link.tx = .idle
  · cases queue : s.link.answers with
    | cons a rest => rw [transmit_answer idle queue, transmit_answer (s := s.hunt) idle queue]; rfl
    | nil =>
      cases waits : s.link.fullReset with
      | some k =>
        have marked : s.link.fullReset.isSome = true := by rw [waits]; rfl
        rw [transmit_waits marked queue, transmit_waits (s := s.hunt) marked queue]
      | none =>
        cases choice : s.link.chooseSource with
        | none => rw [transmit_nothing queue choice, transmit_nothing (s := s.hunt) queue choice]
        | some n =>
          rw [transmit_notice idle queue waits choice, transmit_notice (s := s.hunt) idle queue waits choice]
          rfl
  · rw [s.transmit_sending idle, s.hunt.transmit_sending idle]

/-- Judging a frame leaves the receiver HUNTING, whatever it was before the frame. -/
theorem exec_hunt (s : State) : exec (.frameCheckFailed addr kind tag body check) s.hunt =
    .next (s.transmit.judgeFrame addr kind tag body check) := by
  rw [exec_judged (s := s.hunt) rfl, transmit_hunt]
  rfl

/-- A frame that the characters in the assembler begin is taken as it is in HUNTING (log entry 4). -/
theorem exec_begun (receiving : s.link.receiver = .receiving chars) (begun : chars <+: lineChars addr kind tag body check) :
    exec (.frameCheckFailed addr kind tag body check) s = exec (.frameCheckFailed addr kind tag body check) s.hunt := by
  have admitted := (admits_receiving (s.transmit_receiver.trans receiving) _).2 begun
  rw [exec_hunt, exec_frameCheckFailed, endFrame_eq, if_pos admitted]

/-- A frame that the characters in the assembler do not begin is its characters, one after another (log entry 4). -/
theorem exec_notBegun (receiving : s.link.receiver = .receiving chars)
    (other : ¬ chars <+: lineChars addr kind tag body check) :
    exec (.frameCheckFailed addr kind tag body check) s =
      .next (s.transmit.takeCharacters (0xA5 :: lineChars addr kind tag body check)) := by
  rw [exec_frameCheckFailed, endFrame_eq, if_neg (by rwa [admits_receiving (s.transmit_receiver.trans receiving)])]

/-- A frame that no characters begin is its characters, one after another (log entry 4). -/
theorem exec_characters (fits : body.length ≤ 65535)
    (other : ∀ chars, s.link.receiver = .receiving chars → ¬ chars <+: lineChars addr kind tag body check) :
    exec (.frameCheckFailed addr kind tag body check) s =
      .next (s.transmit.takeCharacters (0xA5 :: lineChars addr kind tag body check)) := by
  cases state : s.link.receiver with
  | hunting =>
    rw [exec_judged state, takeCharacters_frame fits (s.transmit_receiver.trans state)]
  | receiving chars => exact exec_notBegun state (other chars state)

theorem exec_startCharacter (c : Byte) (s : State) :
    exec (.startCharacter c) s = .next (s.transmit.takeCharacter c) := rfl

theorem exec_startCharacter_receiving (receiving : s.link.receiver = .receiving chars) (c : Byte) :
    exec (.startCharacter c) s = .next (s.transmit.joinCharacter chars c) := by
  rw [exec_startCharacter, State.takeCharacter_receiving c chars _ (s.transmit_receiver.trans receiving)]

/-! ### Frames discarded -/

theorem transmit_badCheck (s : State) : s.transmit.link.badCheck = s.link.badCheck := by
  obtain ⟨-, -, -, -, -, -, badCheck, -⟩ := s.transmit_link
  exact badCheck

theorem transmit_timeouts (s : State) : s.transmit.link.timeouts = s.link.timeouts := by
  obtain ⟨-, -, -, -, -, -, -, timeouts, -⟩ := s.transmit_link
  exact timeouts

/-- HUNTING, a frame whose check differs is discarded and counted (R169). -/
theorem exec_badFrame (hunting : s.link.receiver = .hunting) (waits : s.link.fullReset = none)
    (differs : check ≠ frameCheck addr kind tag body) :
    exec (.frameCheckFailed addr kind tag body check) s = .next s.transmit.badFrame := by
  rw [exec_judged hunting, State.judgeFrame, if_neg (by rw [State.transmit_fullReset, waits]; simp), if_neg differs,
    hunt_transmit hunting]

theorem gap_hunting (hunting : s.link.receiver = .hunting) : s.gap = s := by
  unfold State.gap
  simp only [hunting]

theorem gap_receiving (receiving : s.link.receiver = .receiving chars) :
    s.gap = State.setSource sourceLink { s with link := { s.link with
      receiver := .hunting, timeouts := satInc Config.countHold s.link.timeouts } } := by
  unfold State.gap
  simp only [receiving]

/-- Settles O9: what is discarded, a character in each state of the receiver, and the whole frame as one event. -/
theorem receiverCountsDiscardedFrames : Obligations.ReceiverCountsDiscardedFrames := by
  refine ⟨fun addr kind tag body check s hunting waits differs => ?_, fun s hunting => ?_, fun chars s receiving => ?_,
    fun s hunting => ?_, fun c s hunting other => ?_, fun c chars s receiving short => ?_,
    fun addr kind tag c body check chars s fits receiving whole => ?_, exec_startCharacter,
    fun addr kind tag body check s fits => ?_, fun addr kind tag body check chars s receiving begun => ?_,
    fun addr kind tag body check chars s => ?_⟩
  · rw [exec_badFrame hunting waits differs, State.badFrame, transmit_badCheck]
    rfl
  · exact congrArg Host.Outcome.next (gap_hunting (s.transmit_receiver.trans hunting))
  · refine congrArg Host.Outcome.next ((gap_receiving (s.transmit_receiver.trans receiving)).trans ?_)
    rw [transmit_timeouts]
    rfl
  · rw [exec_startCharacter, takeCharacter_start (s.transmit_receiver.trans hunting)]
  · have ignored := State.takeCharacters_hunting [c] s.transmit (s.transmit_receiver.trans hunting) (by simpa using other.symm)
    exact congrArg Host.Outcome.next ignored
  · rw [exec_startCharacter_receiving receiving, State.joinCharacter,
      if_neg (by simpa [assemblerComplete] using short)]
  · rw [exec_startCharacter_receiving receiving, joinCharacter_completes fits whole]
    exact (exec_hunt s).symm
  · intro frame other taken
    have characters := exec_characters fits other
    exact ⟨characters, fun agrees => (exec_frameOf_eq_frameCheckFailed agrees).trans characters⟩
  · intro hunting
    have same := exec_begun receiving begun
    refine ⟨same, fun agrees => ?_⟩
    rw [exec_frameOf_eq_frameCheckFailed agrees, exec_frameOf_eq_frameCheckFailed agrees]
    exact same
  · intro frame receiving other incomplete
    have short : ∀ k, chars.length < k → k ≤ chars.length + (0xA5 :: frame).length →
        assemblerComplete ((chars ++ 0xA5 :: frame).take k) = false := fun k after within => by
      rw [List.length_cons] at within
      have length : ((chars ++ 0xA5 :: frame).take k).length = k := by
        rw [List.length_take, List.length_append, List.length_cons]
        omega
      rw [assemblerComplete, length, decide_eq_false_iff_not]
      exact incomplete k after (by omega)
    rw [exec_notBegun receiving other]
    exact congrArg Host.Outcome.next
      (State.takeCharacters_partial _ chars _ (s.transmit_receiver.trans receiving) short)

end Sys2Proof.Proofs
end

section
/-! CLAIMS SETTLED. The step and the queue (log entry 1), and the one command that can stop (R101). -/

namespace Sys2Proof.Proofs

open Sys2Proof.Machine

/-! ### The queue -/

/-- Settles O1: with the queue known, a step is its branch for that queue. -/
theorem stepTakesFrontCommand : Obligations.StepTakesFrontCommand := by
  refine ⟨fun c rest s waiting => ?_, fun s idle => ?_⟩
  · rw [step, waiting]
  · rw [step, idle]

/-! ### Commands that go on, and the one that may stop -/

theorem run_goesOn (f : State → State) (s : State) : ∃ t, run f s = .next t := ⟨_, run_next f s⟩

/-- What a command can come to. Every meaning but that of BURST_COMPLETE is a `run`; BURST_COMPLETE stops where the burst in
service reaches past the last word (R101). -/
theorem exec_goesOn_or_outside (c : Instr) (s : State) :
    (∃ t, exec c s = .next t) ∨
    ∃ g a b live, c = .burstComplete g ∧ s.store.service = .burst a b live ∧ Config.storeWords < b.addr + 8 ∧
      exec c s = .fault .outsideStore := by
  cases c with
  | burstComplete g =>
    cases serving : s.store.service with
    | burst a b live =>
      by_cases inside : b.addr + 8 ≤ Config.storeWords
      · exact .inl ⟨_, exec_burstComplete serving inside⟩
      · have outside := Nat.lt_of_not_le inside
        exact .inr ⟨g, a, b, live, rfl, rfl, outside, exec_burstComplete_outside serving outside⟩
    | idle | refresh =>
      have unchanged : exec (.burstComplete g) s = run id s := by
        show execBurstComplete g s = _
        simp only [execBurstComplete, serving]
        rfl
      exact .inl (unchanged ▸ run_goesOn id s)
  | _ => exact .inl (run_goesOn _ s)

/-- Settles O55: each outcome of a command is one of the two above. -/
theorem everyCommandGoesOn : Obligations.EveryCommandGoesOn := by
  refine ⟨fun c s inside => ?_, fun c s r refused => ?_, fun c s f stopped => ?_⟩
  · obtain next | ⟨g, a, b, live, -, serving, outside, -⟩ := exec_goesOn_or_outside c s
    · exact next
    · exact absurd (inside a b live serving) (Nat.not_le_of_lt outside)
  · obtain ⟨t, next⟩ | ⟨g, a, b, live, -, -, -, faults⟩ := exec_goesOn_or_outside c s
    · cases refused.symm.trans next
    · cases refused.symm.trans faults
  · obtain ⟨t, next⟩ | ⟨g, a, b, live, burst, -, -, -⟩ := exec_goesOn_or_outside c s
    · cases stopped.symm.trans next
    · exact ⟨g, burst⟩

end Sys2Proof.Proofs
end

section
/-! CLAIMS SETTLED. SET INSPECTION (R158) and the calibration of the scanner (R137 to R139). -/

namespace Sys2Proof.Proofs

open Sys2Proof.Machine Sys2Proof.Claims

variable {s u : State} {addr tag b : Byte} {body : List Byte} {c : Calibration} {k : Nat} {e : Entry}

/-! ### SET INSPECTION -/

/-- A SET INSPECTION body that is not refused (R158). -/
def SettingsOk (body : List Byte) : Prop := body.length = 12 ∧ u16At body 8 ≠ 0 ∧ u16At body 10 ≠ 0

/-- The inspection settings of a SET INSPECTION body, clamped (R158). -/
def clampedSettings (body : List Byte) : InspectionSettings :=
  { thr := max 1 (min (u16At body 0) 63), q := max 1 (min (u16At body 2) 4), pre := min (u16At body 4) 3
    post := min (u16At body 6) 3, minArea := u16At body 8, rejectArea := u16At body 10 }

theorem setInspection_refuses (bad : ¬ SettingsOk body) (u : State) : u.setInspection body = refuse .badField u := by
  have none : inspectionFields body = none := if_neg bad
  unfold State.setInspection
  rw [none]

theorem setInspection_replaces (ok : SettingsOk body) (u : State) :
    u.setInspection body = done (u.onInspection fun i => { i with settings := clampedSettings body }) := by
  have fields : inspectionFields body = some (clampedSettings body) := by
    refine (if_pos ok).trans ?_
    simp [clampedSettings, clamp]
  unfold State.setInspection
  rw [fields]

/-- Settles O51: a body is refused or replaces the settings, whether an entry waits for the answer or none does. -/
theorem setInspectionReplacesSettings : Obligations.SetInspectionReplacesSettings := by
  refine fun addr tag body s => ⟨fun ready => ⟨fun bad => ?_, fun ok => ?_⟩,
    fun hunting waits => ⟨fun bad => ?_, fun ok => ?_⟩⟩
  · exact exec_unchanged (owner := ownSetInspection body) ready (setInspection_refuses bad _)
  · refine (exec_answered (kind := 19) (owner := ownSetInspection body) ready (setInspection_replaces ok _) rfl).trans ?_
    simp only [State.onInspection, requested_inspection]
    rfl
  · refine (exec_broadcast (kind := 19) hunting waits rfl (ownSetInspection body)).trans ?_
    exact congrArg (fun x : State × Option Reply => Host.Outcome.next x.1) (setInspection_refuses bad s.transmit)
  · refine (exec_broadcast (kind := 19) hunting waits rfl (ownSetInspection body)).trans ?_
    refine (congrArg (fun x : State × Option Reply => Host.Outcome.next x.1) (setInspection_replaces ok s.transmit)).trans ?_
    simp only [done, State.onInspection, State.transmit_inspection]
    rfl

/-! ### CALIBRATE SCANNER -/

theorem phaseOf_none (h : 1 < b.toNat) : phaseOf (byteAt [b] 0) = none := by
  obtain ⟨n, is⟩ := Nat.exists_eq_add_of_le' h
  show phaseOf b.toNat = none
  rw [is]
  rfl

theorem phaseOf_some (h : b.toNat ≤ 1) : phaseOf (byteAt [b] 0) = some (if b.toNat = 0 then .dark else .white) := by
  show phaseOf b.toNat = _
  rcases Nat.le_one_iff_eq_zero_or_eq_one.1 h with is | is <;> rw [is] <;> rfl

/-- What the owner of CALIBRATE SCANNER does with a phase byte (R137). -/
theorem calibrateRule_eq (h : b.toNat ≤ 1) (slot : Option Nat) (u : State) : calibrateRule [b] slot u =
    if u.inspection.work ≠ .idle ∨ u.inspectionQueue ≠ [] then refuse .busy u
    else (u.beginCalibration (if b.toNat = 0 then .dark else .white) slot, none) := by
  unfold calibrateRule
  rw [phaseOf_some h]

/-! ### The end of a phase -/

/-- A phase ended after the transmitter's choice, its answer joining the queue (R138, R139). -/
theorem endCalibration_eq (i : Inspection) (outcome : CalibrationOutcome) (weak : Nat) (r : Reply)
    (entry : c.entry = some k) (found : s.link.outstanding.find? (fun x => decide (x.slot = k)) = some e) :
    State.endCalibration c outcome weak r { s.transmit with inspection := i } = { s.transmit with
      inspection := { i with work := .idle, lastCalibration := some { phase := c.phase, outcome, weak } }
      link := { s.transmit.link with
        sources := s.transmit.link.sources ||| (1#12 <<< 9)
        answers := s.transmit.link.answers ++ [{ slot := some k, kind := kindOfAnswer e.kind, tag := e.tag, reply := r }] } } := by
  have found' := (congrArg (List.find? fun x => decide (x.slot = k)) s.transmit_outstanding).trans found
  unfold State.endCalibration
  rw [answer?_eq, entry]
  exact congrArg (fun as => withAnswers as _) (entryAnswer_found found')

theorem gainTable_eq (sums dark : List Nat) :
    gainTable sums dark = (List.zipWith gainQuotient sums dark).map fun g => min g 4095 := by
  unfold gainTable
  rw [List.map_zipWith]

/-- The weak elements are the indices of the quotients above 4,095 (R139). -/
theorem weakElements_eq (sums dark : List Nat) : weakElements sums dark =
    (List.range (List.zipWith gainQuotient sums dark).length).filter fun i =>
      decide (4095 < (List.zipWith gainQuotient sums dark).getD i 0) := by
  unfold weakElements
  generalize List.zipWith gainQuotient sums dark = gains
  have indexed : gains.zipIdx = (List.range gains.length).map fun i => (gains.getD i 0, i) := by
    refine List.ext_getElem (by simp) fun i lt lt' => ?_
    have within : i < gains.length := by simpa using lt
    simp [within]
  rw [indexed, List.filter_map, List.map_map]
  exact List.map_id _

/-- DARK_CALIBRATION_DONE of a DARK phase that has its lines (R137, R138). -/
theorem exec_darkDone (on : s.inspection.work = .calibrating c) (lines : 16 ≤ c.lines) (dark : c.phase = .dark) :
    exec .darkCalibrationDone s = .next (State.endCalibration c .done s.inspection.weak.length (only .done)
      { s.transmit with inspection := { s.inspection with dark := c.sums.map fun sum => sum / 16 } }) := by
  refine congrArg Host.Outcome.next ?_
  unfold State.darkCalibrationDone
  simp only [State.transmit_inspection, on]
  refine (if_pos ⟨dark, lines⟩).trans ?_
  unfold State.completeDark State.onInspection
  rw [State.transmit_inspection]
  rfl

/-- WHITE_CALIBRATION_DONE of a WHITE phase that has its lines (R137, R139). -/
theorem exec_whiteDone (on : s.inspection.work = .calibrating c) (lines : 16 ≤ c.lines) (white : c.phase = .white) :
    exec .whiteCalibrationDone s = .next (s.transmit.completeWhite c) := by
  refine congrArg Host.Outcome.next ?_
  unfold State.whiteCalibrationDone
  simp only [State.transmit_inspection, on]
  exact if_pos ⟨white, lines⟩

/-- The elements that a WHITE phase finds weak against this dark table (R139). -/
def weakAgainst (c : Calibration) (dark : List Nat) : List Nat :=
  let gains := List.zipWith gainQuotient c.sums dark
  (List.range gains.length).filter fun i => decide (4095 < gains.getD i 0)

theorem completeWhite_replaces (few : (weakAgainst c s.inspection.dark).length ≤ 64) : s.transmit.completeWhite c =
    State.endCalibration c .done (weakAgainst c s.inspection.dark).length
      { status := .done, data := be16 (weakAgainst c s.inspection.dark).length }
      { s.transmit with inspection := { s.inspection with
        gain := (List.zipWith gainQuotient c.sums s.inspection.dark).map fun g => min g 4095
        weak := weakAgainst c s.inspection.dark } } := by
  unfold State.completeWhite
  simp only [State.transmit_inspection, weakElements_eq, gainTable_eq, State.onInspection]
  exact if_pos few

theorem completeWhite_fails (many : 64 < (weakAgainst c s.inspection.dark).length) : s.transmit.completeWhite c =
    State.endCalibration c .failed (weakAgainst c s.inspection.dark).length
      { status := .calibrationFailed, data := be16 (weakAgainst c s.inspection.dark).length }
      { s.transmit with inspection := s.inspection } := by
  unfold State.completeWhite
  simp only [State.transmit_inspection, weakElements_eq]
  refine (if_neg (not_le.2 many)).trans ?_
  rw [← State.transmit_inspection s]
  rfl

/-- Settles O46, by the phase byte and then by the phase. -/
theorem calibrationRunsAPhase : Obligations.CalibrationRunsAPhase := by
  refine ⟨fun addr tag b s ready => ⟨fun high => ?_, fun phase busy => ?_, fun phase free => ?_⟩,
    fun c k e s on lines entry found => ⟨fun dark => ?_, fun white few => ?_, fun white many => ?_⟩⟩
  · refine exec_unchanged (owner := ownCalibrateScanner [b]) ready ?_
    show calibrateRule [b] _ _ = _
    unfold calibrateRule
    rw [phaseOf_none high]
    rfl
  · refine exec_unchanged (owner := ownCalibrateScanner [b]) ready ((calibrateRule_eq phase _ _).trans (if_pos ?_))
    rwa [requested_inspection, requested_inspectionQueue, ← not_and_or]
  · refine (exec_unanswered (kind := 18) (owner := ownCalibrateScanner [b]) ready
      ((calibrateRule_eq phase _ _).trans (if_neg ?_))).trans ?_
    · rw [requested_inspection, requested_inspectionQueue, ← not_and_or]
      exact not_not.2 free
    · simp only [State.beginCalibration, State.setWork, State.setSource, requested_inspection]
      rfl
  · exact (exec_darkDone on lines dark).trans (congrArg Host.Outcome.next (endCalibration_eq _ _ _ _ entry found))
  · exact (exec_whiteDone on lines white).trans
      (congrArg Host.Outcome.next ((completeWhite_replaces few).trans (endCalibration_eq _ _ _ _ entry found)))
  · exact (exec_whiteDone on lines white).trans
      (congrArg Host.Outcome.next ((completeWhite_fails many).trans (endCalibration_eq _ _ _ _ entry found)))

end Sys2Proof.Proofs
end

section
/-! CLAIMS SETTLED. Expected lines, and the deviations and flags of a compared line (R141 to R144). -/

namespace Sys2Proof.Proofs

open Sys2Proof.Machine Sys2Proof.Claims

variable {s t u : State} {sc : Scan} {p : Plate} {cov : List Nat} {line : ScanLine} {rest : List ScanLine}

/-! ### The expected line -/

/-- The expected line of a range of words has the coverage of every examined element (R135, R142). -/
theorem countsSquares_coverageLine (res : Resolution) (w : Nat) (words : List StoreWord) :
    CountsSquares res.side w words (coverageLine res w words) := by
  refine ⟨by simp [coverageLine, examined, Config.elements], fun e lt => ?_⟩
  have count : squareCount words (w / 64) res.side e = ((List.range res.side).map fun i =>
      ((List.range res.side).filter fun j =>
        (words.getD (i * (w / 64) + e * res.side / 64) 0).getLsbD (e * res.side % 64 + j)).length).sum := by
    unfold squareCount
    simp only [List.countP_eq_length_filter]
  have at_ : (coverageLine res w words).getD e 0 = expectedCoverage res (squareCount words (w / 64) res.side e) := by
    have within : e < examined res w := by simpa [coverageLine] using lt
    simp [coverageLine, List.getD_eq_getElem?_getD, within]
  rw [at_, count]
  cases res <;> rfl

/-- The last burst of an expected line's range makes it FULL (R142). -/
theorem expectedLineFull_eq {y : Nat} {words : List StoreWord} (on : u.inspection.work = .scanning sc)
    (fetching : sc.expected = .fetching y words) (resident : u.plate? sc.bay = some p)
    (whole : u.settings.resolution.side * (p.w / 64) ≤ words.length) : u.expectedLineFull =
      (u.setWork (.scanning { sc with
        expected := .full y (coverageLine u.settings.resolution p.w words) })).compareIfReady := by
  have range : u.scanWords sc.bay = u.settings.resolution.side * (p.w / 64) := by
    unfold State.scanWords
    rw [resident]
    rfl
  unfold State.expectedLineFull
  simp only [on, fetching, range, resident]
  exact if_pos whole

/-- No line is compared while none waits (R144). -/
theorem compareIfReady_empty (on : u.inspection.work = .scanning sc) (empty : sc.fifo = []) : u.compareIfReady = u := by
  unfold State.compareIfReady
  simp only [on, empty]

/-- A waiting line with its expected line FULL is compared as the claims say (R144, R152). -/
theorem compareIfReady_waiting (resident : s.plate? sc.bay = some p) (fifo : sc.fifo = line :: rest)
    (full : sc.expected = .full sc.next cov) :
    Compared sc p cov line rest s (s.transmit.setWork (.scanning sc)).compareIfReady := by
  have frame := s.transmit_frame
  unfold Compared
  rw [frame]
  generalize s.transmit.link = k
  have compares := compareIfReady_eq (u := State.setWork (.scanning sc) { s with link := k }) rfl resident fifo full
  generalize before : State.setWork (.scanning sc) { s with link := k } = u at compares
  generalize compared : u.compareLine sc p cov line rest = y at compares
  have on : y.inspection.work = .scanning { (comparedPlate sc p cov line u).2 with fifo := rest, expected := .empty } := by
    rw [← compared]; rfl
  have table : y.bays = (s.setBay sc.bay (some (comparedPlate sc p cov line u).1)).bays := by rw [← compared, ← before]; rfl
  have resident' : y.plate? sc.bay = some (comparedPlate sc p cov line u).1 :=
    State.plate?_eq_of_setBay (State.plate?_lt resident) table
  refine ⟨fun left => ?_, fun last => ?_⟩
  · rw [compares.trans (if_pos (by rw [← before]; exact left)), beginExpected_eq _ on resident', ← compared, ← before]
    rfl
  · rw [compares.trans (if_neg (by rw [← before]; exact not_lt.2 last))]
    have frame' : ScanOnly s y := by rw [← compared, ← before]; rfl
    have ended := endScan_scanEnded (cause := .none) (sc' := sc) frame' on resident' ⟨rfl, rfl⟩
      (fun o => by rw [table]; exact List.set_set ..) (by rw [← compared, ← before]; rfl) (by rw [← compared, ← before]; rfl)
    rw [verdictOf, if_pos rfl, scanVerdict_eq] at ended
    subst before
    exact ended

/-! ### Deviations -/

/-- An element's deviation is its measured coverage less the expected one (R141, R143). -/
theorem deviations_getElem? (dark gain weak : List Nat) (line : ScanLine) {e : Nat} (lt : e < cov.length) :
    (deviations dark gain weak cov line)[e]? = some (if e ∈ weak then none
      else some ((measuredCoverage (line.getD e 0).toNat (dark.getD e 0) (gain.getD e 1024) : Int) - (cov.getD e 0 : Int))) := by
  simp [deviations, List.getD_eq_getElem?_getD, List.getElem?_eq_getElem lt]

/-! ### Flags -/

/-- The last eight of these deviations (R143). -/
def lastEight (ds : List Int) : List Int := ds.drop (ds.length - 8)

theorem pushDrift_lastEight (ds : List Int) (d : Int) : pushDrift (lastEight ds) d = lastEight (ds ++ [d]) := by
  have length : (lastEight ds).length = min ds.length 8 := by
    unfold lastEight
    rw [List.length_drop]
    omega
  unfold pushDrift
  rw [length]
  split
  · rename_i full
    have next : ds.length + 1 - 8 = ds.length - 8 + 1 := by omega
    unfold lastEight
    rw [List.tail_append_of_ne_nil (by rw [← List.length_pos_iff, List.length_drop]; omega), List.tail_drop, List.length_append,
      List.length_singleton, next, List.drop_append_of_le_length (by omega)]
  · unfold lastEight
    rw [Nat.sub_eq_zero_of_le (by omega), Nat.sub_eq_zero_of_le (by rw [List.length_append, List.length_singleton]; omega)]
    rfl

/-- The deviations of the elements before element i that are not flagged. -/
def soundBefore (i : Nat) (ds flags : List (Option Int)) : List Int :=
  (List.range i).filterMap fun j => if flags.getD j none = none then ds.getD j none else none

theorem soundBefore_cons (i : Nat) (d f : Option Int) (ds flags : List (Option Int)) :
    soundBefore (i + 1) (d :: ds) (f :: flags) = (if f = none then d else none).toList ++ soundBefore i ds flags := by
  unfold soundBefore
  rw [List.range_succ_eq_map, List.filterMap_cons, List.filterMap_map]
  simp only [Function.comp_def, List.getD_cons_zero, List.getD_cons_succ]
  cases (if f = none then d else none) <;> rfl

/-- The corrected deviation of an element where it exceeds thr (R143). -/
def corrected (thr : Nat) (drift : Int) (d : Option Int) : Option Int :=
  d.bind fun d => if thr < (d - drift).natAbs then some (d - drift) else none

/-- Each element's flag, with the unflagged deviations `before` of an earlier stretch in the window (R143). -/
theorem flagElements_getElem? (thr : Nat) (ds : List (Option Int)) (before : List Int) {i : Nat} (lt : i < ds.length) :
    let flags := (flagElements thr ds (lastEight before)).1
    flags[i]? = some (corrected thr (driftEstimate (lastEight (before ++ soundBefore i ds flags))) (ds.getD i none)) := by
  induction ds generalizing before i with
  | nil => cases lt
  | cons d ds ih =>
    cases d with
    | none =>
      cases i with
      | zero => rfl
      | succ i =>
        simp only [flagElements, soundBefore_cons, List.getElem?_cons_succ, List.getD_cons_succ]
        exact ih before (Nat.lt_of_succ_lt_succ lt)
    | some d =>
      by_cases flagged : thr < (d - driftEstimate (lastEight before)).natAbs
      · simp only [flagElements, if_pos flagged]
        cases i with
        | zero => simp [soundBefore, corrected, flagged]
        | succ i =>
          simp only [soundBefore_cons, List.getElem?_cons_succ, List.getD_cons_succ]
          exact ih before (Nat.lt_of_succ_lt_succ lt)
      · simp only [flagElements, if_neg flagged]
        cases i with
        | zero => simp [soundBefore, corrected, flagged]
        | succ i =>
          have later := ih (before ++ [d]) (Nat.lt_of_succ_lt_succ lt)
          simp only [← pushDrift_lastEight, List.append_assoc] at later
          simp only [soundBefore_cons, List.getElem?_cons_succ, List.getD_cons_succ]
          exact later

/-- Settles O48: the range's last burst, and then the two laws of a compared line by element. -/
theorem expectedLineCountsSquares : Obligations.ExpectedLineCountsSquares := by
  refine ⟨fun sc p y words s on fetching resident whole => ?_, fun dark gain weak cov line e lt => ?_, fun thr i ds lt => ?_⟩
  · have settings := s.transmit_settings
    have full := expectedLineFull_eq (u := s.transmit) (by rwa [State.transmit_inspection]) fetching
      ((transmit_plate? sc.bay).trans resident) (by rwa [settings])
    rw [settings] at full
    generalize count : coverageLine s.settings.resolution p.w words = cov at full
    refine ⟨cov, count ▸ countsSquares_coverageLine s.settings.resolution p.w words, fun empty => ?_, fun line rest fifo due => ?_⟩
    · refine congrArg Host.Outcome.next (full.trans ((compareIfReady_empty (sc := { sc with expected := .full y cov }) rfl empty).trans ?_))
      simp only [State.setWork, State.transmit_inspection]
    · exact ⟨_, congrArg Host.Outcome.next full, compareIfReady_waiting
        (sc := { sc with expected := .full y cov }) resident fifo (by rw [due])⟩
  · exact deviations_getElem? dark gain weak line lt
  · exact flagElements_getElem? thr ds [] lt

end Sys2Proof.Proofs
end

section
/-! SUPPORT. An edge leaves the transmitter SENDING or IDLE as it finds it (R174). -/

namespace Sys2Proof.Machine

/-- A frame is being sent. -/
def Link.sending (l : Link) : Bool := decide (l.tx ≠ .idle)

variable (s : State)

theorem State.transmit_of_sending (sending : s.link.sending = true) : s.transmit = s :=
  s.transmit_sending (of_decide_eq_true sending)

@[simp] theorem State.setSource_sending (n : Nat) : (s.setSource n).link.sending = s.link.sending := rfl

@[simp] theorem State.answer?_sending (slot : Option Nat) (r : Reply) : (s.answer? slot r).link.sending = s.link.sending := by
  unfold State.answer? State.answer
  (repeat' split) <;> rfl

@[simp] theorem State.forgetDue_sending (n : Nat) : (s.forgetDue n).link.sending = s.link.sending := by
  unfold State.forgetDue
  split
  · rename_i tx
    split
    · simp [Link.sending, tx]
    · rfl
  · rfl

/-! ### The exposure -/

@[simp] theorem State.autoEvent_sending : s.autoEvent.link.sending = s.link.sending := by
  rcases s.autoEvent_cases with h | ⟨-, -, -, h⟩ <;> rw [h]
  rcases s.takeStart_cases with h | ⟨n, rest, p, -, -, h⟩ <;> rw [h]
  rw [State.beginFetch_link]
  rfl

@[simp] theorem State.becomeQueued_sending (n : Nat) (atHead : Bool) :
    (s.becomeQueued n atHead).link.sending = s.link.sending := by
  simp only [State.becomeQueued, State.autoEvent_sending, State.setSource_sending, State.modPlate_link]

@[simp] theorem State.freeBay_sending (n : Nat) : (s.freeBay n).link.sending = s.link.sending := by
  have letGo (p : Plate) : (s.letGo n p).link.sending = s.link.sending := by
    unfold State.letGo
    dsimp only
    (repeat' split) <;> simp only [State.answer?_sending, State.abandonBay_link, State.stopFill_link]
  unfold State.freeBay
  split
  · simp only [State.setSource_sending, State.setBay_link, letGo]
  · rfl

@[simp] theorem State.abort_sending (cause : AbortCause) : (s.abort cause).link.sending = s.link.sending := by
  unfold State.abort State.becomeIdle State.baySpoiled State.bayReturned
  dsimp only
  (repeat' split) <;> simp only [State.autoEvent_sending, State.setSource_sending, State.freeBay_sending,
    State.becomeQueued_sending, State.onExposure_link, State.modPlate_link, State.stopExposing_link]

@[simp] theorem State.interlockFall_sending (cause : AbortCause) : (s.interlockFall cause).link.sending = s.link.sending := by
  unfold State.interlockFall
  split <;> simp only [State.abort_sending]

@[simp] theorem State.clearSpent_sending : s.clearSpent.link.sending = s.link.sending := by
  unfold State.clearSpent
  split <;> rfl

/-! ### The scanner -/

@[simp] theorem State.cutCalibration_sending : s.cutCalibration.link.sending = s.link.sending := by
  unfold State.cutCalibration State.completePhase State.completeDark State.completeWhite State.endCalibration
  dsimp only
  (repeat' split) <;> simp only [State.answer?_sending, State.setSource_sending, State.onInspection_link]

@[simp] theorem State.endScan_sending (cause : UncheckedCause) : (s.endScan cause).link.sending = s.link.sending := by
  unfold State.endScan
  dsimp only
  (repeat' split) <;> simp only [State.setSource_sending, State.onStore_link, State.onInspection_link,
    State.requestPulse_link, State.forgetDue_sending, State.setBay_link, State.setWork_link]

@[simp] theorem State.scanStart_sending : s.scanStart.link.sending = s.link.sending := by
  have judged (x : State) : x.judgeScanStart.link.sending = x.link.sending := by
    unfold State.judgeScanStart State.bindScan
    dsimp only
    (repeat' split) <;> simp only [State.autoEvent_sending, State.setSource_sending, State.beginExpected_link,
      State.setWork_link, State.setBay_link, State.requestPulse_link, State.onInspection_link]
  unfold State.scanStart
  rw [judged]
  split <;> simp only [State.cutCalibration_sending, State.endScan_sending]

/-! ### The plant lines -/

@[simp] theorem State.reportEdge_sending (n : Nat) (level : Bool) : (s.reportEdge n level).link.sending = s.link.sending := by
  unfold State.reportEdge State.plateClear
  (repeat' split) <;> simp only [State.interlockFall_sending, State.clearSpent_sending, State.autoEvent_sending,
    State.scanStart_sending, State.endScan_sending]

@[simp] theorem State.inputEdge_sending (n : Nat) : (s.inputEdge n).link.sending = s.link.sending := by
  unfold State.inputEdge State.takeEdge State.markEdge
  dsimp only
  (repeat' split) <;> simp only [State.setSource_sending, State.reportEdge_sending, State.setInput_link]

end Sys2Proof.Machine
end

section
/-! CLAIMS SETTLED. Ticks, level changes and edges of the plant lines (R161 to R163). -/

namespace Sys2Proof.Proofs

open Sys2Proof.Machine Sys2Proof.Claims

variable {s u v : State} {l : InputLine} {k m n : Nat} {level : Bool}

/-! ### Edges that are due -/

/-- No edge of this line is due. -/
def Rests (u : State) (n : Nat) : Prop := ∀ l, u.lines.inputs[n]? = some l → l.edgeDue = false

theorem rests_of_get (here : u.lines.inputs[n]? = some l) (notDue : l.edgeDue = false) : Rests u n := fun x at_ => by
  rw [here] at at_
  cases at_
  exact notDue

theorem inputEdge_due_eq (here : u.lines.inputs[n]? = some l) (due : l.edgeDue = true) : u.inputEdge n = u.takeEdge n :=
  if_pos (by rw [input_of_get here]; exact due)

theorem inputEdge_rests (rests : Rests u n) : u.inputEdge n = u := by
  refine if_neg ?_
  unfold State.input
  rw [List.getD_eq_getElem?_getD]
  cases here : u.lines.inputs[n]? with
  | none => simp [InputLine.reset]
  | some l => simp [rests l here]

/-- An edge taken is due no more (R162). -/
theorem takeEdge_clears (here : u.lines.inputs[n]? = some l) : Rests (u.takeEdge n) n := by
  have lt := (List.getElem?_eq_some_iff.1 here).1
  by_cases level : l.raw = l.debounced
  · have cleared : u.takeEdge n = u.setInput n { l with edgeDue := false } := by
      unfold State.takeEdge
      simp only [input_of_get here]
      exact if_pos level
    rw [cleared]
    exact rests_of_get (List.getElem?_set_self lt) rfl
  · rw [takeEdge_differ here level]
    refine rests_of_get (List.getElem?_set_self (by simpa using lt)) (l := afterEdge l) ?_
    unfold afterEdge
    split <;> rfl

theorem inputEdge_clears (u : State) (n : Nat) : Rests (u.inputEdge n) n := by
  by_cases rests : Rests u n
  · rwa [inputEdge_rests rests]
  · unfold Rests at rests
    push Not at rests
    obtain ⟨l, here, due⟩ := rests
    rw [inputEdge_due_eq here (by simpa using due)]
    exact takeEdge_clears here

/-- An edge taken makes no other line's edge due. -/
theorem inputEdge_rests_other (other : m ≠ n) (rests : Rests u m) : Rests (u.inputEdge n) m := by
  unfold State.inputEdge
  split
  · unfold Rests
    rwa [takeEdge_other other]
  · exact rests

/-- An edge is taken once. -/
theorem inputEdge_inputEdge (u : State) (n : Nat) : (u.inputEdge n).inputEdge n = u.inputEdge n :=
  inputEdge_rests (inputEdge_clears u n)

theorem foldl_inputEdge_rests {ns : List Nat} (rests : ∀ m ∈ ns, Rests u m) :
    ns.foldl (fun s n => s.inputEdge n) u = u := by
  induction ns with
  | nil => rfl
  | cons n ns ih =>
    rw [List.foldl_cons, inputEdge_rests (rests n List.mem_cons_self)]
    exact ih fun m mem => rests m (List.mem_cons_of_mem n mem)

/-- The lowest line's due edge is taken first (log entry 10). -/
theorem takeDueEdges_first (lt : n < 8) (first : ∀ m, m < n → Rests u m) :
    u.takeDueEdges = (u.inputEdge n).takeDueEdges := by
  have below (x : State) (rests : ∀ m, m < n → Rests x m) :
      x.takeDueEdges = ((List.range (7 - n)).map (n + 1 + ·)).foldl (fun s n => s.inputEdge n) (x.inputEdge n) := by
    have split : List.range (n + 1 + (7 - n)) = List.range n ++ n :: (List.range (7 - n)).map (n + 1 + ·) := by
      rw [List.range_add, List.range_succ, List.append_assoc]
      rfl
    rw [show n + 1 + (7 - n) = 8 by omega] at split
    unfold State.takeDueEdges
    rw [split, List.foldl_append, foldl_inputEdge_rests fun m mem => rests m (List.mem_range.1 mem)]
    rfl
  rw [below u first, below (u.inputEdge n) fun m lt => inputEdge_rests_other (Nat.ne_of_lt lt) (first m lt),
    inputEdge_inputEdge]

/-- The one due edge is all that is taken. -/
theorem takeDueEdges_one (lt : n < 8) (only : ∀ m, m ≠ n → Rests u m) : u.takeDueEdges = u.inputEdge n := by
  have rests (m : Nat) : Rests (u.inputEdge n) m := by
    by_cases here : m = n
    · rw [here]; exact inputEdge_clears u n
    · exact inputEdge_rests_other here (only m here)
  rw [takeDueEdges_first lt fun m lt => only m (Nat.ne_of_lt lt)]
  exact foldl_inputEdge_rests fun m _ => rests m

/-! ### Ticks and level changes -/

theorem lineTick_eq (u : State) : u.lineTick =
    { u.takeDueEdges with lines := { u.takeDueEdges.lines with inputs := u.takeDueEdges.lines.inputs.map ticked } } := rfl

/-- A level change, the line's due edge taken first, that makes no edge changes the raw level alone (R161). -/
theorem rawLevelChange_quiet (here : (u.inputEdge n).lines.inputs[n]? = some l) (quiet : 0 < l.debounce ∨ level = l.debounced) :
    u.rawLevelChange n level = (u.inputEdge n).setInput n { l with raw := level } := by
  have notDue := inputEdge_clears u n l here
  have at_ : ((u.inputEdge n).setInput n { l with raw := level }).lines.inputs[n]? = some { l with raw := level } :=
    List.getElem?_set_self (List.getElem?_eq_some_iff.1 here).1
  unfold State.rawLevelChange
  simp only [input_of_get here, input_of_get at_]
  split
  · rename_i bare
    exact takeEdge_level at_ (quiet.resolve_left (by omega)) notDue
  · rfl

/-- A level change at a pin of debounce 0 that makes an edge (R161). -/
theorem rawLevelChange_edge (here : u.lines.inputs[n]? = some l) (notDue : l.edgeDue = false) (bare : l.debounce = 0) :
    u.rawLevelChange n level = (u.setInput n { l with raw := level }).takeEdge n := by
  have at_ : (u.setInput n { l with raw := level }).lines.inputs[n]? = some { l with raw := level } :=
    List.getElem?_set_self (List.getElem?_eq_some_iff.1 here).1
  unfold State.rawLevelChange
  rw [inputEdge_rests (rests_of_get here notDue)]
  simp only [input_of_get here, input_of_get at_]
  exact if_pos bare

theorem rawLevelChange_inputEdge (n : Nat) (level : Bool) (u : State) :
    u.rawLevelChange n level = (u.inputEdge n).rawLevelChange n level := by
  unfold State.rawLevelChange
  rw [inputEdge_inputEdge]

/-! ### The notice begun while a line's raw level or mark differs -/

/-- No notice tells a raw level or a due mark (R162, R175). -/
theorem noticeBody_setInput {l' : InputLine} (here : u.lines.inputs[n]? = some l) (reported : l'.reported = l.reported)
    (flag : l'.flag = l.flag) (src : Nat) : (u.setInput n l').noticeBody src = u.noticeBody src := by
  have same {α : Type} (f : InputLine → α) (eq : f l' = f l) : (u.lines.inputs.set n l').map f = u.lines.inputs.map f := by
    obtain ⟨lt, is⟩ := List.getElem?_eq_some_iff.1 here
    rw [List.map_set, eq, ← is, ← List.getElem_map f (h := by simpa using lt), List.set_getElem_self]
  have lines : (u.setInput n l').linesReport = u.linesReport := by
    unfold State.linesReport State.setInput
    simp only [same _ reported, same _ flag]
    rfl
  unfold State.noticeBody
  rw [lines]
  rfl

theorem transmit_setInput {l' : InputLine} (here : u.lines.inputs[n]? = some l) (reported : l'.reported = l.reported)
    (flag : l'.flag = l.flag) : (u.setInput n l').transmit = u.transmit.setInput n l' := by
  have begun (src : Nat) : (u.setInput n l').beginNotice src = (u.beginNotice src).setInput n l' := by
    unfold State.beginNotice
    rw [noticeBody_setInput here reported flag]
    rfl
  unfold State.transmit
  rw [State.setInput_link]
  (repeat' split)
  · rfl
  · rfl
  · exact begun _
  · rfl
  · rfl

/-- The INPUT_EDGE of a line marked as due is the edge of the line unmarked. -/
theorem inputEdge_marked (lt : n < u.lines.inputs.length) (differ : l.raw ≠ l.debounced) :
    (u.setInput n { l with edgeDue := true }).inputEdge n = (u.setInput n l).takeEdge n := by
  have moved (l' : InputLine) : (u.setInput n l').setInput n (movedLine l) = u.setInput n (movedLine l) := by
    simp [State.setInput]
  have at_ (l' : InputLine) : (u.setInput n l').lines.inputs[n]? = some l' := List.getElem?_set_self lt
  have marked : (u.setInput n { l with edgeDue := true }).takeEdge n = edgeMarked n l
      (((u.setInput n { l with edgeDue := true }).setInput n (movedLine l)).reportEdge n l.raw) :=
    takeEdge_differ (l := { l with edgeDue := true }) (at_ _) differ
  rw [inputEdge_due_eq (at_ _) rfl, marked, takeEdge_differ (at_ l) differ, moved, moved]

/-! ### Edges that no block acts on -/

/-- An edge that its setting matches is noticed unless masked (R162). -/
theorem edgeMarked_noticed (n : Nat) (hits : edgeHits l = true) (heard : l.masked = false) (u : State) :
    (edgeMarked n l u).link.sources.getLsbD 10 = true := by
  simp [edgeMarked, hits, heard]

theorem setInput_plate? (n : Nat) (l : InputLine) (u : State) (m : Nat) : (u.setInput n l).plate? m = u.plate? m := rfl

/-- The edges that are reported to no block, or to one that does nothing (R152, R163). -/
theorem reportEdge_silent (silent : 5 ≤ n ∨ (n = 0 ∨ n = 2) ∧ level = true ∨ (n = 3 ∨ n = 4) ∧ level = false ∨
    n = 4 ∧ (∀ sc p, u.inspection.work = .scanning sc → u.plate? sc.bay = some p →
      p.h / u.settings.resolution.side ≤ sc.received)) : u.reportEdge n level = u := by
  obtain high | ⟨rfl | rfl, rfl⟩ | ⟨rfl | rfl, rfl⟩ | ⟨rfl, received⟩ := silent
  · exact reportEdge_unheard high level u
  · rfl
  · rfl
  · rfl
  · rfl
  · cases level with
    | false => rfl
    | true =>
      show u.plateClear = u
      unfold State.plateClear
      split
      · rename_i sc on
        refine if_neg (Nat.not_lt.2 ?_)
        cases resident : u.plate? sc.bay with
        | none => simp [State.scanLines, resident]
        | some p => rw [scanLines_eq resident]; exact received sc p on resident
      · rfl

/-- Settles O52, by the edges due before a tick or a level change, and by what each edge is reported to. -/
theorem inputsDebounceAndFlag : Obligations.InputsDebounceAndFlag := by
  refine ⟨fun s notDue => ⟨?_, fun n l level here debounced => ?_⟩, fun n l s v here due taken => ?_,
    fun n l level s here bare notDue => ⟨fun same => ?_, fun differ => ?_⟩, fun n l s here due differ => ⟨?_, fun silent => ?_⟩⟩
  · refine congrArg Host.Outcome.next ?_
    rw [lineTick_eq, takeDueEdges_none (by rwa [State.transmit_lines]), State.transmit_lines]
  · have rests : s.transmit.inputEdge n = s.transmit :=
      inputEdge_rests (rests_of_get (l := l) (by rwa [State.transmit_lines]) (notDue l (List.mem_of_getElem? here)))
    refine congrArg Host.Outcome.next ((rawLevelChange_quiet (l := l) ?_ (.inl debounced)).trans ?_)
    · rwa [rests, State.transmit_lines]
    · rw [rests, State.setInput, State.transmit_lines]
  · obtain rfl : s.transmit.inputEdge n = v := Host.Outcome.next.inj taken
    have settled (sending : s.transmit.link.tx ≠ .idle) :
        (s.transmit.inputEdge n).transmit = s.transmit.inputEdge n :=
      State.transmit_of_sending _ ((s.transmit.inputEdge_sending n).trans (decide_eq_true sending))
    refine ⟨fun first sending => ?_, fun one => ?_, fun level => ⟨fun sending => ?_, fun l' at_ quiet => ?_⟩⟩
    · refine congrArg Host.Outcome.next (Eq.trans ?_ (congrArg State.lineTick (settled sending).symm))
      rw [lineTick_eq, lineTick_eq, takeDueEdges_first n.isLt fun m lt l' at_ => ?_]
      rw [State.transmit_lines] at at_
      exact Bool.eq_false_iff.2 fun due' => absurd (first m l' at_ due') (Nat.not_le.2 lt)
    · refine congrArg Host.Outcome.next ?_
      rw [lineTick_eq, takeDueEdges_one n.isLt fun m other l' at_ => ?_]
      rw [State.transmit_lines] at at_
      exact Bool.eq_false_iff.2 fun due' => other (one m l' at_ due')
    · exact congrArg Host.Outcome.next ((rawLevelChange_inputEdge n level s.transmit).trans
        (congrArg (State.rawLevelChange n level) (settled sending).symm))
    · exact congrArg Host.Outcome.next (rawLevelChange_quiet at_ quiet)
  · have rests : s.transmit.inputEdge n = s.transmit :=
      inputEdge_rests (rests_of_get (l := l) (by rwa [State.transmit_lines]) notDue)
    refine congrArg Host.Outcome.next ((rawLevelChange_quiet (l := l) ?_ (.inr same)).trans ?_)
    · rwa [rests, State.transmit_lines]
    · rw [rests, State.setInput, State.transmit_lines]
  · refine congrArg Host.Outcome.next ((rawLevelChange_edge (l := l) (by rwa [State.transmit_lines]) notDue bare).trans ?_)
    show _ = State.inputEdge n (State.transmit (s.setInput n { l with raw := level, edgeDue := true }))
    rw [transmit_setInput (l' := { l with raw := level, edgeDue := true }) here rfl rfl]
    exact (inputEdge_marked (l := { l with raw := level }) (by simpa using (List.getElem?_eq_some_iff.1 here).1) differ).symm
  · refine ⟨_, exec_inputEdge here due differ rfl ?_, ?_, fun hits heard => edgeMarked_noticed _ hits heard _⟩
    · rw [reportEdge_inputs, State.setInput, State.transmit_lines]
    · show (State.reportEdge n l.raw (s.transmit.setInput n (movedLine l))).lines.inputs.set n (afterEdge l) = _
      rw [reportEdge_inputs, State.setInput, State.transmit_lines]
      exact List.set_set ..
  · have unheard : (s.transmit.setInput n (movedLine l)).reportEdge n l.raw = s.transmit.setInput n (movedLine l) :=
      reportEdge_silent (by simpa only [State.setInput_inspection, State.setInput_settings, setInput_plate?,
        State.transmit_inspection, State.transmit_settings, transmit_plate?] using silent)
    rw [exec_inputEdge here due differ unheard (by rw [State.setInput, State.transmit_lines]), edgeMarked_setInput]
    unfold edgeMarked
    rw [State.transmit_lines]

end Sys2Proof.Proofs
end

section
/-! SUPPORT. Defect records and trackers through the matching of a scan line, as the claims speak of them (R147 to R149). -/

namespace Sys2Proof.Proofs

open Sys2Proof.Machine Sys2Proof.Claims

variable {y n oldest : Nat} {t : Tracker}

/-! ### What joins and merges make of a record (R147, R148) -/

/-- A sign stays through joins with its like, and is MIXED after any other (R147). -/
theorem foldl_join (signs : List Sign) (s : Sign) :
    signs.foldl Sign.join s = if ∀ g ∈ signs, g = s then s else .mixed := by
  induction signs generalizing s with
  | nil => simp
  | cons g signs ih =>
    rw [List.foldl_cons, ih]
    unfold Sign.join
    by_cases same : s = g
    · subst same
      simp
    · have differ : ¬ ∀ x ∈ g :: signs, x = s := fun all => same (all g List.mem_cons_self).symm
      rw [if_neg same, if_neg differ, ite_self]

/-- The records of `gone` merged into d one after another (R148). -/
theorem foldl_absorb (gone : List DefectRecord) (d : DefectRecord) : gone.foldl DefectRecord.absorb d = { d with
    firstLine := (gone.map DefectRecord.firstLine).foldl min d.firstLine
    lastLine := (gone.map DefectRecord.lastLine).foldl max d.lastLine
    firstElement := (gone.map DefectRecord.firstElement).foldl min d.firstElement
    lastElement := (gone.map DefectRecord.lastElement).foldl max d.lastElement
    area := d.area + (gone.map DefectRecord.area).sum
    sign := (gone.map DefectRecord.sign).foldl Sign.join d.sign
    peak := (gone.map DefectRecord.peak).foldl max d.peak } := by
  induction gone generalizing d with
  | nil => rfl
  | cons e gone ih => simp [ih, DefectRecord.absorb, Nat.add_assoc]

/-- The runs rs, one at least, joined to d one after another (R148). -/
theorem foldl_addRun (y : Nat) {rs : List Run} (some : rs ≠ []) (d : DefectRecord) :
    rs.foldl (DefectRecord.addRun y) d = { d with
      lastLine := y
      firstElement := (rs.map Run.first).foldl min d.firstElement
      lastElement := (rs.map Run.last).foldl max d.lastElement
      area := d.area + (rs.map Run.area).sum
      sign := (rs.map Run.sign).foldl Sign.join d.sign
      peak := (rs.map Run.peak).foldl max d.peak } := by
  induction rs generalizing d with
  | nil => exact absurd rfl some
  | cons r rs ih =>
    cases rs with
    | nil => rfl
    | cons r' rs => rw [List.foldl_cons, ih (List.cons_ne_nil r' rs)]; simp [DefectRecord.addRun, Nat.add_assoc]

/-- Merges and then joins are what the claims call the grown record. -/
theorem grown_eq (y : Nat) (d : DefectRecord) (gone : List DefectRecord) {rs : List Run} (some : rs ≠ []) :
    rs.foldl (DefectRecord.addRun y) (gone.foldl DefectRecord.absorb d) = grown y d gone rs := by
  have signs := foldl_join (gone.map DefectRecord.sign ++ rs.map Run.sign) d.sign
  rw [List.foldl_append] at signs
  rw [foldl_addRun y some, foldl_absorb]
  unfold grown
  rw [if_neg some]
  simp only [List.foldl_append, signs, List.sum_append, Nat.add_assoc]

@[simp] theorem grown_number (y : Nat) (d : DefectRecord) (gone : List DefectRecord) (rs : List Run) :
    (grown y d gone rs).number = d.number := by
  unfold grown
  split <;> rfl

/-- A run seen on line y makes that the record's last line. -/
theorem grown_lastLine (d : DefectRecord) (gone : List DefectRecord) {rs : List Run} (some : rs ≠ []) :
    (grown y d gone rs).lastLine = y := by
  unfold grown
  rw [if_neg some]

/-- The joining of runs to a defect, and of others' records with it (R148). -/
theorem joinInto_eq (y : Nat) (t : Tracker) (oldest : Nat) (others : List Nat) {rs : List Run} (some : rs ≠ []) :
    t.joinInto y oldest others rs =
      let gone := t.list.filter fun d => others.contains d.number
      { t with
        list := (t.list.filter fun d => !others.contains d.number).map fun d =>
          if d.number = oldest then grown y d gone rs else d
        opens := (t.opens.filter fun o => !others.contains o.number).map fun o =>
          if o.number = oldest then { o with ranges := rs.map fun r => (r.first, r.last) } else o
        free := t.free + gone.length } := by
  unfold Tracker.joinInto
  simp only [grown_eq y _ _ some]

/-! ### New defects (R148, R149) -/

theorem opened_nil (within : t.untracked ≤ 65535) (y : Nat) : opened y t [] = t := by
  unfold opened
  simp [within]

theorem openFor_untracked (within : t.untracked ≤ 65535) (y : Nat) (r : Run) : (t.openFor y r).untracked ≤ 65535 := by
  unfold Tracker.openFor
  split
  · exact within
  · exact Nat.min_le_right _ _

/-- The leftmost run opens its defect, or is untracked, and then the others (R148, R149). -/
theorem opened_cons (within : t.untracked ≤ 65535) (y : Nat) (r : Run) (rs : List Run) :
    opened y t (r :: rs) = opened y (t.openFor y r) rs := by
  unfold Tracker.openFor Config.openMax
  by_cases room : 1 ≤ t.free ∧ t.opens.length < 32 ∧ t.nextNumber ≤ 65535
  · obtain ⟨free, few, left⟩ := room
    have count : min (rs.length + 1) (min t.free (min (32 - t.opens.length) (65536 - t.nextNumber))) =
        min rs.length (min (t.free - 1) (min (32 - (t.opens.length + 1)) (65536 - (t.nextNumber + 1)))) + 1 := by omega
    rw [if_pos ⟨free, few, left⟩]
    unfold opened
    simp only [List.length_cons, List.length_append, List.length_nil, Nat.zero_add, count]
    generalize min rs.length _ = k
    simp [List.mapIdx_cons, DefectRecord.opened, Nat.sub_sub, Nat.add_comm 1 k, ← Nat.add_assoc,
      Nat.add_right_comm t.nextNumber 1]
  · have count : min (rs.length + 1) (min t.free (min (32 - t.opens.length) (65536 - t.nextNumber))) = 0 := by omega
    have count' : min rs.length (min t.free (min (32 - t.opens.length) (65536 - t.nextNumber))) = 0 := by omega
    have untracked : min (t.untracked + (rs.length + 1)) 65535 = min (min (t.untracked + 1) 65535 + rs.length) 65535 := by omega
    rw [if_neg room]
    unfold opened
    simp only [List.length_cons, count, count', satInc, Config.countHold, Nat.sub_zero, untracked, List.take_zero]

/-- Runs that join no defect, taken from left to right, are the new defects of the claims. -/
theorem foldl_openFor (within : t.untracked ≤ 65535) (y : Nat) (rs : List Run) :
    rs.foldl (Tracker.openFor y) t = opened y t rs := by
  induction rs generalizing t with
  | nil => exact (opened_nil within y).symm
  | cons r rs ih => rw [List.foldl_cons, ih (openFor_untracked within y r), opened_cons within]

end Sys2Proof.Proofs
end

section
/-! SUPPORT. What the matching of a scan line keeps (R147, R148), and the defects that it closes (R149). -/

namespace Sys2Proof.Proofs

open Sys2Proof.Machine Sys2Proof.Claims

variable {y n oldest : Nat} {t u : Tracker} {opens : List OpenDefect}

/-! ### The laws of the defect list and the open-defect table -/

theorem trackerFits_succ (fits : TrackerFits y t) : TrackerFits (y + 1) t := by
  obtain ⟨opens, records, below, backed, few, numbers, untracked⟩ := fits
  refine ⟨opens, records, fun d mem => ?_, backed, few, numbers, untracked⟩
  obtain ⟨number, seen⟩ := below d mem
  exact ⟨number, Nat.lt_succ_of_lt seen⟩

theorem trackerFits_openFor (fits : TrackerFits (y + 1) t) (r : Run) : TrackerFits (y + 1) (t.openFor y r) := by
  obtain ⟨opens, records, below, backed, few, numbers, untracked⟩ := fits
  unfold Tracker.openFor
  split
  · rename_i room
    obtain ⟨-, less, left⟩ := room
    have fresh : ∀ k ∈ t.list.map DefectRecord.number, k < t.nextNumber := fun k mem => by
      obtain ⟨d, there, rfl⟩ := List.mem_map.1 mem
      exact (below d there).1
    have freshOpen : ∀ k ∈ t.opens.map OpenDefect.number, k < t.nextNumber := fun k mem => by
      obtain ⟨o, there, rfl⟩ := List.mem_map.1 mem
      obtain ⟨d, record, same⟩ := backed o there
      exact same ▸ (below d record).1
    have nodup {ks : List Nat} (distinct : ks.Nodup) (less : ∀ k ∈ ks, k < t.nextNumber) : (ks ++ [t.nextNumber]).Nodup := by
      refine List.nodup_append.2 ⟨distinct, List.nodup_singleton _, fun k mem k' mem' => ?_⟩
      rw [List.mem_singleton.1 mem']
      exact Nat.ne_of_lt (less k mem)
    refine ⟨?_, ?_, fun d mem => ?_, fun o mem => ?_, ?_, Nat.succ_le_succ left, untracked⟩
    · rw [List.map_append]
      exact nodup opens freshOpen
    · rw [List.map_append]
      exact nodup records fresh
    · rcases List.mem_append.1 mem with mem | mem
      · obtain ⟨number, seen⟩ := below d mem
        exact ⟨Nat.lt_succ_of_lt number, seen⟩
      · rw [List.mem_singleton.1 mem]
        exact ⟨Nat.lt_succ_self _, Nat.lt_succ_self _⟩
    · rcases List.mem_append.1 mem with mem | mem
      · obtain ⟨d, mem, same⟩ := backed o mem
        exact ⟨d, List.mem_append_left _ mem, same⟩
      · rw [List.mem_singleton.1 mem]
        exact ⟨_, List.mem_append_right _ List.mem_cons_self, rfl⟩
    · rw [List.length_append, List.length_singleton]
      exact less
  · exact ⟨opens, records, below, backed, few, numbers, Nat.min_le_right _ _⟩

/-- Records and open defects of some numbers leave together, and the others keep their numbers. -/
theorem trackerFits_filter_map (fits : TrackerFits (y + 1) t) (stays : Nat → Bool) {grow : DefectRecord → DefectRecord}
    {place : OpenDefect → OpenDefect} (free : Nat)
    (grown : ∀ d ∈ t.list, (grow d).number = d.number ∧ (grow d).lastLine ≤ y)
    (placed : ∀ o, (place o).number = o.number) : TrackerFits (y + 1) { t with
      list := (t.list.filter fun d => stays d.number).map grow
      opens := (t.opens.filter fun o => stays o.number).map place
      free := free } := by
  obtain ⟨opens, records, below, backed, few, numbers, untracked⟩ := fits
  refine ⟨?_, ?_, fun d mem => ?_, fun o mem => ?_, ?_, numbers, untracked⟩
  · rw [List.map_map, List.map_congr_left (f := OpenDefect.number ∘ place) fun o _ => placed o]
    exact opens.sublist (List.filter_sublist.map _)
  · rw [List.map_map, List.map_congr_left (f := DefectRecord.number ∘ grow) fun d mem =>
      (grown d (List.mem_of_mem_filter mem)).1]
    exact records.sublist (List.filter_sublist.map _)
  · obtain ⟨d, kept, rfl⟩ := List.mem_map.1 mem
    obtain ⟨number, seen⟩ := grown d (List.mem_of_mem_filter kept)
    exact ⟨number ▸ (below d (List.mem_of_mem_filter kept)).1, Nat.lt_succ_of_le seen⟩
  · obtain ⟨o, kept, rfl⟩ := List.mem_map.1 mem
    obtain ⟨listed, stay⟩ := List.mem_filter.1 kept
    obtain ⟨d, there, same⟩ := backed o listed
    refine ⟨grow d, List.mem_map_of_mem (List.mem_filter.2 ⟨there, by rw [same]; exact stay⟩), ?_⟩
    rw [placed, (grown d there).1, same]
  · rw [List.length_map]
    exact (List.length_filter_le _ _).trans few

/-- Merges and joins keep a record's number, and go no further than line y. -/
theorem joined_kept {d : DefectRecord} {gone : List DefectRecord} (seen : d.lastLine ≤ y) (earlier : ∀ g ∈ gone, g.lastLine ≤ y)
    (rs : List Run) : (rs.foldl (DefectRecord.addRun y) (gone.foldl DefectRecord.absorb d)).number = d.number ∧
      (rs.foldl (DefectRecord.addRun y) (gone.foldl DefectRecord.absorb d)).lastLine ≤ y := by
  have merged : (gone.foldl DefectRecord.absorb d).number = d.number ∧ (gone.foldl DefectRecord.absorb d).lastLine ≤ y :=
    List.foldlRecOn gone _ (motive := fun x : DefectRecord => x.number = d.number ∧ x.lastLine ≤ y) ⟨rfl, seen⟩
      fun x kept g mem => ⟨kept.1, Nat.max_le.2 ⟨kept.2, earlier g mem⟩⟩
  exact List.foldlRecOn rs _ (motive := fun x : DefectRecord => x.number = d.number ∧ x.lastLine ≤ y) merged
    fun x kept r _ => ⟨kept.1, Nat.le_refl y⟩

theorem trackerFits_joinInto (fits : TrackerFits (y + 1) t) (oldest : Nat) (others : List Nat) (rs : List Run) :
    TrackerFits (y + 1) (t.joinInto y oldest others rs) := by
  have seen : ∀ d ∈ t.list, d.lastLine ≤ y := fun d mem => Nat.le_of_lt_succ (fits.2.2.1 d mem).2
  refine trackerFits_filter_map fits (fun n => !others.contains n) _ (fun d mem => ?_) fun o => ?_
  · split
    · exact joined_kept (seen d mem) (fun g mem => seen g (List.mem_of_mem_filter mem)) rs
    · exact ⟨rfl, seen d mem⟩
  · split <;> rfl

theorem trackerFits_takeGroup (fits : TrackerFits (y + 1) t) (g : Group) : TrackerFits (y + 1) (t.takeGroup y g) := by
  unfold Tracker.takeGroup
  split
  · exact List.foldlRecOn g.runs _ fits fun u fits r _ => trackerFits_openFor fits r
  · exact trackerFits_joinInto fits _ _ _

theorem trackerFits_close (fits : TrackerFits y t) (k : Nat) : TrackerFits y (t.close k) := by
  obtain ⟨opens, records, below, backed, few, numbers, untracked⟩ := fits
  refine ⟨opens.sublist (List.filter_sublist.map _), records, below, fun o mem => backed o (List.mem_of_mem_filter mem),
    (List.length_filter_le _ _).trans few, numbers, untracked⟩

/-- The matching of a line leaves a tracker fit for the next (R147, R148). -/
theorem trackerFits_matchLine (fits : TrackerFits y t) (runs : List Run) : TrackerFits (y + 1) (t.matchLine y runs) :=
  trackerFits_close (List.foldlRecOn (groupRuns t.opens runs) _ (trackerFits_succ fits)
    fun _ fits g _ => trackerFits_takeGroup fits g) y

end Sys2Proof.Proofs
end

section
/-! SUPPORT. Groups of runs, and one run that merges open defects (R148, R149). -/

namespace Sys2Proof.Proofs

open Sys2Proof.Machine Sys2Proof.Claims

variable {y n oldest : Nat} {t u : Tracker} {opens : List OpenDefect} {r : Run} {gs : List Group} {rs : List Run}

/-! ### Groups (R148) -/

/-- The group of a run that joins no defect. -/
def single (r : Run) : Group := { runs := [r], defects := [] }

/-- The numbers of the open defects that a run joins. -/
def joined (opens : List OpenDefect) (r : Run) : List Nat := (opens.filter (shares r)).map OpenDefect.number

theorem joined_loose (free : loose opens r = true) : joined opens r = [] := by
  have none : opens.filter (shares r) = [] := List.filter_eq_nil_iff.2 fun o mem => by
    simpa using List.all_eq_true.1 free o mem
  rw [joined, none, List.map_nil]

/-- A group with a defect that this run joins. -/
def meets (opens : List OpenDefect) (r : Run) (g : Group) : Bool := g.defects.any (joined opens r).contains

theorem meets_eq_false_iff (g : Group) : meets opens r g = false ↔ ∀ n ∈ g.defects, n ∉ joined opens r := by
  simp [meets]

theorem addToGroups_eq (opens : List OpenDefect) (gs : List Group) (r : Run) : addToGroups opens gs r =
    gs.takeWhile (fun g => !meets opens r g) ++ [{
      runs := (gs.filter (meets opens r)).flatMap Group.runs ++ [r]
      defects := ((gs.filter (meets opens r)).flatMap Group.defects ++ joined opens r).eraseDups }] ++
    (gs.dropWhile fun g => !meets opens r g).filter fun g => !meets opens r g := rfl

/-- A run that joins no defect of an earlier group makes a group of its own. -/
theorem addToGroups_apart (apart : ∀ g ∈ gs, meets opens r g = false) :
    addToGroups opens gs r = gs ++ [{ runs := [r], defects := (joined opens r).eraseDups }] := by
  have kept : gs.takeWhile (fun g => !meets opens r g) = gs :=
    List.takeWhile_eq_self_iff.2 fun g mem => by rw [apart g mem]; rfl
  have none : gs.dropWhile (fun g => !meets opens r g) = [] :=
    List.dropWhile_eq_nil_iff.2 fun g mem => by rw [apart g mem]; rfl
  have hits : gs.filter (meets opens r) = [] := List.filter_eq_nil_iff.2 fun g mem => by rw [apart g mem]; decide
  rw [addToGroups_eq, kept, none, hits]
  simp

theorem addToGroups_loose (free : loose opens r = true) (gs : List Group) : addToGroups opens gs r = gs ++ [single r] := by
  have none := joined_loose free
  rw [addToGroups_apart fun g _ => (meets_eq_false_iff g).2 fun n _ => by simp [none], none]
  rfl

theorem foldl_addToGroups_loose (free : ∀ r ∈ rs, loose opens r = true) (gs : List Group) :
    rs.foldl (addToGroups opens) gs = gs ++ rs.map single := by
  induction rs generalizing gs with
  | nil => simp
  | cons r rs ih =>
    rw [List.foldl_cons, addToGroups_loose (free r List.mem_cons_self), ih fun x mem => free x (List.mem_cons_of_mem r mem)]
    simp

/-- The groups of a line on which one run at most joins defects. -/
theorem groupRuns_one {left right : List Run} (free : ∀ x ∈ left ++ right, loose opens x = true) :
    groupRuns opens (left ++ r :: right) =
      left.map single ++ { runs := [r], defects := (joined opens r).eraseDups } :: right.map single := by
  have apart : ∀ g ∈ left.map single, meets opens r g = false := fun g mem => by
    obtain ⟨x, -, rfl⟩ := List.mem_map.1 mem
    rfl
  unfold groupRuns
  rw [List.foldl_append, foldl_addToGroups_loose fun x mem => free x (List.mem_append_left right mem), List.nil_append,
    List.foldl_cons, addToGroups_apart apart, foldl_addToGroups_loose fun x mem => free x (List.mem_append_right left mem),
    List.append_assoc]
  rfl

/-! ### What a group does (R148) -/

/-- Runs that join no defect, each its own group, are the new defects of the claims. -/
theorem foldl_takeGroup_single (within : t.untracked ≤ 65535) (y : Nat) (rs : List Run) :
    (rs.map single).foldl (Tracker.takeGroup y) t = opened y t rs := by
  rw [List.foldl_map, ← foldl_openFor within]
  rfl

/-- A group's defects merge into the oldest of them. -/
theorem takeGroup_oldest {g : Group} (y : Nat) (t : Tracker) (at_ : oldest ∈ g.defects) (least : ∀ n ∈ g.defects, oldest ≤ n) :
    t.takeGroup y g = t.joinInto y oldest (g.defects.filter fun n => decide (n ≠ oldest)) g.runs := by
  unfold Tracker.takeGroup
  cases defects : g.defects with
  | nil => rw [defects] at at_; cases at_
  | cons d ds =>
    have first : ds.foldl min d = oldest := by
      rw [defects] at at_ least
      exact Option.some.inj ((List.min?_cons' ..).symm.trans (List.min?_eq_some_iff.2 ⟨at_, least⟩))
    simp only [first]

/-- One run merges the defects it joins as the claims say (R148). -/
theorem takeGroup_merges (y : Nat) (t : Tracker) (at_ : oldest ∈ joined opens r) (least : ∀ n ∈ joined opens r, oldest ≤ n) :
    t.takeGroup y { runs := [r], defects := (joined opens r).eraseDups } = merged y t (joined opens r) oldest r := by
  have others (k : Nat) : ((joined opens r).eraseDups.filter fun n => decide (n ≠ oldest)).contains k =
      decide (k ∈ joined opens r ∧ k ≠ oldest) := by
    rw [Bool.eq_iff_iff, List.contains_iff_mem]
    simp
  rw [takeGroup_oldest y t (List.mem_eraseDups.2 at_) fun n mem => least n (List.mem_eraseDups.1 mem),
    joinInto_eq y t oldest _ (List.cons_ne_nil r [])]
  simp only [others]
  rfl

/-! ### The defects that close (R149) -/

/-- The open defects that stay are those whose records have been seen on this line. -/
theorem close_eq {stays : Nat → Bool} (backed : ∀ o ∈ u.opens, ∃ d ∈ u.list, d.number = o.number)
    (seen : ∀ d ∈ u.list, d.lastLine = y ↔ stays d.number = true) :
    u.close y = { u with opens := u.opens.filter fun o => stays o.number } := by
  have same : (u.opens.filter fun o => u.list.any fun d => decide (d.number = o.number ∧ d.lastLine = y)) =
      u.opens.filter fun o => stays o.number := by
    refine List.filter_congr fun o mem => ?_
    rw [Bool.eq_iff_iff, List.any_eq_true]
    constructor
    · rintro ⟨d, there, is⟩
      obtain ⟨number, line⟩ := of_decide_eq_true is
      exact number ▸ (seen d there).1 line
    · intro stay
      obtain ⟨d, there, number⟩ := backed o mem
      exact ⟨d, there, decide_eq_true ⟨number, (seen d there).2 (number ▸ stay)⟩⟩
  unfold Tracker.close
  rw [same]

/-- New defects have been seen on this line. -/
theorem opened_seen {stays : Nat → Bool} (seen : ∀ d ∈ t.list, d.lastLine = y ↔ stays d.number = true)
    (fresh : ∀ n, t.nextNumber ≤ n → stays n = true) (rs : List Run) :
    ∀ d ∈ (opened y t rs).list, d.lastLine = y ↔ stays d.number = true := fun d mem => by
  rcases List.mem_append.1 mem with mem | mem
  · exact seen d mem
  · obtain ⟨i, lt, rfl⟩ := List.mem_mapIdx.1 mem
    exact iff_of_true rfl (fresh _ (Nat.le_add_right _ _))

/-- The defects that stay open where one run merges some: the oldest of them, and the new ones. -/
def staysOpen (t : Tracker) (oldest n : Nat) : Bool := decide (n = oldest) || decide (t.nextNumber ≤ n)

theorem merged_seen (fits : TrackerFits y t) (left : List Run) (numbers : List Nat) (r : Run) :
    ∀ d ∈ (merged y (opened y t left) numbers oldest r).list, d.lastLine = y ↔
      staysOpen t oldest d.number = true := by
  have before := opened_seen (y := y) (stays := fun n => decide (t.nextNumber ≤ n)) (fun d mem => by
    obtain ⟨-, -, below, -⟩ := fits
    obtain ⟨number, line⟩ := below d mem
    exact iff_of_false (Nat.ne_of_lt line) (by simpa using number)) (fun n le => decide_eq_true le) left
  intro d mem
  obtain ⟨d, kept, rfl⟩ := List.mem_map.1 mem
  split
  · rename_i here
    exact iff_of_true (grown_lastLine d _ (List.cons_ne_nil r [])) (by simp [staysOpen, here])
  · rename_i other
    simpa [staysOpen, other] using before d (List.mem_of_mem_filter kept)

/-- One run that joins open defects, among runs that join none (R148, R149). -/
theorem matchLine_merges {left right : List Run} (fits : TrackerFits y t)
    (free : ∀ x ∈ left ++ right, loose t.opens x = true) (at_ : oldest ∈ joined t.opens r)
    (least : ∀ n ∈ joined t.opens r, oldest ≤ n) : t.matchLine y (left ++ r :: right) =
      let u := opened y (merged y (opened y t left) (joined t.opens r) oldest r) right
      { u with opens := u.opens.filter fun o => decide (o.number = oldest) || decide (t.nextNumber ≤ o.number) } := by
  have ⟨_, _, _, _, _, _, within⟩ := fits
  have groups : (groupRuns t.opens (left ++ r :: right)).foldl (Tracker.takeGroup y) t =
      opened y (merged y (opened y t left) (joined t.opens r) oldest r) right := by
    rw [groupRuns_one free, List.foldl_append, foldl_takeGroup_single within, List.foldl_cons, takeGroup_merges y _ at_ least,
      foldl_takeGroup_single (Nat.min_le_right _ _)]
  obtain ⟨-, -, -, backed, -⟩ := List.foldlRecOn (groupRuns t.opens (left ++ r :: right)) (Tracker.takeGroup y)
    (trackerFits_succ fits) fun _ fits g _ => trackerFits_takeGroup fits g
  unfold Tracker.matchLine
  rw [groups] at backed ⊢
  have seen := opened_seen (stays := staysOpen t oldest) (merged_seen fits left (joined t.opens r) r) (fun n le => ?_) right
  · exact close_eq (stays := staysOpen t oldest) backed seen
  · have later : t.nextNumber ≤ n := (Nat.le_add_right _ _).trans le
    simp [staysOpen, later]

end Sys2Proof.Proofs
end

section
/-! SUPPORT. Runs that join one open defect at most: each takes its runs (R148, R149). -/

namespace Sys2Proof.Proofs

open Sys2Proof.Machine Sys2Proof.Claims

variable {y n m : Nat} {t u : Tracker} {opens : List OpenDefect} {o : OpenDefect} {r : Run} {g : Group} {gs gs' : List Group}
  {rs : List Run}

/-! ### The groups of such runs (R148) -/

/-- The runs of the groups with this defect. -/
def runsOf (gs : List Group) (n : Nat) : List Run := (gs.filter fun g => g.defects.contains n).flatMap Group.runs

/-- The runs of the groups without a defect. -/
def looseOf (gs : List Group) : List Run := (gs.filter fun g => g.defects.isEmpty).flatMap Group.runs

theorem runsOf_append (gs gs' : List Group) (n : Nat) : runsOf (gs ++ gs') n = runsOf gs n ++ runsOf gs' n := by
  simp [runsOf]

theorem looseOf_append (gs gs' : List Group) : looseOf (gs ++ gs') = looseOf gs ++ looseOf gs' := by
  simp [looseOf]

theorem runsOf_singleton (g : Group) (n : Nat) : runsOf [g] n = if n ∈ g.defects then g.runs else [] := by
  unfold runsOf
  by_cases here : n ∈ g.defects <;> simp [here]

theorem looseOf_singleton (g : Group) : looseOf [g] = if g.defects = [] then g.runs else [] := by
  unfold looseOf
  by_cases none : g.defects = [] <;> simp [none]

theorem runsOf_eq_nil (out : ∀ g ∈ gs, n ∉ g.defects) : runsOf gs n = [] := by
  have none : (gs.filter fun g => g.defects.contains n) = [] := List.filter_eq_nil_iff.2 fun g mem => by simpa using out g mem
  unfold runsOf
  rw [none]
  rfl

/-- Each group has a run, and one of these open defects at most, each of which is in one group at most. -/
def Simple (opens : List OpenDefect) (gs : List Group) : Prop :=
  (∀ g ∈ gs, g.runs ≠ [] ∧ (g.defects = [] ∨ ∃ o ∈ opens, g.defects = [o.number])) ∧ (gs.flatMap Group.defects).Nodup

/-- The groups are those of these runs: each open defect with the runs that join it, the others alone. -/
def GroupsOf (opens : List OpenDefect) (rs : List Run) (gs : List Group) : Prop :=
  Simple opens gs ∧ (∀ n, runsOf gs n = joining opens rs n) ∧ looseOf gs = rs.filter (loose opens)

theorem joining_append (opens : List OpenDefect) (rs : List Run) (r : Run) (n : Nat) :
    joining opens (rs ++ [r]) n = joining opens rs n ++ if n ∈ joined opens r then [r] else [] := by
  have same : (opens.any fun o => decide (o.number = n) && shares r o) = decide (n ∈ joined opens r) := by
    rw [Bool.eq_iff_iff, List.any_eq_true, decide_eq_true_iff]
    simp only [joined, List.mem_map, List.mem_filter, Bool.and_eq_true, decide_eq_true_eq]
    exact ⟨fun ⟨o, at_, is, shared⟩ => ⟨o, ⟨at_, shared⟩, is⟩, fun ⟨o, ⟨at_, shared⟩, is⟩ => ⟨o, at_, is, shared⟩⟩
  unfold joining
  rw [List.filter_append]
  refine congrArg _ ?_
  by_cases here : n ∈ joined opens r <;> simp [same, here]

/-- A run joins no open defect, or one. -/
theorem loose_or_joined (distinct : (opens.map OpenDefect.number).Nodup)
    (one : ∀ o ∈ opens, ∀ o' ∈ opens, shares r o = true → shares r o' = true → o = o') :
    loose opens r = true ∨ loose opens r = false ∧ ∃ o ∈ opens, joined opens r = [o.number] := by
  have equal : ∀ o ∈ opens.filter (shares r), ∀ o' ∈ opens.filter (shares r), o = o' := fun o mem o' mem' => by
    obtain ⟨at_, shared⟩ := List.mem_filter.1 mem
    obtain ⟨at_', shared'⟩ := List.mem_filter.1 mem'
    exact one o at_ o' at_' shared shared'
  have nodup : (opens.filter (shares r)).Nodup := (List.Nodup.of_map _ distinct).filter _
  unfold joined
  cases sharers : opens.filter (shares r) with
  | nil =>
    refine .inl (List.all_eq_true.2 fun o mem => ?_)
    simpa using List.filter_eq_nil_iff.1 sharers o mem
  | cons o rest =>
    rw [sharers] at equal nodup
    obtain ⟨at_, shared⟩ := List.mem_filter.1 (sharers ▸ List.mem_cons_self : o ∈ opens.filter (shares r))
    have alone : rest = [] := List.eq_nil_iff_forall_not_mem.2 fun o' mem =>
      (List.nodup_cons.1 nodup).1 (equal o List.mem_cons_self o' (List.mem_cons_of_mem o mem) ▸ mem)
    refine .inr ⟨List.all_eq_false.2 ⟨o, at_, by simp [shared]⟩, o, at_, by rw [alone]; rfl⟩

/-- A run that joins none makes a group of its own. -/
theorem groupsOf_loose (groups : GroupsOf opens rs gs) (free : loose opens r = true) :
    GroupsOf opens (rs ++ [r]) (gs ++ [single r]) := by
  obtain ⟨⟨simple, distinct⟩, runs, rest⟩ := groups
  refine ⟨⟨fun g mem => ?_, ?_⟩, fun n => ?_, ?_⟩
  · rcases List.mem_append.1 mem with mem | mem
    · exact simple g mem
    · rw [List.mem_singleton.1 mem]
      exact ⟨List.cons_ne_nil r [], .inl rfl⟩
  · simpa [single] using distinct
  · rw [runsOf_append, runs, joining_append, joined_loose free, runsOf_singleton]
    rfl
  · rw [looseOf_append, rest, looseOf_singleton, List.filter_append]
    simp [single, free]

/-- A run that joins an open defect with no group yet makes its group. -/
theorem groupsOf_begun (groups : GroupsOf opens rs gs) (at_ : o ∈ opens) (joins : joined opens r = [o.number])
    (tied : loose opens r = false) (new : ∀ g ∈ gs, o.number ∉ g.defects) :
    GroupsOf opens (rs ++ [r]) (gs ++ [{ runs := [r], defects := [o.number] }]) := by
  obtain ⟨⟨simple, distinct⟩, runs, rest⟩ := groups
  refine ⟨⟨fun g mem => ?_, ?_⟩, fun n => ?_, ?_⟩
  · rcases List.mem_append.1 mem with mem | mem
    · exact simple g mem
    · rw [List.mem_singleton.1 mem]
      exact ⟨List.cons_ne_nil r [], .inr ⟨o, at_, rfl⟩⟩
  · rw [List.flatMap_append]
    refine List.nodup_append.2 ⟨distinct, by simp, fun n mem n' mem' => ?_⟩
    obtain ⟨g, there, mem⟩ := List.mem_flatMap.1 mem
    have is : n' = o.number := by simpa using mem'
    exact fun eq => new g there (is ▸ eq ▸ mem)
  · rw [runsOf_append, runs, joining_append, joins, runsOf_singleton]
  · rw [looseOf_append, rest, looseOf_singleton, List.filter_append]
    simp [tied]

/-- A run that joins an open defect with a group joins the group. -/
theorem groupsOf_joined (groups : GroupsOf opens rs (gs ++ g :: gs')) (joins : joined opens r = [n]) (tied : loose opens r = false)
    (here : g.defects = [n]) (other : ∀ g ∈ gs', n ∉ g.defects) :
    GroupsOf opens (rs ++ [r]) (gs ++ { runs := g.runs ++ [r], defects := [n] } :: gs') := by
  obtain ⟨⟨simple, distinct⟩, runs, rest⟩ := groups
  have cons (g : Group) : gs ++ g :: gs' = gs ++ ([g] ++ gs') := rfl
  refine ⟨⟨fun x mem => ?_, ?_⟩, fun k => ?_, ?_⟩
  · obtain ⟨-, defects⟩ := simple g (List.mem_append_right gs List.mem_cons_self)
    rcases List.mem_append.1 mem with mem | mem
    · exact simple x (List.mem_append_left _ mem)
    · rcases List.mem_cons.1 mem with rfl | mem
      · exact ⟨List.append_ne_nil_of_right_ne_nil _ (List.cons_ne_nil r []), here ▸ defects⟩
      · exact simple x (List.mem_append_right gs (List.mem_cons_of_mem g mem))
  · simpa [here] using distinct
  · rw [joining_append, ← runs, joins, cons, cons, runsOf_append, runsOf_append, runsOf_append, runsOf_append, runsOf_singleton,
      runsOf_singleton, here]
    by_cases is : k ∈ [n]
    · rw [List.mem_singleton.1 is, runsOf_eq_nil other]
      simp
    · simp [is]
  · rw [List.filter_append, ← rest, cons, cons, looseOf_append, looseOf_append, looseOf_append, looseOf_append,
      looseOf_singleton, looseOf_singleton, here]
    simp [tied]

/-- A run that joins a defect of one earlier group joins that group. -/
theorem addToGroups_meets (before : ∀ x ∈ gs, meets opens r x = false) (hit : meets opens r g = true)
    (after : ∀ x ∈ gs', meets opens r x = false) : addToGroups opens (gs ++ g :: gs') r =
      gs ++ { runs := g.runs ++ [r], defects := (g.defects ++ joined opens r).eraseDups } :: gs' := by
  have missed : ∀ x ∈ gs, (!meets opens r x) = true := fun x mem => by rw [before x mem]; rfl
  have kept : gs'.filter (fun x => !meets opens r x) = gs' := List.filter_eq_self.2 fun x mem => by rw [after x mem]; rfl
  have none {l : List Group} (all : ∀ x ∈ l, meets opens r x = false) : l.filter (meets opens r) = [] :=
    List.filter_eq_nil_iff.2 fun x mem => by rw [all x mem]; decide
  rw [addToGroups_eq, List.takeWhile_append_of_pos missed, List.dropWhile_append_of_pos missed, List.filter_append,
    none before]
  simp [hit, kept, none after]

/-- The next run, of whatever kind. -/
theorem groupsOf_addToGroups (distinct : (opens.map OpenDefect.number).Nodup) (groups : GroupsOf opens rs gs)
    (one : ∀ o ∈ opens, ∀ o' ∈ opens, shares r o = true → shares r o' = true → o = o') :
    GroupsOf opens (rs ++ [r]) (addToGroups opens gs r) := by
  rcases loose_or_joined distinct one with free | ⟨tied, o, at_, joins⟩
  · rw [addToGroups_loose free]
    exact groupsOf_loose groups free
  · have meets_iff (g : Group) : meets opens r g = true ↔ o.number ∈ g.defects := by simp [meets, joins]
    have misses_iff (g : Group) : meets opens r g = false ↔ o.number ∉ g.defects := by rw [← meets_iff, Bool.not_eq_true]
    by_cases new : ∀ g ∈ gs, o.number ∉ g.defects
    · rw [addToGroups_apart fun g mem => (misses_iff g).2 (new g mem), joins]
      exact groupsOf_begun groups at_ joins tied new
    · push Not at new
      obtain ⟨g, mem, hit⟩ := new
      obtain ⟨before, after, rfl⟩ := List.append_of_mem mem
      have ⟨⟨simple, once⟩, _⟩ := groups
      have here : g.defects = [o.number] := by
        obtain ⟨-, none | ⟨o', -, is⟩⟩ := simple g mem
        · rw [none] at hit
          cases hit
        · rw [is] at hit ⊢
          rw [List.mem_singleton.1 hit]
      rw [List.flatMap_append, List.flatMap_cons, here, List.nodup_append] at once
      obtain ⟨-, later, apart⟩ := once
      have before' : ∀ x ∈ before, o.number ∉ x.defects := fun x mem number =>
        apart _ (List.mem_flatMap.2 ⟨x, mem, number⟩) _ List.mem_cons_self rfl
      have after' : ∀ x ∈ after, o.number ∉ x.defects := fun x mem number =>
        (List.nodup_cons.1 later).1 (List.mem_flatMap.2 ⟨x, mem, number⟩)
      rw [addToGroups_meets (fun x mem => (misses_iff x).2 (before' x mem)) ((meets_iff g).2 hit)
        fun x mem => (misses_iff x).2 (after' x mem)]
      have erased : (g.defects ++ joined opens r).eraseDups = [o.number] := by
        rw [here, joins]
        simp [List.eraseDups_cons]
      rw [erased]
      exact groupsOf_joined groups joins tied here after'

/-- The groups of a line on which no run joins two open defects. -/
theorem groupsOf_groupRuns (distinct : (opens.map OpenDefect.number).Nodup)
    (one : ∀ r ∈ rs, ∀ o ∈ opens, ∀ o' ∈ opens, shares r o = true → shares r o' = true → o = o') :
    GroupsOf opens rs (groupRuns opens rs) := by
  induction rs using List.reverseRecOn with
  | nil => exact ⟨⟨fun g mem => absurd mem List.not_mem_nil, List.nodup_nil⟩, fun n => rfl, rfl⟩
  | append_singleton rs r ih =>
    have next := groupsOf_addToGroups distinct (ih fun x mem => one x (List.mem_append_left [r] mem))
      (one r (List.mem_append_right rs List.mem_cons_self))
    unfold groupRuns at next ⊢
    rw [List.foldl_append]
    exact next

/-! ### What such groups do (R148) -/

/-- t when the open defects have taken the runs of their groups. -/
def joinedTo (y : Nat) (t : Tracker) (runs : Nat → List Run) : Tracker :=
  { t with
    list := t.list.map fun d => grown y d [] (runs d.number)
    opens := t.opens.map fun o =>
      if runs o.number = [] then o else { o with ranges := (runs o.number).map fun r => (r.first, r.last) } }

theorem grown_nil (y : Nat) (d : DefectRecord) (gone : List DefectRecord) : grown y d gone [] = d := if_pos rfl

theorem joinedTo_none (y : Nat) (t : Tracker) : joinedTo y t (fun _ => []) = t := by
  simp [joinedTo, grown_nil]

theorem joinInto_nil (y : Nat) (t : Tracker) (n : Nat) (some : rs ≠ []) : t.joinInto y n [] rs =
    joinedTo y t fun k => if k = n then rs else [] := by
  have records (d : DefectRecord) : (if d.number = n then grown y d [] rs else d) =
      grown y d [] (if d.number = n then rs else []) := by
    split
    · rfl
    · rw [grown_nil]
  have places (o : OpenDefect) : (if (if o.number = n then rs else []) = [] then o
      else { o with ranges := (if o.number = n then rs else []).map fun r => (r.first, r.last) }) =
        if o.number = n then { o with ranges := rs.map fun r => (r.first, r.last) } else o := by
    by_cases here : o.number = n <;> simp [here, some]
  rw [joinInto_eq y t n [] some]
  simp only [List.contains_nil, Bool.not_false, List.filter_true, List.filter_false, List.length_nil, Nat.add_zero, records,
    joinedTo, places]

/-- Joins to the same records in turn are one. -/
theorem joinedTo_joinedTo {runs runs' : Nat → List Run} (apart : ∀ n, runs n = [] ∨ runs' n = []) :
    joinedTo y (joinedTo y t runs) runs' = joinedTo y t fun n => runs n ++ runs' n := by
  unfold joinedTo
  simp only [List.map_map, Tracker.mk.injEq, and_true]
  refine ⟨List.map_congr_left fun d _ => ?_, List.map_congr_left fun o _ => ?_⟩
  · simp only [Function.comp_apply, grown_number]
    rcases apart d.number with none | none <;> simp [none, grown_nil]
  · simp only [Function.comp_apply]
    rcases apart o.number with none | none
    · simp [none]
    · by_cases some : runs o.number = [] <;> simp [some, none]

/-- The joining of runs to older defects leaves the new ones as they are. -/
theorem joinedTo_opened {runs : Nat → List Run} (older : ∀ n, t.nextNumber ≤ n → runs n = []) (y : Nat) (rs : List Run) :
    joinedTo y (opened y t rs) runs = opened y (joinedTo y t runs) rs := by
  have new (i : Nat) : runs (t.nextNumber + i) = [] := older _ (Nat.le_add_right _ _)
  have mapped {α β : Type} (f : β → β) (g : Nat → α → β) (l : List α) (same : ∀ i a, f (g i a) = g i a) :
      (l.mapIdx g).map f = l.mapIdx g := List.ext_getElem (by simp) fun i _ _ => by simp [same]
  unfold joinedTo opened
  rw [List.map_append, List.map_append, mapped _ _ _ fun i r => ?_, mapped _ _ _ fun i r => if_pos (new i), List.length_map]
  simp only [new, grown_nil]

theorem opened_append (within : t.untracked ≤ 65535) (y : Nat) (rs rs' : List Run) :
    opened y (opened y t rs) rs' = opened y t (rs ++ rs') := by
  rw [← foldl_openFor within y (rs ++ rs'), List.foldl_append, foldl_openFor within, foldl_openFor (Nat.min_le_right _ _)]

/-- Every defect takes the runs of its group, and the runs of the other groups are new defects. -/
theorem foldl_takeGroup_simple (within : t.untracked ≤ 65535) (below : ∀ o ∈ opens, o.number < t.nextNumber)
    (simple : Simple opens gs) (y : Nat) :
    gs.foldl (Tracker.takeGroup y) t = opened y (joinedTo y t (runsOf gs)) (looseOf gs) := by
  induction gs using List.reverseRecOn with
  | nil => exact ((congrArg (fun u => opened y u []) (joinedTo_none y t)).trans (opened_nil within y)).symm
  | append_singleton gs g ih =>
    obtain ⟨each, once⟩ := simple
    rw [List.flatMap_append, List.nodup_append] at once
    obtain ⟨earlier, -, apart⟩ := once
    have before := ih ⟨fun x mem => each x (List.mem_append_left [g] mem), earlier⟩
    obtain ⟨some, none | ⟨o, at_, here⟩⟩ := each g (List.mem_append_right gs List.mem_cons_self)
    · have runs : runsOf (gs ++ [g]) = runsOf gs := funext fun n => by
        rw [runsOf_append, runsOf_singleton]
        simp [none]
      have step (u : Tracker) : u.takeGroup y g = g.runs.foldl (Tracker.openFor y) u := by
        unfold Tracker.takeGroup
        simp only [none]
      rw [List.foldl_append, before, runs, looseOf_append, looseOf_singleton, if_pos none,
        ← opened_append (t := joinedTo y t (runsOf gs)) within]
      exact (step _).trans (foldl_openFor (Nat.min_le_right _ _) y g.runs)
    · have new : ∀ x ∈ gs, o.number ∉ x.defects := fun x mem number =>
        apart _ (List.mem_flatMap.2 ⟨x, mem, number⟩) o.number (by simp [here]) rfl
      have runs : runsOf (gs ++ [g]) = fun n => runsOf gs n ++ if n = o.number then g.runs else [] := funext fun n => by
        rw [runsOf_append, runsOf_singleton]
        simp [here]
      have step (u : Tracker) : u.takeGroup y g = joinedTo y u fun n => if n = o.number then g.runs else [] := by
        rw [takeGroup_oldest (oldest := o.number) y u (by simp [here]) (by simp [here]), ← joinInto_nil y u _ some, here]
        simp
      rw [List.foldl_append, before, runs, looseOf_append, looseOf_singleton, if_neg (by simp [here]), List.append_nil,
        ← joinedTo_joinedTo fun n => ?_]
      · exact (step _).trans (joinedTo_opened (t := joinedTo y t (runsOf gs))
          (fun n le => if_neg (Nat.ne_of_gt (Nat.lt_of_lt_of_le (below o at_) le))) y _)
      · by_cases is : n = o.number
        · exact .inl (is ▸ runsOf_eq_nil new)
        · exact .inr (if_neg is)

/-! ### The line matched (R148, R149) -/

/-- The new defects depend on the open ones by their number alone. -/
theorem opened_opens (y : Nat) (t : Tracker) (rs : List Run) {os : List OpenDefect} (length : os.length = t.opens.length) :
    opened y { t with opens := os } rs =
      { opened y t rs with opens := os ++ (opened y t rs).opens.drop t.opens.length } := by
  unfold opened
  simp only [length, List.drop_left]

/-- The defects that stay open: those that a run joins, and the new ones (R149). -/
def staysJoined (t : Tracker) (rs : List Run) (n : Nat) : Bool :=
  decide (joining t.opens rs n ≠ []) || decide (t.nextNumber ≤ n)

theorem joinedTo_seen (fits : TrackerFits y t) (rs : List Run) :
    ∀ d ∈ (joinedTo y t (joining t.opens rs)).list, d.lastLine = y ↔ staysJoined t rs d.number = true := fun d mem => by
  obtain ⟨-, -, below, -⟩ := fits
  obtain ⟨d, there, rfl⟩ := List.mem_map.1 mem
  obtain ⟨older, line⟩ := below d there
  have old : ¬ t.nextNumber ≤ d.number := Nat.not_le.2 older
  by_cases none : joining t.opens rs d.number = []
  · rw [none, grown_nil]
    exact iff_of_false (Nat.ne_of_lt line) (by simp [staysJoined, none, old])
  · exact iff_of_true (grown_lastLine d [] none) (by simp [staysJoined, none])

/-- Of the open defects, those that a run joins stay, with their new ranges (R148, R149). -/
theorem filter_staysJoined (older : ∀ o ∈ t.opens, o.number < t.nextNumber) (rs : List Run) :
    ((t.opens.map fun o => if joining t.opens rs o.number = [] then o
      else { o with ranges := (joining t.opens rs o.number).map fun r => (r.first, r.last) }).filter
        fun o => staysJoined t rs o.number) =
    t.opens.filterMap fun o => if joining t.opens rs o.number = [] then none
      else some { o with ranges := (joining t.opens rs o.number).map fun r => (r.first, r.last) } := by
  rw [← List.filterMap_eq_filter, List.filterMap_map]
  refine List.filterMap_congr fun o mem => ?_
  have old : ¬ t.nextNumber ≤ o.number := Nat.not_le.2 (older o mem)
  by_cases none : joining t.opens rs o.number = [] <;> simp [staysJoined, none, old, Option.guard]

/-- A new defect has a new number. -/
theorem opened_new (mem : o ∈ (opened y t rs).opens.drop t.opens.length) : t.nextNumber ≤ o.number := by
  unfold opened at mem
  rw [List.drop_left] at mem
  obtain ⟨i, lt, rfl⟩ := List.mem_mapIdx.1 mem
  exact Nat.le_add_right _ _

/-- A line on which no run joins two open defects (R148, R149). -/
theorem matchLine_joins (fits : TrackerFits y t)
    (one : ∀ r ∈ rs, ∀ o ∈ t.opens, ∀ o' ∈ t.opens, shares r o = true → shares r o' = true → o = o') :
    let u := opened y { t with list := t.list.map fun d => grown y d [] (joining t.opens rs d.number) } (rs.filter (loose t.opens))
    t.matchLine y rs = { u with
      opens := (t.opens.filterMap fun o =>
          if joining t.opens rs o.number = [] then none
          else some { o with ranges := (joining t.opens rs o.number).map fun r => (r.first, r.last) }) ++
        u.opens.drop t.opens.length } := by
  have ⟨distinct, _, below, backed, _, _, within⟩ := fits
  have older : ∀ o ∈ t.opens, o.number < t.nextNumber := fun o mem => by
    obtain ⟨d, there, same⟩ := backed o mem
    obtain ⟨number, -⟩ := below d there
    exact same ▸ number
  obtain ⟨simple, runs, rest⟩ := groupsOf_groupRuns distinct one
  have groups := foldl_takeGroup_simple within older simple y
  rw [funext runs, rest] at groups
  obtain ⟨-, -, -, backed', -⟩ := List.foldlRecOn (groupRuns t.opens rs) (Tracker.takeGroup y) (trackerFits_succ fits)
    fun _ fits g _ => trackerFits_takeGroup fits g
  rw [groups] at backed'
  have seen := opened_seen (stays := staysJoined t rs) (joinedTo_seen fits rs)
    (fun n le => by have le : t.nextNumber ≤ n := le; simp [staysJoined, le]) (rs.filter (loose t.opens))
  intro u
  have opens : opened y (joinedTo y t (joining t.opens rs)) (rs.filter (loose t.opens)) = { u with
      opens := (t.opens.map fun o => if joining t.opens rs o.number = [] then o
        else { o with ranges := (joining t.opens rs o.number).map fun r => (r.first, r.last) }) ++
          u.opens.drop t.opens.length } :=
    opened_opens y { t with list := t.list.map fun d => grown y d [] (joining t.opens rs d.number) } _ (List.length_map _)
  unfold Tracker.matchLine
  rw [groups, close_eq (stays := staysJoined t rs) backed' seen, opens]
  simp only [List.filter_append]
  rw [filter_staysJoined older rs, List.filter_eq_self.2 fun o mem => ?_]
  have new : t.nextNumber ≤ o.number :=
    opened_new (y := y) (t := { t with list := t.list.map fun d => grown y d [] (joining t.opens rs d.number) }) mem
  simp [staysJoined, new]

end Sys2Proof.Proofs
end

section
/-! SUPPORT. The runs of a compared line (R146). -/

namespace Sys2Proof.Proofs

open Sys2Proof.Machine Sys2Proof.Claims

variable {q e pre post a b a' b' : Nat} {flags : List (Option Int)} {r : Run} {rs : List Run}

/-! ### Raw runs (R146, step 1) -/

/-- The elements a to b. -/
def stretch (a b : Nat) : List Nat := List.range' a (b + 1 - a)

theorem mem_stretch : e ∈ stretch a b ↔ a ≤ e ∧ e ≤ b := by
  rw [stretch, List.mem_range'_1]
  omega

/-- The corrected deviations of those of these elements that are flagged. -/
def devsOf (flags : List (Option Int)) (es : List Nat) : List Int := es.filterMap fun e => flags.getD e none

theorem devsOf_append (es es' : List Nat) : devsOf flags (es ++ es') = devsOf flags es ++ devsOf flags es' :=
  List.filterMap_append ..

/-- The run is a maximal stretch of flagged elements with their deviations. -/
def RawRun (flags : List (Option Int)) (r : Run) : Prop :=
  KeptRaw 0 flags r.first r.last ∧ r.devs = devsOf flags (stretch r.first r.last)

theorem keptRaw_iff : KeptRaw q flags a b ↔ KeptRaw 0 flags a b ∧ q ≤ b + 1 - a := by
  unfold KeptRaw
  simp only [Nat.zero_le, and_true, and_assoc]

/-- Two maximal stretches with an element in common are one. -/
theorem keptRaw_unique (raw : KeptRaw 0 flags a b) (raw' : KeptRaw 0 flags a' b') (at_ : a ≤ e ∧ e ≤ b)
    (at_' : a' ≤ e ∧ e ≤ b') : a = a' ∧ b = b' := by
  obtain ⟨-, -, flagged, before, after, -⟩ := raw
  obtain ⟨-, -, flagged', before', after', -⟩ := raw'
  refine ⟨?_, ?_⟩
  · rcases Nat.lt_trichotomy a a' with lt | eq | lt
    · exact absurd (before' (by omega)) (flagged _ (by omega) (by omega))
    · exact eq
    · exact absurd (before (by omega)) (flagged' _ (by omega) (by omega))
  · rcases Nat.lt_trichotomy b b' with lt | eq | lt
    · exact absurd after (flagged' _ (by omega) (by omega))
    · exact eq
    · exact absurd after' (flagged _ (by omega) (by omega))

/-- A raw run has as many deviations as elements. -/
theorem rawRun_area (raw : RawRun flags r) : r.area = r.last + 1 - r.first := by
  obtain ⟨⟨-, -, flagged, -⟩, devs⟩ := raw
  have all : (devsOf flags (stretch r.first r.last)).length = (stretch r.first r.last).length :=
    List.filterMap_length_eq_length.2 fun e mem => by
      obtain ⟨le, le'⟩ := mem_stretch.1 mem
      exact Option.isSome_iff_ne_none.2 (flagged e le le')
  rw [Run.area, devs, all, stretch, List.length_range']

/-- The stretch that is being read: its elements from a on are flagged, and none ends at a. -/
def Reading (flags : List (Option Int)) (a : Nat) (cur : List Int) : Prop :=
  (∀ e, a ≤ e → e < a + cur.length → flags.getD e none ≠ none) ∧ (1 ≤ a → flags.getD (a - 1) none = none) ∧
  cur = devsOf flags (List.range' a cur.length)

/-- The raw runs from element a on. -/
def RawFrom (flags : List (Option Int)) (a : Nat) (rs : List Run) : Prop :=
  (∀ r ∈ rs, RawRun flags r ∧ a ≤ r.first) ∧ rs.Pairwise (fun r r' => r.last + 1 < r'.first) ∧
  ∀ e, a ≤ e → flags.getD e none ≠ none → ∃ r ∈ rs, r.first ≤ e ∧ e ≤ r.last

/-- A stretch read to its end is a raw run, if it has any element. -/
theorem rawFrom_closed {cur : List Int} (reading : Reading flags a cur)
    (ended : flags.getD (a + cur.length) none = none) (later : RawFrom flags (a + cur.length + 1) rs) :
    RawFrom flags a
      ((if cur = [] then [] else [{ first := a + cur.length - cur.length, last := a + cur.length - 1, devs := cur }]) ++ rs) := by
  obtain ⟨flagged, before, devs⟩ := reading
  obtain ⟨raw, apart, all⟩ := later
  have after : ∀ e, a + cur.length ≤ e → flags.getD e none ≠ none → ∃ r ∈ rs, r.first ≤ e ∧ e ≤ r.last := fun e le here =>
    all e (Nat.lt_of_le_of_ne le fun eq => here (eq ▸ ended)) here
  by_cases none : cur = []
  · rw [if_pos none, List.nil_append]
    refine ⟨fun r mem => ?_, apart, fun e le here => after e (by simpa [none] using le) here⟩
    obtain ⟨is, le⟩ := raw r mem
    exact ⟨is, by omega⟩
  · have pos : 0 < cur.length := List.length_pos_iff.2 none
    have range : a + cur.length - 1 + 1 = a + cur.length := by omega
    have kept : KeptRaw 0 flags a (a + cur.length - 1) := by
      refine ⟨by omega, ?_, fun e le le' => flagged e le (by omega), before, range ▸ ended, Nat.zero_le _⟩
      by_contra out
      exact flagged (a + cur.length - 1) (by omega) (by omega) (List.getD_eq_default _ _ (Nat.not_lt.1 out))
    have first : RawRun flags { first := a, last := a + cur.length - 1, devs := cur } := by
      refine ⟨kept, ?_⟩
      rw [stretch, range, Nat.add_sub_cancel_left]
      exact devs
    rw [if_neg none, Nat.add_sub_cancel, List.singleton_append]
    refine ⟨fun r mem => ?_, List.pairwise_cons.2 ⟨fun r mem => ?_, apart⟩, fun e le here => ?_⟩
    · rcases List.mem_cons.1 mem with rfl | mem
      · exact ⟨first, Nat.le_refl a⟩
      · obtain ⟨is, le⟩ := raw r mem
        exact ⟨is, by omega⟩
    · obtain ⟨-, le⟩ := raw r mem
      show a + cur.length - 1 + 1 < r.first
      omega
    · by_cases inside : e < a + cur.length
      · exact ⟨_, List.mem_cons_self, le, by show e ≤ a + cur.length - 1; omega⟩
      · obtain ⟨r, mem, at_⟩ := after e (Nat.not_lt.1 inside) here
        exact ⟨r, List.mem_cons_of_mem _ mem, at_⟩

theorem reading_nil (ended : 1 ≤ a → flags.getD (a - 1) none = none) : Reading flags a [] :=
  ⟨fun _ le lt => absurd le (Nat.not_le.2 lt), ended, rfl⟩

/-- One more flagged element is read. -/
theorem reading_append {cur : List Int} {d : Int} (reading : Reading flags a cur)
    (next : flags.getD (a + cur.length) none = some d) : Reading flags a (cur ++ [d]) := by
  obtain ⟨flagged, before, devs⟩ := reading
  refine ⟨fun e le lt => ?_, before, ?_⟩
  · rw [List.length_append, List.length_singleton] at lt
    by_cases last : e = a + cur.length
    · rw [last, next]
      exact Option.some_ne_none d
    · exact flagged e le (by omega)
  · rw [List.length_append, List.length_singleton, List.range'_1_concat, devsOf_append, ← devs]
    simp only [devsOf, List.filterMap_cons, next, List.filterMap_nil]

/-- The raw runs of a line, from the stretch that is being read on (R146). -/
theorem rawFrom_rawRuns (rest : List (Option Int)) {cur : List Int} (reading : Reading flags a cur)
    (left : flags.drop (a + cur.length) = rest) : RawFrom flags a (rawRuns (a + cur.length) cur rest) := by
  induction rest generalizing a cur with
  | nil =>
    have beyond : flags.length ≤ a + cur.length := List.drop_eq_nil_iff.1 left
    have none (e : Nat) (le : a + cur.length ≤ e) : flags.getD e none = none := List.getD_eq_default _ _ (beyond.trans le)
    have closed := rawFrom_closed reading (none _ (Nat.le_refl _)) (rs := [])
      ⟨fun r mem => absurd mem List.not_mem_nil, List.Pairwise.nil, fun e le here => absurd (none e (by omega)) here⟩
    rwa [List.append_nil] at closed
  | cons f rest ih =>
    have here : flags.getD (a + cur.length) none = f := by
      have at_ := congrArg List.head? left
      rw [List.head?_drop] at at_
      rw [List.getD_eq_getElem?_getD, at_]
      rfl
    have next : flags.drop (a + cur.length + 1) = rest := by rw [← List.tail_drop, left]; rfl
    cases f with
    | none => exact rawFrom_closed reading here (ih (reading_nil fun _ => here) next)
    | some d =>
      have read := ih (reading_append reading here) (by rw [List.length_append]; exact next)
      rw [List.length_append] at read
      exact read

/-- The raw runs of a line: all its maximal stretches of flagged elements, from left to right (R146). -/
theorem rawFrom_zero (flags : List (Option Int)) : RawFrom flags 0 (rawRuns 0 [] flags) :=
  rawFrom_rawRuns flags (reading_nil fun le => absurd le (Nat.not_succ_le_zero 0)) rfl

/-- The raw runs that are kept: those of q elements at least (R146, step 2). -/
def keptRuns (q : Nat) (flags : List (Option Int)) : List Run := (rawRuns 0 [] flags).filter fun r => decide (q ≤ r.area)

theorem keptRuns_raw (mem : r ∈ keptRuns q flags) : RawRun flags r := by
  obtain ⟨raw, -⟩ := rawFrom_zero flags
  exact (raw r (List.mem_of_mem_filter mem)).1

/-- The kept raw runs are those of the claims. -/
theorem keptRaw_iff_mem : KeptRaw q flags a b ↔ ∃ r ∈ keptRuns q flags, r.first = a ∧ r.last = b := by
  obtain ⟨raw, -, all⟩ := rawFrom_zero flags
  rw [keptRaw_iff]
  constructor
  · rintro ⟨is, long⟩
    have ⟨le, _, flagged, _⟩ := is
    obtain ⟨r, mem, at_⟩ := all a (Nat.zero_le a) (flagged a (Nat.le_refl a) le)
    obtain ⟨rawRun, -⟩ := raw r mem
    have ⟨is', _⟩ := rawRun
    obtain ⟨rfl, rfl⟩ := keptRaw_unique is is' ⟨Nat.le_refl a, le⟩ at_
    exact ⟨r, List.mem_filter.2 ⟨mem, decide_eq_true (by rw [rawRun_area rawRun]; exact long)⟩, rfl, rfl⟩
  · rintro ⟨r, mem, rfl, rfl⟩
    have rawRun := keptRuns_raw mem
    have ⟨is, _⟩ := rawRun
    exact ⟨is, rawRun_area rawRun ▸ of_decide_eq_true (List.mem_filter.1 mem).2⟩

end Sys2Proof.Proofs
end

section
/-! CLAIMS SETTLED. Runs, and their matching into defects (R146 to R149; log entry 14). -/

namespace Sys2Proof.Proofs

open Sys2Proof.Machine Sys2Proof.Claims

variable {q e pre post : Nat} {flags : List (Option Int)} {r r' : Run} {rs : List Run} {ps : List (Run × List Nat)}

/-! ### Extended runs, merged (R146, steps 3 and 4) -/

/-- A run extended and clipped to the line (R146). -/
def extended (flags : List (Option Int)) (pre post : Nat) (r : Run) : Run := r.extend pre post flags.length

/-- The extended runs merge into these, each with the flagged elements that it carries: they stand apart, cover what the
extended runs do, and carry each flagged element once. -/
def Merges (flags : List (Option Int)) (pre post : Nat) (rs : List Run) (ps : List (Run × List Nat)) : Prop :=
  ps.Pairwise (fun p p' => p.1.last + 1 < p'.1.first) ∧
  (∀ e, (∃ p ∈ ps, p.1.first ≤ e ∧ e ≤ p.1.last) ↔
    ∃ r ∈ rs, (extended flags pre post r).first ≤ e ∧ e ≤ (extended flags pre post r).last) ∧
  (∀ p ∈ ps, p.1.devs ≠ [] ∧ p.1.devs = devsOf flags p.2 ∧ (∀ e ∈ p.2, p.1.first ≤ e ∧ e ≤ p.1.last) ∧
    ∃ r ∈ rs, p.1.first = (extended flags pre post r).first ∧ (extended flags pre post r).last ≤ p.1.last) ∧
  ps.flatMap Prod.snd = rs.flatMap fun r => stretch r.first r.last

/-- An extended run spans its raw run (R146). -/
theorem extended_spans (raw : RawRun flags r) (pre post : Nat) :
    (extended flags pre post r).first ≤ r.first ∧ r.first ≤ r.last ∧ r.last ≤ (extended flags pre post r).last := by
  obtain ⟨⟨le, within, -⟩, -⟩ := raw
  refine ⟨Nat.sub_le _ _, le, ?_⟩
  show r.last ≤ min (r.last + post) (flags.length - 1)
  omega

theorem rawRun_devs (raw : RawRun flags r) : r.devs ≠ [] := fun none => by
  have area := rawRun_area raw
  obtain ⟨⟨le, -⟩, -⟩ := raw
  rw [Run.area, none, List.length_nil] at area
  omega

/-- Runs in order extend to runs in order. -/
theorem extended_mono (raw : RawRun flags r) (raw' : RawRun flags r') (apart : r.last + 1 < r'.first) (pre post : Nat) :
    (extended flags pre post r).first ≤ (extended flags pre post r').first ∧
    (extended flags pre post r).last ≤ (extended flags pre post r').last := by
  obtain ⟨⟨le, -⟩, -⟩ := raw
  obtain ⟨⟨le', -⟩, -⟩ := raw'
  show r.first - pre ≤ r'.first - pre ∧ min (r.last + post) (flags.length - 1) ≤ min (r'.last + post) (flags.length - 1)
  omega

/-- A run to the left of all the others, and apart from them when extended. -/
theorem merges_apart (merges : Merges flags pre post rs ps) (raw : RawRun flags r)
    (far : ∀ p ∈ ps, (extended flags pre post r).last + 1 < p.1.first) :
    Merges flags pre post (r :: rs) ((extended flags pre post r, stretch r.first r.last) :: ps) := by
  obtain ⟨apart, covers, carries, all⟩ := merges
  refine ⟨List.pairwise_cons.2 ⟨far, apart⟩, fun e => ?_, fun p mem => ?_, ?_⟩
  · simp only [List.exists_mem_cons_iff, covers]
  · rcases List.mem_cons.1 mem with rfl | mem
    · obtain ⟨first, -, last⟩ := extended_spans raw pre post
      obtain ⟨-, devs⟩ := id raw
      refine ⟨rawRun_devs (r := r) raw, devs, fun e at_ => ?_, r, List.mem_cons_self, rfl, Nat.le_refl _⟩
      obtain ⟨le, le'⟩ := mem_stretch.1 at_
      exact ⟨first.trans le, le'.trans last⟩
    · obtain ⟨some, devs, within, x, at_, spans⟩ := carries p mem
      exact ⟨some, devs, within, x, List.mem_cons_of_mem r at_, spans⟩
  · rw [List.flatMap_cons, List.flatMap_cons, all]

/-- A run to the left of all the others, that overlaps or touches the first of them when extended. -/
theorem merges_touching {p : Run × List Nat} (merges : Merges flags pre post rs (p :: ps)) (raw : RawRun flags r)
    (others : ∀ x ∈ rs, RawRun flags x ∧ r.last + 1 < x.first) (near : p.1.first ≤ (extended flags pre post r).last + 1) :
    Merges flags pre post (r :: rs)
      (({ first := (extended flags pre post r).first, last := max (extended flags pre post r).last p.1.last,
          devs := r.devs ++ p.1.devs }, stretch r.first r.last ++ p.2) :: ps) := by
  obtain ⟨apart, covers, carries, all⟩ := merges
  obtain ⟨far, apart⟩ := List.pairwise_cons.1 apart
  obtain ⟨first, le, last⟩ := extended_spans raw pre post
  obtain ⟨-, devs', within', x, at_, head, tail⟩ := carries p List.mem_cons_self
  obtain ⟨raw', right⟩ := others x at_
  obtain ⟨firsts, lasts⟩ := extended_mono raw raw' right pre post
  have reach : max (extended flags pre post r).last p.1.last = p.1.last := Nat.max_eq_right (lasts.trans tail)
  rw [reach]
  refine ⟨List.pairwise_cons.2 ⟨far, apart⟩, fun e => ?_, fun y mem => ?_, ?_⟩
  · have joined : ((extended flags pre post r).first ≤ e ∧ e ≤ p.1.last) ↔
        ((extended flags pre post r).first ≤ e ∧ e ≤ (extended flags pre post r).last) ∨ p.1.first ≤ e ∧ e ≤ p.1.last := by
      omega
    rw [List.exists_mem_cons_iff, List.exists_mem_cons_iff, ← covers, List.exists_mem_cons_iff, joined, or_assoc]
  · rcases List.mem_cons.1 mem with rfl | mem
    · obtain ⟨-, devs⟩ := id raw
      refine ⟨List.append_ne_nil_of_left_ne_nil (rawRun_devs raw) _, ?_, fun e at_ => ?_, r, List.mem_cons_self, rfl,
        lasts.trans tail⟩
      · show r.devs ++ p.1.devs = devsOf flags (stretch r.first r.last ++ p.2)
        rw [devsOf_append, devs, devs']
      · show (extended flags pre post r).first ≤ e ∧ e ≤ p.1.last
        rcases List.mem_append.1 at_ with at_ | at_
        · obtain ⟨le, le'⟩ := mem_stretch.1 at_
          omega
        · obtain ⟨le, le'⟩ := within' e at_
          omega
    · obtain ⟨some, devs, within, x, at_, spans⟩ := carries y (List.mem_cons_of_mem p mem)
      exact ⟨some, devs, within, x, List.mem_cons_of_mem r at_, spans⟩
  · rw [List.flatMap_cons, List.flatMap_cons, ← all, List.flatMap_cons, List.append_assoc]

theorem merges_ends (raw : ∀ r ∈ rs, RawRun flags r) (merges : Merges flags pre post rs ps) {p : Run × List Nat} (mem : p ∈ ps) :
    p.1.first ≤ p.1.last := by
  obtain ⟨-, -, carries, -⟩ := merges
  obtain ⟨-, -, -, r, at_, first, last⟩ := carries p mem
  obtain ⟨le, le', le''⟩ := extended_spans (raw r at_) pre post
  omega

/-- Extended runs that stand in order merge as step 4 of R146 says. -/
theorem merges_foldr (raw : ∀ r ∈ rs, RawRun flags r) (apart : rs.Pairwise fun r r' => r.last + 1 < r'.first) (pre post : Nat) :
    ∃ ps, ps.map Prod.fst = (rs.map (extended flags pre post)).foldr mergeRun [] ∧ Merges flags pre post rs ps := by
  induction rs with
  | nil => exact ⟨[], rfl, List.Pairwise.nil, fun e => by simp, fun p mem => absurd mem List.not_mem_nil, rfl⟩
  | cons r rs ih =>
    obtain ⟨later, apart⟩ := List.pairwise_cons.1 apart
    have rawHere := raw r List.mem_cons_self
    have rawLater : ∀ x ∈ rs, RawRun flags x := fun x mem => raw x (List.mem_cons_of_mem r mem)
    obtain ⟨ps, is, merges⟩ := ih rawLater apart
    rw [List.map_cons, List.foldr_cons, ← is]
    cases ps with
    | nil => exact ⟨_, rfl, merges_apart merges rawHere fun p mem => absurd mem List.not_mem_nil⟩
    | cons p ps =>
      by_cases near : p.1.first ≤ (extended flags pre post r).last + 1
      · exact ⟨_, (if_pos near).symm, merges_touching merges rawHere (fun x mem => ⟨rawLater x mem, later x mem⟩) near⟩
      · refine ⟨_, (if_neg near).symm, merges_apart merges rawHere fun y mem => ?_⟩
        have ends := merges_ends rawLater merges (List.mem_cons_self (a := p))
        obtain ⟨apart, -⟩ := merges
        rcases List.mem_cons.1 mem with rfl | mem
        · exact Nat.not_le.1 near
        · have right := (List.pairwise_cons.1 apart).1 y mem
          omega

/-! ### The runs of a line (R146) -/

/-- The kept elements of a line: those of its kept raw runs. -/
def Kept (q : Nat) (flags : List (Option Int)) (e : Nat) : Prop := ∃ a b, KeptRaw q flags a b ∧ a ≤ e ∧ e ≤ b

theorem kept_iff_mem : Kept q flags e ↔ e ∈ (keptRuns q flags).flatMap fun r => stretch r.first r.last := by
  simp only [Kept, keptRaw_iff_mem, List.mem_flatMap, mem_stretch]
  constructor
  · rintro ⟨_, _, ⟨r, mem, rfl, rfl⟩, at_⟩
    exact ⟨r, mem, at_⟩
  · rintro ⟨r, mem, at_⟩
    exact ⟨_, _, ⟨r, mem, rfl, rfl⟩, at_⟩

theorem keptRuns_apart (q : Nat) (flags : List (Option Int)) :
    (keptRuns q flags).Pairwise fun r r' => r.last + 1 < r'.first := by
  obtain ⟨-, apart, -⟩ := rawFrom_zero flags
  exact apart.filter _

/-- The runs of a line, each with the kept elements that it carries. -/
theorem formRuns_merges (set : InspectionSettings) (flags : List (Option Int)) :
    ∃ ps, ps.map Prod.fst = formRuns set flags ∧ Merges flags set.pre set.post (keptRuns set.q flags) ps :=
  merges_foldr (fun _ mem => keptRuns_raw mem) (keptRuns_apart set.q flags) set.pre set.post

/-- Of runs that stand apart, two with an element in common are one. -/
theorem eq_of_apart (apart : ps.Pairwise fun p p' => p.1.last + 1 < p'.1.first) {p p' : Run × List Nat} (mem : p ∈ ps)
    (mem' : p' ∈ ps) (at_ : p.1.first ≤ e ∧ e ≤ p.1.last) (at_' : p'.1.first ≤ e ∧ e ≤ p'.1.last) : p = p' := by
  induction ps with
  | nil => cases mem
  | cons x ps ih =>
    obtain ⟨right, apart⟩ := List.pairwise_cons.1 apart
    rcases List.mem_cons.1 mem with rfl | later
    · rcases List.mem_cons.1 mem' with rfl | later'
      · rfl
      · have := right p' later'
        omega
    · rcases List.mem_cons.1 mem' with rfl | later'
      · have := right p later
        omega
      · exact ih apart later later'

/-- A run carries the kept elements in its range, from left to right. -/
theorem merges_carries (merges : Merges flags pre post (keptRuns q flags) ps) {p : Run × List Nat} (mem : p ∈ ps) :
    p.2.Pairwise (· < ·) ∧ ∀ e, e ∈ p.2 ↔ p.1.first ≤ e ∧ e ≤ p.1.last ∧ Kept q flags e := by
  obtain ⟨apart, -, carries, all⟩ := merges
  have sorted : (ps.flatMap Prod.snd).Pairwise (· < ·) := by
    rw [all, List.pairwise_flatMap]
    refine ⟨fun r _ => List.pairwise_lt_range' .., (keptRuns_apart q flags).imp fun right e at_ e' at_' => ?_⟩
    obtain ⟨-, le⟩ := mem_stretch.1 at_
    obtain ⟨le', -⟩ := mem_stretch.1 at_'
    omega
  obtain ⟨each, -⟩ := List.pairwise_flatMap.1 sorted
  have within {y : Run × List Nat} (at_ : y ∈ ps) : ∀ e ∈ y.2, y.1.first ≤ e ∧ e ≤ y.1.last := (carries y at_).2.2.1
  refine ⟨each p mem, fun e => ⟨fun at_ => ?_, fun ⟨le, le', kept⟩ => ?_⟩⟩
  · obtain ⟨le, le'⟩ := within mem e at_
    exact ⟨le, le', kept_iff_mem.2 (all ▸ List.mem_flatMap.2 ⟨p, mem, at_⟩)⟩
  · obtain ⟨y, there, at_⟩ := List.mem_flatMap.1 (all ▸ kept_iff_mem.1 kept)
    have same := eq_of_apart apart there mem (within there e at_) ⟨le, le'⟩
    exact same ▸ at_

theorem peak_eq (some : r.devs ≠ []) : (∀ d ∈ r.devs, d.natAbs ≤ r.peak) ∧ ∃ d ∈ r.devs, r.peak = d.natAbs := by
  obtain ⟨m, max⟩ := Option.ne_none_iff_exists'.1
    (mt List.max?_eq_none_iff.1 (mt List.map_eq_nil_iff.1 some) : (r.devs.map Int.natAbs).max? ≠ none)
  obtain ⟨at_, most⟩ := List.max?_eq_some_iff.1 max
  have is : r.peak = m := by
    unfold Run.peak
    rw [List.foldl_max, max]
    exact Nat.zero_max m
  obtain ⟨d, mem, rfl⟩ := List.mem_map.1 at_
  exact ⟨fun d mem => is ▸ most _ (List.mem_map_of_mem mem), d, mem, is⟩

theorem sign_eq (r : Run) :
    r.sign = if ∀ d ∈ r.devs, 0 < d then .excess else if ∀ d ∈ r.devs, d < 0 then .loss else .mixed := by
  simp [Run.sign]

/-- The runs cover the kept raw runs extended and clipped. -/
theorem covers_iff (set : InspectionSettings) (flags : List (Option Int)) (e : Nat) :
    (∃ r ∈ formRuns set flags, r.first ≤ e ∧ e ≤ r.last) ↔
      e < flags.length ∧ ∃ a b, KeptRaw set.q flags a b ∧ a ≤ e + set.pre ∧ e ≤ b + set.post := by
  obtain ⟨ps, is, -, covers, -⟩ := formRuns_merges set flags
  have range (r : Run) : (extended flags set.pre set.post r).first ≤ e ∧ e ≤ (extended flags set.pre set.post r).last ↔
      r.first - set.pre ≤ e ∧ e ≤ min (r.last + set.post) (flags.length - 1) := Iff.rfl
  rw [← is]
  simp only [List.mem_map, exists_exists_and_eq_and, covers, keptRaw_iff_mem, range]
  constructor
  · rintro ⟨r, mem, first, last⟩
    obtain ⟨⟨-, within, -⟩, -⟩ := keptRuns_raw mem
    exact ⟨by omega, _, _, ⟨r, mem, rfl, rfl⟩, by omega, by omega⟩
  · rintro ⟨within, _, _, ⟨r, mem, rfl, rfl⟩, first, last⟩
    exact ⟨r, mem, by omega, by omega⟩

/-- Settles O50: the pool and the numbering by the groups in turn, the runs by their merging, and the two kinds of lines by
what their groups do. -/
theorem matchingConservesDefectPool : Obligations.MatchingConservesDefectPool := by
  refine ⟨fun y t runs few => ⟨t.matchLine_total y runs, t.matchLine_opens y runs few⟩, fun y t runs fits =>
    trackerFits_matchLine fits runs, fun set flags _ => ⟨?_, covers_iff set flags, fun r mem => ?_⟩,
    fun y t runs fits one => matchLine_joins fits one, fun y oldest t left right r fits free at_ least =>
      matchLine_merges fits free at_ least⟩
  · obtain ⟨ps, is, apart, -⟩ := formRuns_merges set flags
    rw [← is]
    exact List.pairwise_map.2 apart
  · obtain ⟨ps, is, merges⟩ := formRuns_merges set flags
    obtain ⟨p, there, rfl⟩ := List.mem_map.1 (is ▸ mem)
    obtain ⟨sorted, elements⟩ := merges_carries merges there
    have ends := merges_ends (fun _ mem => keptRuns_raw mem) merges there
    obtain ⟨-, -, carries, -⟩ := merges
    obtain ⟨some, devs, -⟩ := carries p there
    exact ⟨ends, ⟨p.2, sorted, elements, devs⟩, rfl, sign_eq p.1, peak_eq some⟩

end Sys2Proof.Proofs
end
